-- ==== Sys2Proof/Word.lean ====
section
/-! DEFINITION. The word types of the model and their plainest arithmetic. -/

namespace Sys2Proof

/-- One byte. -/
abbrev Byte := BitVec 8
/-- A 64-bit scalar: a g register, a 64-bit hardware register. -/
abbrev Word := BitVec 64
/-- A 32-bit word: one instruction word, one binary32 value, a 32-bit hardware register. -/
abbrev W32 := BitVec 32
/-- A stored W128 value (R43). -/
abbrev W128 := BitVec 128
/-- The 144-bit sum of an accumulator element (R47). -/
abbrev Acc144 := BitVec 144
/-- A vector register: 512 bits. -/
abbrev VReg := BitVec 512
/-- A packed position: [3:0] core, [7:4] cluster, [13:8] region, the order of POS and of the endpoint address (R9). -/
abbrev Pos := BitVec 14

end Sys2Proof
end

