-- ==== Sys2Proof/Syntax/Forms.lean ====
section
/-! DEFINITION. The operand forms of the commands: instruction formats, packets and host structures, as records of their
fields, or their bytes where the device judges the bytes. -/

namespace Sys2Proof

/-- The hardware condition that a check finds while an operation executes (R87): none, a residue or parity failure, an ECC
error that is corrected or not, on a read or on the instruction fetch. It is the environment's choice. -/
inductive HwErr where
  | none | datapath | eccUncorr | eccCorr | fetchUncorr
  /-- An error that ECC misses has changed byte `off` of the block that is read to `v` (R153). -/
  | silent (off : BitVec 12) (v : Byte)
  deriving DecidableEq, Repr

/-- A core instruction is issued by thread `tid` of position `pos` (region, cluster, core as in POS). -/
structure Issue where
  pos : Pos
  tid : BitVec 4
  hw : HwErr := .none
  deriving DecidableEq, Repr

/-- Format R without its OPC, which the constructor is (R96). -/
structure FmtR where
  d : BitVec 5
  a : BitVec 5
  b : BitVec 5
  c : BitVec 5
  p : BitVec 3
  z31 : BitVec 1 := 0
  t : BitVec 4
  m : BitVec 4
  zhi : BitVec 24 := 0
  deriving DecidableEq, Repr

/-- Format I without its OPC (R96). -/
structure FmtI where
  d : BitVec 5
  a : BitVec 5
  b : BitVec 5
  t : BitVec 4
  m : BitVec 4
  z31 : BitVec 1 := 0
  imm : BitVec 32
  deriving DecidableEq, Repr

/-- Format M without its OPC (R97). -/
structure FmtM where
  acc : BitVec 2 := 0
  ta : BitVec 3 := 0
  tb : BitVec 3 := 0
  fa : BitVec 4 := 0
  fb : BitVec 4 := 0
  kba : BitVec 5 := 0
  kbb : BitVec 5 := 0
  ko : BitVec 10 := 0
  kx : BitVec 11 := 0
  z63 : BitVec 9 := 0
  we : BitVec 10 := 0
  gt : BitVec 5 := 0
  gx : BitVec 5 := 0
  z : BitVec 1 := 0
  tout : BitVec 3 := 0
  tbm : BitVec 8 := 0
  acm : BitVec 4 := 0
  d : BitVec 5 := 0
  zhi : BitVec 23 := 0
  deriving DecidableEq, Repr

/-- Format C without its OPC (R97). -/
structure FmtC where
  d : BitVec 5
  a : BitVec 5
  b : BitVec 5
  c : BitVec 5
  z28 : BitVec 4 := 0
  n : BitVec 3
  z35 : BitVec 1 := 0
  m : BitVec 4
  zhi : BitVec 24 := 0
  imm64 : BitVec 64
  deriving DecidableEq, Repr

/-- One stream packet: its header fields (R171, R172, R174) and payload. Fields that its layout lacks are 0. -/
structure StreamPkt where
  fmt : Nat := 0
  vc : Nat
  kind : Nat
  dst : Nat
  src : Nat
  inst : Nat := 0
  sys : Bool := false
  cm : Bool := false
  age : Nat := 0
  tag : Nat := 0
  len : Nat := 0
  off : Nat := 0
  mc : Nat := 0
  mlo : Nat := 0
  mhi : Nat := 0
  pep : Nat := 0
  arg : Nat := 0
  check : BitVec 32 := 0
  /-- On the packets of an MXMS tile with NOTE = 1: DOFF of the tile; and which tile of the source it is, in how many packets. The spec
  gives no header bits for them (log entry 14). -/
  note : Option Nat := none
  tile : Option (Nat × Nat) := none
  payload : List Byte := []
  deriving DecidableEq, Repr

/-- One basic packet (R176). -/
structure BasicPkt where
  fmt : Nat
  vc : Nat
  kind : Nat
  dst : Nat := 0
  src : Nat := 0
  seq : Nat := 0
  hops : Nat := 0
  payload : List Byte := []
  deriving DecidableEq, Repr

/-- The checks of the Dresser and of a cipher pipeline that fail while a packet is served (R415): none, a parity check of its header path, or
one of the pipeline. It is the environment's choice. -/
inductive FtHw where
  | none | header | cipher
  deriving DecidableEq, Repr

/-- What the scrubber reads: the word at a DPA, the block of a DPA, or the side store of a tile buffer of a position (R156, R412). -/
inductive ScrubAt where
  | word (a : BitVec 40)
  | block (a : BitVec 40)
  | side (pos : Pos) (tb : BitVec 3)
  deriving DecidableEq, Repr

/-- What goes wrong in the hub while a round advances, the environment's choice: the result tiles whose delivery fails its check twice (R248),
and the tile sums whose residue check fails, with whether it fails again (R415). -/
structure CollHw where
  corrupt : List Nat := []
  residue : List (Nat × Bool) := []
  deriving DecidableEq, Repr

/-- The check of the always-on domain that fails: the parity of its state, a check of a control core, the integrity of the Hutch (R434). -/
inductive AonFault where
  | parity | controlCore | hutch
  deriving DecidableEq, Repr

/-- Link power states of the host link (HL_STATUS.LPS). -/
inductive LinkPs where
  | l0 | l0p | l1 | l11 | l12 | training
  deriving DecidableEq, Repr

/-- A client request at the Sideboard's management port (R435 to R437): an EventService subscription or its end, the settings of the
SPI configuration, or the retrieval of the reports kept. -/
inductive RedfishReq where
  | subscribe (client : Nat)
  | unsubscribe (client : Nat)
  | settings (udpEn redfishEn : Bool) (minSev : BitVec 3) (udpPort : BitVec 16)
  | reports
  | other
  deriving DecidableEq, Repr

end Sys2Proof
end

