-- ==== Sys2Proof/Syntax.lean ====
section
/-! DEFINITION. The commands that the device takes: one constructor for each row of the opcode table. Operands: `i` the issuing thread and
`f` the fields of an instruction's word; `p` a packet; `hw` what a check of the hardware finds; `e` a package link end (0 to 255 the
mesh ends of R416, 256 + d the hub side of D2D-Hd, 260 + d its region side); `l` a logical port; `q` a queue by its global number; `c` or `n` a
connection, context, window or port; `fn`, `f` a function (0 the PF); `sid` a step; an Option List Byte is what the host returned for a read,
none where it refused. -/

namespace Sys2Proof

/-- One command. -/
inductive Instr where
  /-- ADD (R98). Scalar add of gA and gB into gD, wrapping modulo 2^64. -/
  | add (i : Issue) (f : FmtR)
  /-- SUB (R98). Scalar subtract of gB from gA into gD. -/
  | sub (i : Issue) (f : FmtR)
  /-- MUL (R98). Low 64 bits of the product of gA and gB into gD. -/
  | mul (i : Issue) (f : FmtR)
  /-- MULH (R98). High 64 bits of the signed or unsigned 128-bit product into gD. -/
  | mulh (i : Issue) (f : FmtR)
  /-- DIV (R100). Division truncated toward zero, with fixed results for division by zero and overflow. -/
  | div (i : Issue) (f : FmtR)
  /-- REM (R100). Remainder of the matching DIV, with fixed results for the special cases. -/
  | rem (i : Issue) (f : FmtR)
  /-- AND (R98). Bitwise AND of gA and gB into gD. -/
  | and (i : Issue) (f : FmtR)
  /-- OR (R98). Bitwise OR of gA and gB into gD. -/
  | or (i : Issue) (f : FmtR)
  /-- XOR (R98). Bitwise XOR of gA and gB into gD. -/
  | xor (i : Issue) (f : FmtR)
  /-- SHL (R98). Shift gA left by gB mod 64. -/
  | shl (i : Issue) (f : FmtR)
  /-- SHR (R98). Logical or arithmetic right shift of gA by gB mod 64. -/
  | shr (i : Issue) (f : FmtR)
  /-- CMP (R99). Writes 1 to gD when condition M holds for gA and gB, otherwise 0. -/
  | cmp (i : Issue) (f : FmtR)
  /-- SEL (R98). Selects gA or gB into gD according to gC. -/
  | sel (i : Issue) (f : FmtR)
  /-- LIH (R98). Loads IMM into the high half of gD above the low half of gA. -/
  | lih (i : Issue) (f : FmtI)
  /-- ADDI (R98). Adds the sign-extended immediate to gA. -/
  | addi (i : Issue) (f : FmtI)
  /-- MULI (R98). Multiplies gA by the immediate. -/
  | muli (i : Issue) (f : FmtI)
  /-- ANDI (R98). ANDs gA with the immediate. -/
  | andi (i : Issue) (f : FmtI)
  /-- ORI (R98). ORs gA with the immediate. -/
  | ori (i : Issue) (f : FmtI)
  /-- XORI (R98). XORs gA with the immediate. -/
  | xori (i : Issue) (f : FmtI)
  /-- SHLI (R98). Shifts gA left by the immediate. -/
  | shli (i : Issue) (f : FmtI)
  /-- SHRI (R98). Shifts gA right by the immediate. -/
  | shri (i : Issue) (f : FmtI)
  /-- CMPI (R99). Compares gA with the immediate under condition M. -/
  | cmpi (i : Issue) (f : FmtI)
  /-- BR (R98). Conditional branch relative to PC by 8 times IMM. -/
  | br (i : Issue) (f : FmtI)
  /-- JAL (R100). Jump and link to gA plus IMM, raising ALIGN on a misaligned target. -/
  | jal (i : Issue) (f : FmtI)
  /-- VADD (R101). Per-lane floating-point add under the governing predicate. -/
  | vadd (i : Issue) (f : FmtR)
  /-- VSUB (R101). Per-lane floating-point subtract. -/
  | vsub (i : Issue) (f : FmtR)
  /-- VMUL (R101). Per-lane floating-point multiply. -/
  | vmul (i : Issue) (f : FmtR)
  /-- VFMA (R62). Per-lane fused multiply-add rounded once. -/
  | vfma (i : Issue) (f : FmtR)
  /-- VDIV (R62). Per-lane IEEE division. -/
  | vdiv (i : Issue) (f : FmtR)
  /-- VSQRT (R62). Per-lane IEEE square root. -/
  | vsqrt (i : Issue) (f : FmtR)
  /-- VMIN (R101). Per-lane minimum with -0 below +0 and canonical NaN. -/
  | vmin (i : Issue) (f : FmtR)
  /-- VMAX (R101). Per-lane maximum with the VMIN rules. -/
  | vmax (i : Issue) (f : FmtR)
  /-- VCMP (R101). Per-lane floating-point compare into predicate pD. -/
  | vcmp (i : Issue) (f : FmtR)
  /-- VRCP (R65). Approximate per-lane reciprocal. -/
  | vrcp (i : Issue) (f : FmtR)
  /-- VRSQ (R65). Approximate per-lane reciprocal square root. -/
  | vrsq (i : Issue) (f : FmtR)
  /-- VEXP2 (R65). Approximate per-lane exp2. -/
  | vexp2 (i : Issue) (f : FmtR)
  /-- VLOG2 (R65). Approximate per-lane log2. -/
  | vlog2 (i : Issue) (f : FmtR)
  /-- VTANH (R65). Approximate per-lane tanh. -/
  | vtanh (i : Issue) (f : FmtR)
  /-- VCVT (R102). Converts lanes from format T to format M for the allowed pairs. -/
  | vcvt (i : Issue) (f : FmtR)
  /-- VIADD (R101). Per-lane wrapping integer add. -/
  | viadd (i : Issue) (f : FmtR)
  /-- VISUB (R101). Per-lane wrapping integer subtract. -/
  | visub (i : Issue) (f : FmtR)
  /-- VIMUL (R101). Per-lane low-half integer multiply. -/
  | vimul (i : Issue) (f : FmtR)
  /-- VAND (R101). Bitwise AND of vector registers. -/
  | vand (i : Issue) (f : FmtR)
  /-- VOR (R101). Bitwise OR of vector registers. -/
  | vor (i : Issue) (f : FmtR)
  /-- VXOR (R101). Bitwise XOR of vector registers. -/
  | vxor (i : Issue) (f : FmtR)
  /-- VSHL (R101). Per-lane left shift. -/
  | vshl (i : Issue) (f : FmtR)
  /-- VSHR (R101). Per-lane logical or arithmetic right shift. -/
  | vshr (i : Issue) (f : FmtR)
  /-- VSEL (R101). Per-lane select between vA and vB by predicate pC. -/
  | vsel (i : Issue) (f : FmtR)
  /-- VBC (R101). Broadcasts the low bits of gA to every lane. -/
  | vbc (i : Issue) (f : FmtR)
  /-- VGET (R101). Extracts one lane of vA into gD. -/
  | vget (i : Issue) (f : FmtR)
  /-- VWADD (R103). Adds four W128 lanes under the window-state rules. -/
  | vwadd (i : Issue) (f : FmtR)
  /-- VCVTW (R103). Converts four W128 lanes to binary32 under R64. -/
  | vcvtw (i : Issue) (f : FmtR)
  /-- VCVTF (R103). Converts four binary32 lanes to W128. -/
  | vcvtf (i : Issue) (f : FmtR)
  /-- VICMP (R101). Per-lane integer compare into a predicate. -/
  | vicmp (i : Issue) (f : FmtR)
  /-- LD (R104). Loads 1 to 8 bytes from a drawer or the host aperture into gD. -/
  | ld (i : Issue) (f : FmtI)
  /-- ST (R104). Stores the low bytes of gB to a drawer or the host aperture. -/
  | st (i : Issue) (f : FmtI)
  /-- VLD (R104). Loads 64 bytes into a vector register. -/
  | vld (i : Issue) (f : FmtI)
  /-- VST (R104). Stores the predicated bytes of a vector register. -/
  | vst (i : Issue) (f : FmtI)
  /-- LDB (R105). Loads a 4 KiB tensor block and its side bytes into a tile buffer with block-check verification. -/
  | ldb (i : Issue) (f : FmtI)
  /-- STB (R107). Writes a tile buffer and its side bytes to a drawer block. -/
  | stb (i : Issue) (f : FmtI)
  /-- MXM (R112). Accumulates the products of operands A and B over a K range into an accumulator. -/
  | mxm (i : Issue) (f : FmtM)
  /-- MXMS (R114). Performs an MXM, reads out and converts the accumulator and delivers the tile to destination positions. -/
  | mxms (i : Issue) (f : FmtM)
  /-- MXMR (R115). Performs an MXM, reads out and converts the accumulator and contributes the tile to a collective. -/
  | mxmr (i : Issue) (f : FmtM)
  /-- MXST (R113). Reads out and converts an accumulator into a tile buffer. -/
  | mxst (i : Issue) (f : FmtM)
  /-- MXAW (R116). Adds a stored W128 tile from a buffer pair into an accumulator. -/
  | mxaw (i : Issue) (f : FmtM)
  /-- ACLR (R117). Clears an accumulator after the instructions queued on it. -/
  | aclr (i : Issue) (f : FmtM)
  /-- ASAVE (R81). Writes the 16 KiB save image of an accumulator to a drawer. -/
  | asave (i : Issue) (f : FmtM)
  /-- ARST (R81). Restores an accumulator from a save image, checking its validity. -/
  | arst (i : Issue) (f : FmtM)
  /-- ASTAT (R117). Reads ACCST into gD after the queued matrix instructions on the accumulator. -/
  | astat (i : Issue) (f : FmtM)
  /-- MALLOC (R76). Claims tile buffers and accumulators all or nothing, returning the owned-by-other mask. -/
  | malloc (i : Issue) (f : FmtM)
  /-- MFREE (R76). Ends the thread's ownership of named matrix resources. -/
  | mfree (i : Issue) (f : FmtM)
  /-- SEND (R118). Sends a packet of words to the mailbox of a core position. -/
  | send (i : Issue) (f : FmtC)
  /-- MBRD (R118). Reads one word of the core's mailbox, or the count of waiting packets. -/
  | mbrd (i : Issue) (f : FmtC)
  /-- AFADD (R120). Atomic fetch-and-add on a drawer word. -/
  | afadd (i : Issue) (f : FmtI)
  /-- ASWAP (R120). Atomic swap on a drawer word. -/
  | aswap (i : Issue) (f : FmtI)
  /-- ACAS (R120). Atomic compare-and-swap on a drawer word. -/
  | acas (i : Issue) (f : FmtI)
  /-- LKACQ (R145). Tries or waits to acquire a lock word, returning a lock status. -/
  | lkacq (i : Issue) (f : FmtI)
  /-- LKREL (R146). Releases a lock word held by the issuing thread. -/
  | lkrel (i : Issue) (f : FmtI)
  /-- FENCE (R138). Orders the thread's memory accesses in acquire, release or full form. -/
  | fence (i : Issue) (f : FmtI)
  /-- WAITB (R85). Puts the thread in WAITING until a target beat, or continues at once. -/
  | waitb (i : Issue) (f : FmtI)
  /-- COMMIT (R84). Begins the thread's exit from its step, waiting for its earlier instructions. -/
  | commit (i : Issue) (f : FmtI)
  /-- SRR (R123). Reads a special register into gD. -/
  | srr (i : Issue) (f : FmtI)
  /-- SRW (R123). Writes a special register, raising ILLEGAL_OP for a read-only one. -/
  | srw (i : Issue) (f : FmtI)
  /-- TSTART (R83). Starts an IDLE thread of the same core within the current step. -/
  | tstart (i : Issue) (f : FmtI)
  /-- NOP (R123). Instruction that does nothing. -/
  | nop (i : Issue) (f : FmtI)
  /-- TRANSFER_DONE (R108). An LDB, STB, ASAVE or ARST in a transfer slot finishes its drawer transfer. -/
  | transferDone (pos : Pos) (slot : BitVec 2) (hw : HwErr)
  /-- MATRIX_OP_DONE (R413). A matrix instruction ends its work in the matrix unit and its residue check is judged. -/
  | matrixOpDone (pos : Pos) (hw : HwErr)
  /-- READOUT_DONE (R80). An accumulator read-out of 16 rows ends and the converted tile leaves. -/
  | readoutDone (pos : Pos) (hw : HwErr)
  /-- MXMS_DELIVERED (R114). Every destination of an MXMS tile has acknowledged placement and the instruction finishes. -/
  | mxmsDelivered (pos : Pos)
  /-- MXMR_STAGED (R115). The collective engine stages an MXMR contribution once its round is accepted. -/
  | mxmrStaged (pos : Pos) (hw : CollHw)
  /-- SEND_ACCEPTED (R118). The destination mailbox accepts the whole SEND packet. -/
  | sendAccepted (pos : Pos) (tid : BitVec 4)
  /-- THREAD_COMMIT (R84). A COMMIT's earlier instructions have finished and passed their checks, and the thread enters COMMITTED. -/
  | threadCommit (pos : Pos) (tid : BitVec 4)
  /-- LOCK_REEVALUATE (R147). A waiting LKACQ re-evaluates the lock word on a write, a loss of liveness or every 256 cycles. -/
  | lockReevaluate (pos : Pos) (tid : BitVec 4) (hw : HwErr)
  /-- REPLAY_RESTART (R418). After a class H fault the step restarts on the same placement from its start records. -/
  | replayRestart (sid : Nat)
  /-- LINK_PACKET_RX (R177). A package link end receives a packet, checks its CRC and asks for a resend on a mismatch. -/
  | linkPacketRx (e : Nat) (l : List Byte) (crc : BitVec 32)
  /-- LINK_TRAINED (R178). A package link end is powered and trained and enters BASIC to run the link test. -/
  | linkTrained (e : Nat)
  /-- LINK_TEST_TIMEOUT (R178). A link test or a frozen BASIC link end does not pass within 100 µs and fails, possibly to DOWN. -/
  | linkTestTimeout (e : Nat)
  /-- STREAM_EN_WRITE (R178). A write of FAB_CTRL.STREAM_EN lets link ends enter STREAM or returns them to BASIC. -/
  | streamEnWrite (v : BitVec 32)
  /-- RD (R175). A read request arrives at its destination and is answered with RSP. -/
  | rd (p : StreamPkt) (hw : HwErr)
  /-- WR (R175). A write of up to 64 bytes arrives and is answered with ACK. -/
  | wr (p : StreamPkt)
  /-- AMO (R175). An atomic or lock operation arrives at the word's drawer and is answered with RSP. -/
  | amo (p : StreamPkt) (hw : HwErr)
  /-- RDBLK (R175). A block read request arrives and is answered with RBLK carrying the block check. -/
  | rdblk (p : StreamPkt) (hw : HwErr)
  /-- RSP (R173). A response arrives and frees its tag, or is discarded when no request matches. -/
  | rsp (p : StreamPkt)
  /-- ACK (R175). A fabric acknowledgement arrives, reporting placement status and any congestion echo. -/
  | ack (p : StreamPkt)
  /-- DATA (R175). Stream data arrives, passes the instance and epoch checks and is placed, then acknowledged. -/
  | data (p : StreamPkt)
  /-- WBLK (R155). A whole block with its carried check arrives and is verified and placed. -/
  | wblk (p : StreamPkt)
  /-- RBLK (R175). A block read response with its check arrives at the requester. -/
  | rblk (p : StreamPkt)
  /-- MBX (R385). A mailbox packet arrives and is written into the fill bank once it fits. -/
  | mbx (p : StreamPkt)
  /-- NOTE (R114). An MXMS note word arrives at the destination core's mailbox. -/
  | note (p : StreamPkt)
  /-- CTRL (R184). A control message arrives, replicated by region mask when multicast. -/
  | ctrl (p : StreamPkt)
  /-- LKPROBE (R147). A lock-holder liveness probe arrives at the holder's cluster router. -/
  | lkprobe (p : StreamPkt)
  /-- LKREPLY (R147). A liveness reply arrives and completes the lock evaluation. -/
  | lkreply (p : StreamPkt)
  /-- HELLO (R194). A HELLO from a partner arrives and fills its NBR entry. -/
  | hello (l : Nat)
  /-- LSA (R194). A neighbour-list LSA arrives, is forwarded once and may restart discovery. -/
  | lsa (l : Nat)
  /-- LTEST (R178). A link-test pattern packet arrives. -/
  | ltest (e : Nat) (p : BasicPkt)
  /-- LTEST_END (R178). The end of a link test arrives and the test is judged pass or fail. -/
  | ltestEnd (e : Nat) (p : BasicPkt)
  /-- RECOVER (R178). A RECOVER packet arrives and the link end leaves STREAM for BASIC. -/
  | recover (e : Nat)
  /-- CTRLMSG (R176). A Tutoby control message arrives during start-up or recovery. -/
  | ctrlmsg (e : Nat) (p : BasicPkt)
  /-- RL_PERIOD_UPDATE (R189). At each rate-law period a flow updates its rate and mark fraction. -/
  | rlPeriodUpdate (conn : Option Nat)
  /-- QDEPTH_SAMPLE (R197). Every QSAMPLE_NS each router port samples its buffer depth and peak. -/
  | qdepthSample (hub : Bool) (port : Nat) (stall : Nat)
  /-- HELLO_TIMER (R194). Every 1 ms during discovery the FR8 sends HELLO on each up port. -/
  | helloTimer (flood : Bool)
  /-- DISC_START (R194). A write of 1 to DISC_CTRL.START begins a discovery run. -/
  | discStart (v : BitVec 32)
  /-- DISC_QUIET_EXPIRY (R195). No new LSA for QUIET ms, so every FR8 computes the device-number assignment. -/
  | discQuietExpiry
  /-- DEV_ID_WRITE (R196). A manager write of DEV_ID with ORIGIN 3 sets the number and the battery-backed word. -/
  | devIdWrite (v : BitVec 32)
  /-- TIME_UPDATE (R204). A measurement from the PTP source updates the servo, slewing or jumping and moving the time state. -/
  | timeUpdate (l : BitVec 6) (dom : BitVec 8) (off : BitVec 64)
  /-- PPS_EDGE (R202). A rising edge of TIME_PPS_IN gives a servo measurement against the nearest second. -/
  | ppsEdge (localNs : BitVec 64)
  /-- TIME_SOURCE_TIMEOUT (R205). No update for the loss timeout moves time to HOLDOVER. -/
  | timeSourceTimeout
  /-- HOLDOVER_EXPIRY (R205). One second in HOLDOVER moves time to LOST and raises TIME_LOST. -/
  | holdoverExpiry
  /-- SRC_WRITE (R205). A write of TT_SRC_CFG.SRC selects a new time source and moves the time state. -/
  | srcWrite (v : BitVec 32)
  /-- TT_SET_WRITE (R208). A complete write of TT_SET loads fabric time, or is refused. -/
  | ttSetWrite (v : Word) (full : Bool)
  /-- TT_BEAT_CFG_WRITE (R211). A write of BEAT_Q takes effect only with no timetable running or armed. -/
  | ttBeatCfgWrite (v : BitVec 32)
  /-- TT_BEAT_EPOCH_WRITE (R211). A write of the beat epoch takes effect only with no timetable running or armed. -/
  | ttBeatEpochWrite (v : Word)
  /-- TT_TIME_READ (R230). A read of TT_TIME returns NS and captures FRAC into TT_TIME_FRAC. -/
  | ttTimeRead
  /-- PPS_OUT_PULSE (R202). At each whole second of local time TIME_PPS_OUT pulses when enabled. -/
  | ppsOutPulse
  /-- BEAT_BOUNDARY (R219). At each beat boundary placement changes and due timetable actions are applied in fixed order. -/
  | beatBoundary
  /-- STEP_INPUT_MET (R220). The last EXPECT of a waiting step is met before its deadline and the step starts. -/
  | stepInputMet (sid : Nat)
  /-- TT_LOAD (R212). Command that checks a timetable image and loads it. -/
  | ttLoad (image : Option (List Byte))
  /-- TT_START (R212). Command that arms a loaded timetable to run from beat B0. -/
  | ttStart
  /-- TT_STOP (R212). Command that stops a timetable from a stop beat. -/
  | ttStop
  /-- TT_UNLOAD (R212). Command that unloads a loaded or halted timetable. -/
  | ttUnload
  /-- COLL_OPEN (R233). Command that checks a context descriptor, reads participants and reserves staging. -/
  | collOpen (desc ptab : Option (List Byte))
  /-- COLL_RUN (R238). Command that contributes the next round of a HOST-mode context. -/
  | collRun
  /-- COLL_CLOSE (R233). Command that closes a context once its open rounds complete. -/
  | collClose
  /-- COLL_MODE_WRITE (R237). A write of COLI_CFG.COLL_MODE takes effect only with no open or closing contexts. -/
  | collModeWrite (i : Nat) (v : BitVec 32)
  /-- COLL_ROUND_START (R238). A HOST-mode round starts once earlier rounds allow and reads its source tiles. -/
  | collRoundStart (n : Nat) (hw : CollHw)
  /-- COLL_LOCAL_CLOSE_TIMEOUT (R241). TIMEOUT_US after a round's first contribution its local part closes. -/
  | collLocalCloseTimeout (n r : Nat) (hw : CollHw)
  /-- COLL_ROUND_TIMEOUT (R251). The round timeout expires and every unplaced fragment fails. -/
  | collRoundTimeout (n r : Nat)
  /-- COLL_SEGMENT_DATA (R246). A DATA segment from a peer arrives in staging and is reduced or copied. -/
  | collSegmentData (h : List Byte) (items : List (List Byte × Bool)) (hw : CollHw)
  /-- COLL_SEGMENT_END (R247). An END segment arrives and may finish an all-to-all round. -/
  | collSegmentEnd (h : List Byte) (hw : CollHw)
  /-- COLL_SEGMENT_ARRIVE (R246). An ARRIVE segment of a barrier arrives. -/
  | collSegmentArrive (h : List Byte)
  /-- FT_CONN_ALLOC (R264). Command that allocates a connection bound to its queues. -/
  | ftConnAlloc (n : Nat)
  /-- FT_CONN_CONNECT (R264). Command that sets a connection's context and moves it to RTS. -/
  | ftConnConnect
  /-- FT_CONN_CLOSE (R263). Command that closes a connection, draining it to FREE. -/
  | ftConnClose
  /-- FT_CONN_RESET (R263). Command that returns a connection in ERROR to FREE. -/
  | ftConnReset
  /-- FT_WIN_OPEN (R274). Command that opens a window and returns its tag. -/
  | ftWinOpen (n : Nat)
  /-- FT_WIN_REVOKE (R277). Command that revokes a window at once and waits for its fence. -/
  | ftWinRevoke
  /-- FT_WIN_REVOKE_DONE (R277). Every access classified against a revoked window has been performed and the command replies. -/
  | ftWinRevokeDone (n : Nat)
  /-- FT_CANCEL (R272). Command that cancels an unstarted request, or returns TOO_LATE. -/
  | ftCancel (ring : Option (List Byte))
  /-- FT_CNT_SET (R269). Command that writes a receive counter. -/
  | ftCntSet
  /-- FT_SEND (R266). A fetched send-queue entry is checked by the Dresser and queued or refused. -/
  | ftSend (q : Nat)
  /-- FT_RECV (R267). A fetched receive-queue entry is made available for SEND and WRITE_IMM messages. -/
  | ftRecv (q : Nat)
  /-- FT_ARMED_FIRE (R270). An ARMED request's trigger counter reaches its value and the request fires. -/
  | ftArmedFire (q idx : Nat)
  /-- FT_TX_SLICE (R286). The Dresser grants a transmit slice and commits one packet to the MAC. -/
  | ftTxSlice (lose : Bool)
  /-- FT_CTX_FETCH_DONE (R286). A missed connection context arrives from hub SRAM into the Dresser cache. -/
  | ftCtxFetchDone (c evict : Nat)
  /-- FT_SEND_PACKET (R267). An FT SEND packet passes reception checks and consumes a receive entry or draws NAK_BUSY. -/
  | ftSendPacket (l : Nat) (cm : Bool) (hw : FtHw)
  /-- WRITE (R275). An FT WRITE packet is classified against its window and placed in DSN order. -/
  | write (l : Nat) (cm : Bool) (hw : FtHw)
  /-- WRITE_IMM (R267). An FT WRITE_IMM packet is placed in its window and delivers its immediate. -/
  | writeImm (l : Nat) (cm : Bool) (hw : FtHw)
  /-- READ_REQ (R281). An FT read request is executed once and answered from the response cache. -/
  | readReq (l : Nat) (cm : Bool) (hw : FtHw)
  /-- READ_RESP (R268). An FT read response is placed in the requester's local buffer. -/
  | readResp (l : Nat) (hw : FtHw)
  /-- ATOMIC (R275). An FT atomic is executed at the drawer and answered with its old value. -/
  | atomic (l : Nat) (cm : Bool) (hw : FtHw)
  /-- ATOMIC_RESP (R268). An FT atomic response places the old value at LADDR. -/
  | atomicResp (l : Nat) (hw : FtHw)
  /-- FT_ACK (R282). An FT acknowledgement completes the requests its CDSN covers and feeds the rate law. -/
  | ftAck (l : Nat) (hw : FtHw)
  /-- NAK_SEQ (R280). A sequence NAK makes the sender resend the missing DSNs. -/
  | nakSeq (l : Nat) (hw : FtHw)
  /-- NAK_BUSY (R280). A receiver-not-ready NAK makes the sender wait and resend. -/
  | nakBusy (l : Nat) (hw : FtHw)
  /-- NAK_ACCESS (R282). A fatal access NAK completes the request REMOTE_ACCESS and the connection enters ERROR. -/
  | nakAccess (l : Nat) (hw : FtHw)
  /-- NAK_EXPIRED (R282). A fatal expiry NAK completes the request WINDOW_EXPIRED. -/
  | nakExpired (l : Nat) (hw : FtHw)
  /-- NAK_INVALID (R282). A fatal invalid NAK completes the request REMOTE_INVALID. -/
  | nakInvalid (l : Nat) (hw : FtHw)
  /-- NAK_CHECK (R283). A block-check NAK makes the sender re-read and resend, or fail the fragment. -/
  | nakCheck (l : Nat) (hw : FtHw)
  /-- FT_RTO_EXPIRY (R280). A retransmission timeout expires and the oldest DSN is resent or RETRY_EXCEEDED. -/
  | ftRtoExpiry (c : Nat)
  /-- FT_RNR_DELAY_EXPIRY (R280). The RNR delay after NAK_BUSY ends and the DSN is resent. -/
  | ftRnrDelayExpiry (c : Nat)
  /-- FT_ACK_DELAY_EXPIRY (R279). ACK_DELAY ns after the first unacknowledged placement an ACK is sent. -/
  | ftAckDelayExpiry (c : Nat)
  /-- FT_DRAIN_TIMEOUT (R263). A draining connection exceeds DRAIN_MS and enters ERROR. -/
  | ftDrainTimeout (n : Nat)
  /-- ETH_FRAME_RX (R297). A logical port receives a whole frame and runs FEC, filter, checksum, meter and buffer steps before delivery.
  -/
  | ethFrameRx (l : Nat) (frame : List Byte) (fecBad : Bool) (cw sym : Nat)
  /-- PAUSE_RX (R306). An IEEE 802.3 PAUSE frame is received and pauses all priorities. -/
  | pauseRx (l quanta : Nat)
  /-- PFC_RX (R306). A PFC frame is received and pauses the priorities it names. -/
  | pfcRx (l vec : Nat) (times : List Nat)
  /-- PAUSE_TIME_END (R308). A received pause time ends and the priority returns to NORMAL. -/
  | pauseTimeEnd (l p : Nat)
  /-- PAUSE_WATCHDOG_EXPIRY (R308). A paused priority reaches PWD_LIMIT and enters BROKEN. -/
  | pauseWatchdogExpiry (l p : Nat)
  /-- PWD_RECOVER_EXPIRY (R308). No nonzero pause for PWD_RECOVER ms returns a BROKEN priority to NORMAL. -/
  | pwdRecoverExpiry (l p : Nat)
  /-- PAUSE_REPEAT (R307). Half the pause time passes above XON and the MAC sends the pause again. -/
  | pauseRepeat (l p : Nat)
  /-- LANE_CAL_DONE (R294). The lanes of a logical port lock and adapt and it moves to DOWN to train. -/
  | laneCalDone (l : Nat)
  /-- LINK_UP (R294). Training, PCS alignment and FEC lock complete and the logical port is UP. -/
  | linkUp (l : Nat)
  /-- LINK_DOWN (R294). PCS alignment or FEC lock is lost and the logical port goes DOWN. -/
  | linkDown (l : Nat)
  /-- PORT_CFG_WRITE (R291). A PORT_CFG write sets breakout and lane rate and starts calibration, or is refused. -/
  | portCfgWrite (n : Nat) (v : BitVec 32)
  /-- LP_EN_WRITE (R294). A write of LP_CFG.LP_EN enables or disables a logical port. -/
  | lpEnWrite (l : Nat) (v : BitVec 32)
  /-- PORT_HOLD_EXPIRY (R295). A held frame's port stays not UP for HOLD_MS and the frame is discarded LINK_NOT_READY. -/
  | portHoldExpiry (l q : Nat)
  /-- EGRESS_VISIT (R312). The DRR scheduler visits an active egress queue and sends frames within its deficit. -/
  | egressVisit (l : Nat)
  /-- MTR_CTL_WRITE (R305). A write of MTR_CTL applies the shadowed rates and fills both buckets. -/
  | mtrCtlWrite (n m : Nat) (v : BitVec 32)
  /-- PTP_TXTS_POP (R313). A write of POP moves the transmit-stamp FIFO head into the stamp registers. -/
  | ptpTxtsPop (l : Nat)
  /-- FEC_RATE_CHECK (R315). Each millisecond corrected FEC symbols are compared with THR and FEC_DEGRADED may be raised. -/
  | fecRateCheck (l extra : Nat)
  /-- HUTCH_KEK_LOAD (R322). Command that unwraps and replaces an instance's KEK. -/
  | hutchKekLoad
  /-- HUTCH_KEK_CLEAR (R322). Command that zeroises an instance's KEK. -/
  | hutchKekClear
  /-- HUTCH_KEY_LOAD (R322). Command that unwraps a traffic key into a slot. -/
  | hutchKeyLoad
  /-- HUTCH_KEY_CLEAR (R322). Command that zeroises a traffic-key slot. -/
  | hutchKeyClear
  /-- CIP_EN_WRITE (R330). A write of CIP_CTRL.EN enables the cipher engine unless the self-test failed. -/
  | cipEnWrite (v : BitVec 32)
  /-- HL_TRAINED (R334). The host link trains to a rate and width, raising HL_DOWNTRAIN below full. -/
  | hlTrained (speed width : Nat) (cxl : Bool)
  /-- HDM_HOST_READ (R343). A host or peer read of SRAM is judged by the granule's bias. -/
  | hdmHostRead (off : BitVec 35) (len : Nat) (cxl : Bool) (rid : Option (BitVec 16))
  /-- HDM_HOST_WRITE (R343). A host or peer write of SRAM is performed or discarded by the granule's bias. -/
  | hdmHostWrite (off : BitVec 35) (data : List Byte) (cxl : Bool) (rid : Option (BitVec 16))
  /-- HDM_BIAS_SET (R344). Command that changes the bias of a range of granules. -/
  | hdmBiasSet
  /-- BIAS_FLUSH_DONE (R344). A FLUSHING granule's host lines are recalled and it becomes DEVICE. -/
  | biasFlushDone (g : BitVec 19)
  /-- D3HOT_ENTER (R352). The host puts a function in D3hot, possibly taking the device to PL4. -/
  | d3hotEnter (f : BitVec 6) (pmeEn : Bool)
  /-- D0_RETURN (R352). A function returns to D0, writing held completions and pending messages. -/
  | d0Return (f : BitVec 6)
  /-- FLR_PF (R453). A function-level reset of the PF destroys every instance and resets PF state. -/
  | flrPf
  /-- FLR_VF (R337). A function-level reset of a bound VF requests an instance reset. -/
  | flrVf (v : BitVec 6)
  /-- LTR_WRITE (R336). The host programs the LTR latency fields and the host latency value changes. -/
  | ltrWrite (en : Bool) (snoop noSnoop : Option (BitVec 32))
  /-- APERTURE_READ_COMPLETION (R135). A host-link completion for an aperture or engine read arrives, good or refused. -/
  | apertureReadCompletion (tag : Nat) (data : Option (List Byte))
  /-- COMPLETION_TIMEOUT (R135). A host read exceeds the completion timeout and is treated as refused. -/
  | completionTimeout (tag : Nat)
  /-- MSIX_MOD_TIMER (R351). A vector's moderation timer or count threshold is reached and the vector delivers. -/
  | msixModTimer (f : BitVec 6) (v : BitVec 11)
  /-- MSIX_UNMASK (R352). A vector or function is unmasked or enabled and a pending message is sent. -/
  | msixUnmask (f : BitVec 6) (en fnMask : Bool) (v : Option (BitVec 11))
  /-- LINK_L0_REACHED (R352). The link reaches L0 after an exit and the waiting MSI-X message is sent. -/
  | linkL0Reached
  /-- EMU_WRITE (R354). A host write to BAR2 lands in the emulated-register ring and sets PENDING. -/
  | emuWrite (off : BitVec 24) (size : Nat) (v : BitVec 32)
  /-- EMU_ACT (R354). Tutoby acts on the oldest landed write and updates the readback value. -/
  | emuAct
  /-- EMU_HEARTBEAT (R356). Every 1 ms Tutoby increments the heartbeat while running. -/
  | emuHeartbeat
  /-- FW_WATCHDOG (R434). The heartbeat does not advance for 100 ms and a FATAL error is raised. -/
  | fwWatchdog
  /-- MOVE_FRAGMENT_DONE (R158). A move fragment succeeds or fails, and the move completes when all have. -/
  | moveFragmentDone (id f : Nat) (corrupt : Bool) (host : Option (List Byte))
  /-- DOORBELL (R366). A doorbell to a submission queue starts a forward scan or sets DB_PEND. -/
  | doorbell (fn slot : Nat)
  /-- QUEUE_ENTRY_FETCHED (R365). A fetched entry is judged by its phase and type and handed to its owner or stops the scan. -/
  | queueEntryFetched (q : Nat) (data : Option (List Byte))
  /-- QUEUE_ENABLE (R371). A write of QCTL.EN = 1 makes a valid queue ACTIVE or raises CFG_BAD. -/
  | queueEnable (q : Nat)
  /-- QUEUE_DISABLE (R371). A write of QCTL.EN = 0 makes an active queue DRAINING. -/
  | queueDisable (q : Nat)
  /-- QUEUE_CLR_ERR (R371). A write of CLR_ERR returns a queue from ERROR to DISABLED. -/
  | queueClrErr (q : Nat)
  /-- CQ_CONS_WRITE (R376). A write of CQ_CONS frees completion-queue space and lets held completions be written. -/
  | cqConsWrite (q : Nat) (v : BitVec 32)
  /-- QUE_PF_WRITE (R388). A write of QUE_PF sets the PF queue range when no PF queue is active. -/
  | quePfWrite (v : BitVec 32)
  /-- HEAD_PUBLISH (R369). The FR8 writes a queue's head to QHEAD_ADDR within 1 µs of its advance. -/
  | headPublish (q : Nat)
  /-- JOB_STEP (R377). A job entry requesting a step on named regions is checked. -/
  | jobStep (q : Nat)
  /-- JOB_STEP_START (R377). A job step's regions are free of earlier job steps and its threads start. -/
  | jobStepStart (q : Nat)
  /-- JOB_MOVE (R377). A job entry requesting a block move is checked and started. -/
  | jobMove (q : Nat)
  /-- JOB_HCOPY (R348). A job entry requesting a host copy is checked and started. -/
  | jobHcopy (q : Nat)
  /-- CMD_ACCEPT (R379). Tutoby accepts the next command of a queue in round robin and checks it. -/
  | cmdAccept (q : Nat) (payload : Option (List Byte))
  /-- CMD_REPLY (R381). A command reply is written to the reply mailbox once it fits. -/
  | cmdReply (fn : Nat)
  /-- HRM_DATA_READ (R385). A read of HRM_DATA returns and removes the oldest reply word. -/
  | hrmDataRead (fn : Nat) (low : Bool)
  /-- CMD_NOP (R382). Command that does nothing but reply. -/
  | cmdNop
  /-- CREATE_INSTANCE (R392). Command that checks resources, reserves them and creates an instance. -/
  | createInstance
  /-- DESTROY_INSTANCE (R394). Command that resets an instance and returns its resources. -/
  | destroyInstance
  /-- RESET_INSTANCE (R397). Command that requests an instance reset sequence. -/
  | resetInstance
  /-- FREEZE_INSTANCE (R402). Command that schedules an instance freeze at beat F. -/
  | freezeInstance
  /-- SAVE_INSTANCE (R405). Command that writes a save image of an instance to host memory. -/
  | saveInstance (gmap : Option (List Byte))
  /-- RESTORE_INSTANCE (R407). Command that applies a save image to a frozen instance. -/
  | restoreInstance (image : Option (List Byte))
  /-- RESUME_INSTANCE (R408). Command that makes a frozen instance active again. -/
  | resumeInstance
  /-- DIRTY_LOG_START (R403). DIRTY_LOG operation that starts logging into bitmap A. -/
  | dirtyLogStart
  /-- DIRTY_LOG_EPOCH (R403). DIRTY_LOG operation that ends an epoch and writes its granule map. -/
  | dirtyLogEpoch
  /-- DIRTY_LOG_STOP (R403). DIRTY_LOG operation that ends logging. -/
  | dirtyLogStop
  /-- MOVE (R382). Command that performs a block move. -/
  | move
  /-- HCOPY (R348). Command that performs a host copy. -/
  | hcopy
  /-- RESET_DRAIN_DONE (R398). An instance's tagged packets, engine requests and host writes have drained and the reset continues to
  bias and clear. -/
  | resetDrainDone (i : BitVec 6)
  /-- ZEROISE_DONE (R400). Zeroisation of a region completes, and the instance's reset or creation completes when all have. -/
  | zeroiseDone (r : BitVec 6)
  /-- FREEZE_DONE (R402). Every started item of a freezing instance has ended and it becomes FROZEN. -/
  | freezeDone (i : BitVec 6)
  /-- FREEZE_CUT (R402). FRZ_LIMIT expires and the remaining work is aborted before freezing. -/
  | freezeCut (i : BitVec 6)
  /-- SCRUB (R156). The scrubber reads a word or verifies a block check, correcting or poisoning. -/
  | scrub (x : ScrubAt) (hw : HwErr)
  /-- CORE_AGE_TICK (R424). Each hour core ages advance, making cores due or overdue and testing a due spare. -/
  | coreAgeTick
  /-- IFT_DONE (R425). An in-field test ends and the core becomes SPARE, is retested or is retired. -/
  | iftDone (unit : Nat) (pass : Bool)
  /-- ERROR_HANDLE (R432). The error handler takes the highest-severity captured error, logs it and applies placement decisions. -/
  | errorHandle
  /-- SIDEBOARD_HEARTBEAT (R436). Every 10 s the Sideboard sends a heartbeat report. -/
  | sideboardHeartbeat
  /-- HIST_FLASH_WRITE (R429). The Sideboard writes a history event to flash within 1 s. -/
  | histFlashWrite (ok : Bool)
  /-- REL_FORCE_TEST (R438). REL_FORCE with ACTION TEST treats a core as due now. -/
  | relForceTest (u : BitVec 20)
  /-- REL_FORCE_RETIRE (R438). REL_FORCE with ACTION RETIRE retires a core. -/
  | relForceRetire (u : BitVec 20)
  /-- REL_FORCE_RETURN (R428). REL_FORCE with ACTION RETURN tests a retired core and returns it on a pass. -/
  | relForceReturn (u : BitVec 20)
  /-- HQ_UNIT_WRITE (R438). A write of REL_HQ_UNIT asks the Sideboard for a unit's history. -/
  | hqUnitWrite (v : BitVec 32)
  /-- HQ_ANSWER (R438). The Sideboard answers a history query and sets VALID. -/
  | hqAnswer
  /-- REGION_WAKE_DONE (R441). A region's exit from PL1 or PL2 ends and waiting accesses proceed. -/
  | regionWakeDone (r : BitVec 6)
  /-- PL3_EXIT (R444). The device's exit from PL3 ends after an access started it. -/
  | pl3Exit
  /-- FREQ_STEP (R447). The region clock takes one 50 MHz step toward its target or cap. -/
  | freqStep (r : BitVec 6)
  /-- FREQ_TGT_WRITE (R447). A write of FREQ_TGT rounds and clamps the target and starts frequency steps. -/
  | freqTgtWrite (r : BitVec 6) (v : BitVec 32)
  /-- POWER_SAMPLE (R448). Every 100 µs input power is measured and the device power cap adjusted. -/
  | powerSample (vin iin : BitVec 16)
  /-- THERMAL_SAMPLE (R449). Every 100 µs junction sensors are read and thermal caps, THERM_HOT or trip applied. -/
  | thermalSample (temps : List (BitVec 8))
  /-- REF_LOST (R451). ETH_REFCLK is lost and PLLs switch to the internal oscillator. -/
  | refLost
  /-- REF_RESTORED (R451). ETH_REFCLK has been stable for 1 ms and PLLs switch back. -/
  | refRestored
  /-- PCIE_REFCLK_LOST (R451). Loss of PCIE_REFCLK takes the host link down. -/
  | pcieRefclkLost
  /-- VIN_SAMPLE (R471). Every 100 µs VIN is measured and range events or domain shutdown applied. -/
  | vinSample (v : BitVec 16)
  /-- POWER_ON_RESET (R452). 48 V applied or PWR_EN after D3cold resets the device and the Sideboard applies stored roles. -/
  | powerOnReset
  /-- PERST_N_ASSERT (R453). PERST_N asserted resets the device state that it reaches. -/
  | perstNAssert
  /-- PERST_N_DEASSERT (R472). PERST_N deasserted lets the host link train. -/
  | perstNDeassert
  /-- PWR_EN_ASSERT (R472). PWR_EN asserted ramps the switched rails and then PWR_GOOD. -/
  | pwrEnAssert
  /-- PWR_EN_DEASSERT (R446). PWR_EN deasserted switches every switched domain off. -/
  | pwrEnDeassert
  /-- PWR_EN_HOLD_END (R472). The 100 ms hold after a PWR_EN deassertion ends and a pending reassertion takes effect. -/
  | pwrEnHoldEnd
  /-- POSITION_RESET (R454). A write of GLB_POSRST.GO resets one position and aborts its step. -/
  | positionReset (pos : BitVec 14)
  /-- POS_RESET_DONE (R454). A position reset ends and POS_RESET_DONE is raised. -/
  | posResetDone
  /-- BOOT_GO (R455). A write of GLB_BOOT_CTL.GO starts the boot ROM fetch of the Tutoby image. -/
  | bootGo
  /-- BOOT_VERIFY (R456). The fetched image is checked and Tutoby is started or boot fails. -/
  | bootVerify (image : Option (List Byte)) (katOk : Bool)
  /-- STARTUP_PORTS_DONE (R455). Every enabled logical port is UP or 1 s passes and start-up continues to discovery. -/
  | startupPortsDone
  /-- STARTUP_FABRIC_READY (R455). Package links are in STREAM and the FR8 enters normal service. -/
  | startupFabricReady
  /-- VBAT_LOW (R457). VBAT falls below 2.2 V without 48 V and the battery words become invalid. -/
  | vbatLow
  /-- RTC_TICK (R457). The battery RTC counts one second. -/
  | rtcTick
  /-- RTC_WRITE (R457). A write to word 41 loads both RTC words at once. -/
  | rtcWrite (v : BitVec 32)
  /-- QPEAK_READ (R200). A read of QPEAK returns and clears the peak depths. -/
  | qpeakRead (hub : Bool) (port : Nat)
  /-- PWR_PEAK_READ (R460). A read of PWR_PEAK returns and clears the highest power average. -/
  | pwrPeakRead
  /-- REG_LOW_HALF_READ (R28). A 4-byte read of the low half of a 64-bit register captures the high half in the read shadow. -/
  | regLowHalfRead (fn : BitVec 6) (bar2 : Bool) (off : BitVec 26) (size : Nat)
  /-- REG_WRITE (R24). A write to a register with no row of its own, with split, collision and bad-access rules. -/
  | regWrite (fn : BitVec 6) (bar2 : Bool) (off : BitVec 26) (size : Nat) (v : Word)
  /-- PWR_GOOD_ASSERT (R472). The switched rails finish their ramp after PWR_EN and PWR_GOOD asserts; the 100 ms host-link hold is
  counted from here. -/
  | pwrGoodAssert
  /-- RAIL_FAULT (R472). A switched rail leaves regulation while PWR_EN is high, and PWR_GOOD falls. -/
  | railFault
  /-- PLL_UNLOCK (R461). A PLL loses lock, raising PLL_UNLOCK, incrementing PLL_UNLOCK_CNT and clearing its CLK_LOCK bit. -/
  | pllUnlock (d : Nat)
  /-- PCIE_REFCLK_RESTORED (R451). PCIE_REFCLK returns and the host link can train again under PCIe rules. -/
  | pcieRefclkRestored
  /-- HOST_LINK_DOWN (R336). The host link leaves DL_Active, HL_LTR becomes unbounded and host-link traffic stops until retraining. -/
  | hostLinkDown
  /-- LINK_POWER_STATE_ENTRY (R352). The host link enters L0p or ASPM L1, L1.1 or L1.2, changing how MSI-X delivery proceeds and how
  CLKREQ_N is driven. -/
  | linkPowerStateEntry (ps : LinkPs)
  /-- PME_STATUS_CLEAR (R352). The host clears PME_Status in configuration space, and WAKE_N is released. -/
  | pmeStatusClear (f : BitVec 6)
  /-- PTP_EVENT_MESSAGE_TX (R203). Tutoby sends a PTP event message (Sync as boundary clock, or a delay request), which is timestamped
  and whose stamp enters the 16-entry FIFO, raising TS_OVF when full. -/
  | ptpEventMessageTx (l : Nat) (frame : List Byte)
  /-- MCTP_MESSAGE (R477). An MCTP or PLDM request arrives on SMBus and the Sideboard answers with its sensors. -/
  | mctpMessage (warn : Bool)
  /-- REDFISH_REQUEST (R437). A client request reaches the Sideboard's Redfish service on the management port, for example to set an
  EventService push subscription. -/
  | redfishRequest (q : RedfishReq)
  /-- AON_PARITY (R434). A parity failure arises in the always-on domain's state and is captured as a FATAL error; `x` tells it from a failing check
  of a control core and of the Hutch, which R434 names beside it. -/
  | aonParity (x : AonFault)
  deriving DecidableEq, Repr

end Sys2Proof
end

