-- ==== Sys2Proof/Machine/Table.lean ====
section
/-! DEFINITION. Sparse tables, little-endian byte strings and bit fields: the helpers every other file uses. -/

namespace Sys2Proof.Machine

/-- A sparse table: the latest binding of a key stands in the list, an unlisted key reads as a default. -/
abbrev Tbl (κ : Type) (α : Type) := List (κ × α)

/-- Remove every binding of `k`. -/
def tblErase {κ α : Type} [DecidableEq κ] (k : κ) : Tbl κ α → Tbl κ α
  | [] => []
  | (k', a) :: t => if k' = k then tblErase k t else (k', a) :: tblErase k t

/-- The binding of `k`, if there is one. -/
def tblFind {κ α : Type} [DecidableEq κ] (k : κ) : Tbl κ α → Option α
  | [] => none
  | (k', a) :: t => if k' = k then some a else tblFind k t

/-- The binding of `k`, or the default `d`. -/
def tblGet {κ α : Type} [DecidableEq κ] (d : α) (k : κ) (t : Tbl κ α) : α := (tblFind k t).getD d

/-- Bind `k` to `a`, replacing an earlier binding. -/
def tblSet {κ α : Type} [DecidableEq κ] (k : κ) (a : α) (t : Tbl κ α) : Tbl κ α := (k, a) :: tblErase k t

/-- Apply `f` to the binding of `k` (the default `d` where there is none). -/
def tblMod {κ α : Type} [DecidableEq κ] (d : α) (k : κ) (f : α → α) (t : Tbl κ α) : Tbl κ α :=
  tblSet k (f (tblGet d k t)) t

/-- Keep the bindings that satisfy `p`. -/
def tblKeep {κ α : Type} (p : κ → α → Bool) (t : Tbl κ α) : Tbl κ α := t.filter (fun x => p x.1 x.2)

/-- Apply `f` to every binding. -/
def tblMap {κ α : Type} (f : κ → α → α) (t : Tbl κ α) : Tbl κ α := t.map (fun x => (x.1, f x.1 x.2))

/-- The natural number [hi:lo] of `n`. -/
def bits (n hi lo : Nat) : Nat := (n >>> lo) % 2 ^ (hi + 1 - lo)

/-- Bit `i` of `n`. -/
def bitOf (n i : Nat) : Bool := n.testBit i

/-- `n` with its field [hi:lo] set to `v` (taken modulo the field's width). -/
def putBits (n hi lo v : Nat) : Nat :=
  n - (bits n hi lo) * 2 ^ lo + (v % 2 ^ (hi + 1 - lo)) * 2 ^ lo

/-- 1 for true, 0 for false. -/
def b2n (b : Bool) : Nat := if b then 1 else 0

/-- The `w` low bits of `n` read as two's complement. -/
def sext (w n : Nat) : Int :=
  let m := n % 2 ^ w
  if m < 2 ^ (w - 1) then (m : Int) else (m : Int) - 2 ^ w

/-- Little-endian value of a byte string. -/
def leNat : List Byte → Nat
  | [] => 0
  | b :: t => b.toNat + 256 * leNat t

/-- Big-endian value of a byte string. -/
def beNat (l : List Byte) : Nat := leNat l.reverse

/-- The low `k` bytes of `n`, least significant first. -/
def toLe : Nat → Nat → List Byte
  | 0, _ => []
  | k + 1, n => BitVec.ofNat 8 n :: toLe k (n / 256)

/-- The low `k` bytes of `n`, most significant first. -/
def toBe (k n : Nat) : List Byte := (toLe k n).reverse

/-- Bytes `[o, o+k)` of `l`, zero where `l` is shorter. -/
def slice (l : List Byte) (o k : Nat) : List Byte :=
  (List.range k).map (fun i => l.getD (o + i) 0)

/-- The little-endian field of `k` bytes at offset `o` of a structure. -/
def fieldAt (l : List Byte) (o k : Nat) : Nat := leNat (slice l o k)

/-- `l` with the bytes `v` put at offset `o`. -/
def spliceAt (l : List Byte) (o : Nat) (v : List Byte) : List Byte :=
  l.take o ++ List.replicate (o - l.length) 0 ++ v ++ l.drop (o + v.length)

/-- `n` rounded up to a multiple of `a`. -/
def alignUp (n a : Nat) : Nat := (n + a - 1) / a * a

/-- Every element of the list is zero. -/
def allZero (l : List Byte) : Bool := l.all (fun b => b == 0)

/-- Number of ones in the `w` low bits of `n`. -/
def popcount : Nat → Nat → Nat
  | 0, _ => 0
  | w + 1, n => n % 2 + popcount w (n / 2)

/-- Fold a state over the numbers below `n`. -/
def forN {σ : Type} (n : Nat) (f : Nat → σ → σ) (s : σ) : σ := (List.range n).foldl (fun t i => f i t) s

/-- Fold a state over a list, the element first. -/
def forL {σ α : Type} (l : List α) (f : α → σ → σ) (s : σ) : σ := l.foldl (fun t x => f x t) s

/-- Apply `f` where `c` holds. -/
def whenD {σ : Type} (c : Bool) (f : σ → σ) (s : σ) : σ := if c then f s else s

/-- `n` plus one that stays at `2^w - 1` (a counter that saturates, R25). -/
def satInc (w n : Nat) : Nat := if n + 1 < 2 ^ w then n + 1 else 2 ^ w - 1

end Sys2Proof.Machine
end

