-- ==== Sys2Proof/Machine/Aes.lean ====
section
/-! DEFINITION. AES-256, GCM and the AES key unwrap that the cipher engine and the Hutch use (R320, R321, R326): the published
algorithms FIPS 197, NIST SP 800-38D, RFC 3394 and RFC 5649, which the spec names. -/

namespace Sys2Proof.Machine

/-! ## AES-256 (FIPS 197) -/

/-- Row 0x0 of the S-box, from its last entry down. -/
def sboxRow0 : Nat := 0x76abd7fe2b670130c56f6bf27b777c63
/-- Row 0x1 of the S-box, from its last entry down. -/
def sboxRow1 : Nat := 0xc072a49cafa2d4adf04759fa7dc982ca
/-- Row 0x2 of the S-box, from its last entry down. -/
def sboxRow2 : Nat := 0x1531d871f1e5a534ccf73f362693fdb7
/-- Row 0x3 of the S-box, from its last entry down. -/
def sboxRow3 : Nat := 0x75b227ebe28012079a059618c323c704
/-- Row 0x4 of the S-box, from its last entry down. -/
def sboxRow4 : Nat := 0x842fe329b3d63b52a05a6e1b1a2c8309
/-- Row 0x5 of the S-box, from its last entry down. -/
def sboxRow5 : Nat := 0xcf584c4a39becb6a5bb1fc20ed00d153
/-- Row 0x6 of the S-box, from its last entry down. -/
def sboxRow6 : Nat := 0xa89f3c507f02f94585334d43fbaaefd0
/-- Row 0x7 of the S-box, from its last entry down. -/
def sboxRow7 : Nat := 0xd2f3ff1021dab6bcf5389d928f40a351
/-- Row 0x8 of the S-box, from its last entry down. -/
def sboxRow8 : Nat := 0x73195d643d7ea7c41744975fec130ccd
/-- Row 0x9 of the S-box, from its last entry down. -/
def sboxRow9 : Nat := 0xdb0b5ede14b8ee4688902a22dc4f8160
/-- Row 0xa of the S-box, from its last entry down. -/
def sboxRow10 : Nat := 0x79e4959162acd3c25c2406490a3a32e0
/-- Row 0xb of the S-box, from its last entry down. -/
def sboxRow11 : Nat := 0x08ae7a65eaf4566ca94ed58d6d37c8e7
/-- Row 0xc of the S-box, from its last entry down. -/
def sboxRow12 : Nat := 0x8a8bbd4b1f74dde8c6b4a61c2e2578ba
/-- Row 0xd of the S-box, from its last entry down. -/
def sboxRow13 : Nat := 0x9e1dc186b95735610ef6034866b53e70
/-- Row 0xe of the S-box, from its last entry down. -/
def sboxRow14 : Nat := 0xdf2855cee9871e9b948ed9691198f8e1
/-- Row 0xf of the S-box, from its last entry down. -/
def sboxRow15 : Nat := 0x16bb54b00f2d99416842e6bf0d89a18c

/-- The S-box by rows. -/
def sboxRows : List Nat := [sboxRow0, sboxRow1, sboxRow2, sboxRow3, sboxRow4, sboxRow5, sboxRow6, sboxRow7, sboxRow8, sboxRow9, sboxRow10, sboxRow11, sboxRow12, sboxRow13, sboxRow14, sboxRow15]

/-- SubBytes of one byte. -/
def sbox (b : Nat) : Nat := (sboxRows.getD (b / 16) 0) >>> (8 * (b % 16)) % 256
/-- The inverse S-box by rows, each from its last entry down. -/
def invSboxRows : List Nat := [
  0xfbd7f3819ea340bf38a53630d56a0952, 0xcbe9dec444438e3487ff2f9b8239e37c, 0x4ec3fa420b954cee3d23c2a632947b54, 0x25d18b6d49a25b76b224d92866a12e08,
  0x92b6655dcc5ca4d41698688664f6f872, 0x849d8da75746155edab9edfd5048706c, 0x0645b3b80558e4f70ad3bc8c00abd890, 0x6b8a130103bdafc1020f3fca8f1e2cd0,
  0x73e6b4f0cecff297eadc674f4111913a, 0x6edf751ce837f9e28535ade72274ac96, 0x1bbe18aa0e62b76f89c5291d711af147, 0xf45acd78fec0db9a2079d2c64b3e56fc,
  0x5fec8027591012b131c7078833a8dd1f, 0xef9cc9939f7ae52d0d4ab519a97f5160, 0x619953833cbbebc8b0f52aae4d3be0a0, 0x7d0c2155631469e126d677ba7e042b17]

/-- InvSubBytes of one byte. -/
def invSbox (b : Nat) : Nat := (invSboxRows.getD (b / 16) 0) >>> (8 * (b % 16)) % 256

/-- Multiplication by x in the field of AES. -/
def xtime (b : Nat) : Nat := (2 * b) ^^^ (b / 128 * 0x11B)
/-- Multiplication by a constant below 16. -/
def gmul (c b : Nat) : Nat :=
  let b2 := xtime b
  let b4 := xtime b2
  let b8 := xtime b4
  (b * (c % 2)) ^^^ (b2 * (c / 2 % 2)) ^^^ (b4 * (c / 4 % 2)) ^^^ (b8 * (c / 8 % 2))

/-- XOR of two byte strings. -/
def xorL (a b : List Nat) : List Nat := (a.zip b).map (fun p => p.1 ^^^ p.2)

/-- One more word of the key schedule; `ws` holds the words so far, latest first. -/
def nextKeyWord (rcon n : Nat) (ws : List (List Nat)) : List Nat :=
  let t := ws.headD []
  let t1 := if n % 8 = 0 then
      (match (t.drop 1 ++ t.take 1).map sbox with
      | a :: r => (a ^^^ rcon) :: r
      | [] => [])
    else if n % 8 = 4 then t.map sbox else t
  xorL (ws.getD 7 []) t1

/-- The key schedule: 60 words. -/
def expandKey : Nat → Nat → Nat → List (List Nat) → List (List Nat)
  | 0, _, _, ws => ws.reverse
  | k + 1, rcon, n, ws => expandKey k (if n % 8 = 0 then xtime rcon else rcon) (n + 1) (nextKeyWord rcon n ws :: ws)

/-- The 15 round keys of a 32-byte key. -/
def roundKeys (key : List Nat) : List (List Nat) :=
  let w0 := (List.range 8).map (fun i => (key.drop (4 * i)).take 4)
  let ws := expandKey 52 1 8 w0.reverse
  (List.range 15).map (fun r => ((ws.drop (4 * r)).take 4).flatten)

def shiftRows (s : List Nat) : List Nat := (List.range 16).map (fun i => s.getD ((i + 4 * (i % 4)) % 16) 0)
def invShiftRows (s : List Nat) : List Nat := (List.range 16).map (fun i => s.getD ((i + 16 - 4 * (i % 4)) % 16) 0)

/-- Multiply each column by a circulant matrix whose first row is `m`. -/
def mixWith (m s : List Nat) : List Nat :=
  (List.range 16).map (fun i => (List.range 4).foldl (fun a k => a ^^^ gmul (m.getD ((k + 4 - i % 4) % 4) 0) (s.getD (i / 4 * 4 + k) 0)) 0)

/-- The cipher over the round keys after the first. -/
def aesRounds : List (List Nat) → List Nat → List Nat
  | [], s => s
  | [k], s => xorL (shiftRows (s.map sbox)) k
  | k :: t, s => aesRounds t (xorL (mixWith [2, 3, 1, 1] (shiftRows (s.map sbox))) k)

/-- Encrypt one block. -/
def aesEnc (rk : List (List Nat)) (b : List Nat) : List Nat := aesRounds (rk.drop 1) (xorL b (rk.headD []))

/-- The inverse cipher over the round keys in reverse order, after the last. -/
def aesInvRounds : List (List Nat) → List Nat → List Nat
  | [], s => s
  | [k], s => xorL ((invShiftRows s).map invSbox) k
  | k :: t, s => aesInvRounds t (mixWith [14, 11, 13, 9] (xorL ((invShiftRows s).map invSbox) k))

/-- Decrypt one block. -/
def aesDec (rk : List (List Nat)) (b : List Nat) : List Nat :=
  let r := rk.reverse
  aesInvRounds (r.drop 1) (xorL b (r.headD []))

/-! ## GCM (NIST SP 800-38D) -/

/-- Multiplication in the field of GHASH. -/
def ghashMul (x h : BitVec 128) : BitVec 128 :=
  ((List.range 128).foldl (fun (zv : BitVec 128 × BitVec 128) i =>
    (if x.getLsbD (127 - i) then zv.1 ^^^ zv.2 else zv.1,
     if zv.2.getLsbD 0 then (zv.2 >>> 1) ^^^ (0xE1#128 <<< 120) else zv.2 >>> 1)) (0#128, h)).1

/-- A byte string as numbers, and back. -/
def natsOf (l : List Byte) : List Nat := l.map (fun b => b.toNat)
def bytesOf (l : List Nat) : List Byte := l.map (fun n => BitVec.ofNat 8 n)

/-- The 16-byte blocks of a string. -/
def blocks16 (l : List Byte) : List (List Byte) := (List.range ((l.length + 15) / 16)).map (fun i => slice l (16 * i) 16)

/-- GHASH over whole blocks. -/
def ghash (h : BitVec 128) (bs : List (List Byte)) : BitVec 128 :=
  bs.foldl (fun y b => ghashMul (y ^^^ BitVec.ofNat 128 (beNat b)) h) 0#128

/-- CTR over a string from counter `c0` of IV `iv`. -/
def gcmCtr (rk : List (List Nat)) (iv : List Byte) (c0 : Nat) (l : List Byte) : List Byte :=
  let ks := (List.range ((l.length + 15) / 16)).flatMap (fun j => aesEnc rk (natsOf (iv ++ toBe 4 (c0 + j))))
  bytesOf (xorL (natsOf l) ks)

/-- The GCM tag of AAD `a` and ciphertext `c`. -/
def gcmTag (rk : List (List Nat)) (iv a c : List Byte) : List Byte :=
  let h := BitVec.ofNat 128 (beNat (bytesOf (aesEnc rk (List.replicate 16 0))))
  let s := ghash h (blocks16 a ++ blocks16 c ++ [toBe 8 (8 * a.length) ++ toBe 8 (8 * c.length)])
  bytesOf (xorL (natsOf (toBe 16 s.toNat)) (aesEnc rk (natsOf (iv ++ toBe 4 1))))

/-! ## Key unwrap (RFC 3394, RFC 5649) -/

/-- The unwrapping steps: `t` runs from 6n down to 1; `a` is the integrity register and `r` the n 8-byte registers. -/
def unwrapSteps (rk : List (List Nat)) (n : Nat) : Nat → List Nat → List (List Nat) → List Nat × List (List Nat)
  | 0, a, r => (a, r)
  | t + 1, a, r =>
    let i := t % n
    let b := aesDec rk (xorL a (natsOf (toBe 8 (t + 1))) ++ r.getD i [])
    unwrapSteps rk n t (b.take 8) (r.set i (b.drop 8))

/-- Unwrap a 40-byte wrapped key under `kek` (R321): the 32-byte key, or none where the integrity check fails. -/
def unwrapKey (kek : List Byte) (walg : Nat) (w : List Byte) : Option (List Byte) :=
  let rk := roundKeys (natsOf kek)
  let l := natsOf w
  let r := unwrapSteps rk 4 24 (l.take 8) ((List.range 4).map (fun i => (l.drop (8 + 8 * i)).take 8))
  let iv := if walg = 0 then List.replicate 8 0xA6 else [0xA6, 0x59, 0x59, 0xA6, 0, 0, 0, 32]
  if r.1 = iv then some (bytesOf r.2.flatten) else none

end Sys2Proof.Machine
end

