-- ==== Sys2Proof/Machine/Code.lean ====
section
/-! DEFINITION. Instruction words: the class and the length that OPC[7:5] gives, the bit positions of the four formats, and the
instruction that the words at PC spell (R94 to R97, the opcode tables of R98 to R123). -/

namespace Sys2Proof

/-- OPC of an instruction word. -/
def opcOf (w : BitVec 64) : Nat := (w.extractLsb' 0 8).toNat

/-- The classes of R94. -/
inductive OpClass where
  | scalar | vector | loadStore | matrix | comm | sync | system | reserved
  deriving DecidableEq, Repr

/-- The class that OPC[7:5] gives. -/
def opClass (opc : Nat) : OpClass :=
  match opc / 32 % 8 with
  | 0 => .scalar
  | 1 => .vector
  | 2 => .loadStore
  | 3 => .matrix
  | 4 => .comm
  | 5 => .sync
  | 6 => .system
  | _ => .reserved

/-- An instruction of the class has two words. -/
def OpClass.two : OpClass → Bool
  | .matrix | .comm => true
  | _ => false

/-- Format R (R96). -/
def FmtR.ofWord (w : BitVec 64) : FmtR :=
  { d := w.extractLsb' 8 5, a := w.extractLsb' 13 5, b := w.extractLsb' 18 5, c := w.extractLsb' 23 5, p := w.extractLsb' 28 3,
    z31 := w.extractLsb' 31 1, t := w.extractLsb' 32 4, m := w.extractLsb' 36 4, zhi := w.extractLsb' 40 24 }

/-- Format I (R96). -/
def FmtI.ofWord (w : BitVec 64) : FmtI :=
  { d := w.extractLsb' 8 5, a := w.extractLsb' 13 5, b := w.extractLsb' 18 5, t := w.extractLsb' 23 4, m := w.extractLsb' 27 4,
    z31 := w.extractLsb' 31 1, imm := w.extractLsb' 32 32 }

/-- Format M (R97): the word at PC and the word at PC + 8. -/
def FmtM.ofWords (w v : BitVec 64) : FmtM :=
  { acc := w.extractLsb' 8 2, ta := w.extractLsb' 10 3, tb := w.extractLsb' 13 3, fa := w.extractLsb' 16 4, fb := w.extractLsb' 20 4,
    kba := w.extractLsb' 24 5, kbb := w.extractLsb' 29 5, ko := w.extractLsb' 34 10, kx := w.extractLsb' 44 11,
    z63 := w.extractLsb' 55 9, we := v.extractLsb' 0 10, gt := v.extractLsb' 10 5, gx := v.extractLsb' 15 5, z := v.extractLsb' 20 1,
    tout := v.extractLsb' 21 3, tbm := v.extractLsb' 24 8, acm := v.extractLsb' 32 4, d := v.extractLsb' 36 5,
    zhi := v.extractLsb' 41 23 }

/-- Format C (R97). -/
def FmtC.ofWords (w v : BitVec 64) : FmtC :=
  { d := w.extractLsb' 8 5, a := w.extractLsb' 13 5, b := w.extractLsb' 18 5, c := w.extractLsb' 23 5, z28 := w.extractLsb' 28 4,
    n := w.extractLsb' 32 3, z35 := w.extractLsb' 35 1, m := w.extractLsb' 36 4, zhi := w.extractLsb' 40 24, imm64 := v }

/-- The instruction that the words at PC spell for the thread of `i`; none for an OPC that no table lists (R95). OPC 0xA1 takes its
instruction from M (R120). -/
def decodeCode (i : Issue) (w v : BitVec 64) : Option Instr :=
  match opcOf w with
  | 0x01 => some (.add i (.ofWord w))
  | 0x02 => some (.sub i (.ofWord w))
  | 0x03 => some (.mul i (.ofWord w))
  | 0x04 => some (.mulh i (.ofWord w))
  | 0x05 => some (.div i (.ofWord w))
  | 0x06 => some (.rem i (.ofWord w))
  | 0x07 => some (.and i (.ofWord w))
  | 0x08 => some (.or i (.ofWord w))
  | 0x09 => some (.xor i (.ofWord w))
  | 0x0A => some (.shl i (.ofWord w))
  | 0x0B => some (.shr i (.ofWord w))
  | 0x0C => some (.cmp i (.ofWord w))
  | 0x0D => some (.sel i (.ofWord w))
  | 0x21 => some (.vadd i (.ofWord w))
  | 0x22 => some (.vsub i (.ofWord w))
  | 0x23 => some (.vmul i (.ofWord w))
  | 0x24 => some (.vfma i (.ofWord w))
  | 0x25 => some (.vdiv i (.ofWord w))
  | 0x26 => some (.vsqrt i (.ofWord w))
  | 0x27 => some (.vmin i (.ofWord w))
  | 0x28 => some (.vmax i (.ofWord w))
  | 0x29 => some (.vcmp i (.ofWord w))
  | 0x2A => some (.vrcp i (.ofWord w))
  | 0x2B => some (.vrsq i (.ofWord w))
  | 0x2C => some (.vexp2 i (.ofWord w))
  | 0x2D => some (.vlog2 i (.ofWord w))
  | 0x2E => some (.vtanh i (.ofWord w))
  | 0x2F => some (.vcvt i (.ofWord w))
  | 0x30 => some (.viadd i (.ofWord w))
  | 0x31 => some (.visub i (.ofWord w))
  | 0x32 => some (.vimul i (.ofWord w))
  | 0x33 => some (.vand i (.ofWord w))
  | 0x34 => some (.vor i (.ofWord w))
  | 0x35 => some (.vxor i (.ofWord w))
  | 0x36 => some (.vshl i (.ofWord w))
  | 0x37 => some (.vshr i (.ofWord w))
  | 0x38 => some (.vsel i (.ofWord w))
  | 0x39 => some (.vbc i (.ofWord w))
  | 0x3A => some (.vget i (.ofWord w))
  | 0x3B => some (.vwadd i (.ofWord w))
  | 0x3C => some (.vcvtw i (.ofWord w))
  | 0x3D => some (.vcvtf i (.ofWord w))
  | 0x3E => some (.vicmp i (.ofWord w))
  | 0x10 => some (.lih i (.ofWord w))
  | 0x11 => some (.addi i (.ofWord w))
  | 0x13 => some (.muli i (.ofWord w))
  | 0x17 => some (.andi i (.ofWord w))
  | 0x18 => some (.ori i (.ofWord w))
  | 0x19 => some (.xori i (.ofWord w))
  | 0x1A => some (.shli i (.ofWord w))
  | 0x1B => some (.shri i (.ofWord w))
  | 0x1C => some (.cmpi i (.ofWord w))
  | 0x1E => some (.br i (.ofWord w))
  | 0x1F => some (.jal i (.ofWord w))
  | 0x41 => some (.ld i (.ofWord w))
  | 0x42 => some (.st i (.ofWord w))
  | 0x43 => some (.vld i (.ofWord w))
  | 0x44 => some (.vst i (.ofWord w))
  | 0x45 => some (.ldb i (.ofWord w))
  | 0x46 => some (.stb i (.ofWord w))
  | 0xA2 => some (.lkacq i (.ofWord w))
  | 0xA3 => some (.lkrel i (.ofWord w))
  | 0xA4 => some (.fence i (.ofWord w))
  | 0xA5 => some (.waitb i (.ofWord w))
  | 0xA6 => some (.commit i (.ofWord w))
  | 0xC1 => some (.srr i (.ofWord w))
  | 0xC2 => some (.srw i (.ofWord w))
  | 0xC3 => some (.tstart i (.ofWord w))
  | 0xC4 => some (.nop i (.ofWord w))
  | 0xA1 =>
    match (FmtI.ofWord w).m.toNat with
    | 0 => some (.afadd i (.ofWord w))
    | 1 => some (.aswap i (.ofWord w))
    | 2 => some (.acas i (.ofWord w))
    | _ => none
  | 0x61 => some (.mxm i (.ofWords w v))
  | 0x62 => some (.mxms i (.ofWords w v))
  | 0x63 => some (.mxmr i (.ofWords w v))
  | 0x64 => some (.mxst i (.ofWords w v))
  | 0x65 => some (.mxaw i (.ofWords w v))
  | 0x66 => some (.aclr i (.ofWords w v))
  | 0x67 => some (.asave i (.ofWords w v))
  | 0x68 => some (.arst i (.ofWords w v))
  | 0x69 => some (.astat i (.ofWords w v))
  | 0x6A => some (.malloc i (.ofWords w v))
  | 0x6B => some (.mfree i (.ofWords w v))
  | 0x81 => some (.send i (.ofWords w v))
  | 0x82 => some (.mbrd i (.ofWords w v))
  | _ => none

/-- A word whose OPC, or OPC and M, no table lists: it raises ILLEGAL_OP (R95). -/
def unlistedWord (w : BitVec 64) : Bool := (decodeCode { pos := 0, tid := 0 } w 0).isNone

end Sys2Proof
end

