-- ==== Sys2Proof/Machine/Crc.lean ====
section
/-! DEFINITION. The two CRCs of the device: CRC-32C (R151, R177) and the IEEE 802.3 CRC-32. -/

namespace Sys2Proof.Machine

/-- One bit of a reflected CRC with the reversed polynomial `poly`. -/
def crcBit (poly c : BitVec 32) : BitVec 32 := if c.getLsbD 0 then (c >>> 1) ^^^ poly else c >>> 1

/-- One byte of a reflected CRC. -/
def crcByte (poly c : BitVec 32) (b : Byte) : BitVec 32 :=
  let x := c ^^^ b.zeroExtend 32
  crcBit poly (crcBit poly (crcBit poly (crcBit poly (crcBit poly (crcBit poly (crcBit poly (crcBit poly x)))))))

/-- A reflected CRC with initial value and final XOR of all ones. -/
def crcRefl (poly : BitVec 32) (l : List Byte) : BitVec 32 :=
  (l.foldl (crcByte poly) 0xFFFFFFFF#32) ^^^ 0xFFFFFFFF#32

/-- CRC-32C (R151): polynomial 0x1EDC6F41, reflected. -/
def crc32c (l : List Byte) : BitVec 32 := crcRefl 0x82F63B78#32 l

/-- The IEEE 802.3 CRC-32: polynomial 0x04C11DB7, reflected. -/
def crc32 (l : List Byte) : BitVec 32 := crcRefl 0xEDB88320#32 l

/-- The POISON value (R151). -/
def poisonVal : BitVec 32 := 0xFFFFFFFF#32

/-- The block check of a CRC (R151). -/
def checkOfCrc (c : BitVec 32) : BitVec 32 := if c = poisonVal then 0xFFFFFFFE#32 else c

end Sys2Proof.Machine
end

