-- ==== Sys2Proof/Machine/StMem.lean ====
section
/-! DEFINITION. The memory of the device: drawers and hub SRAM by device physical address, with their block-check side
array and their error state (R126, R149 to R153). -/

namespace Sys2Proof.Machine

/-- SRAM and hub SRAM. `cells` is keyed by the 40-bit device physical address (R126), strictly rising, with no entry equal
to 0, which an unlisted address reads as (DESIGN CHOICE, log entry 2). -/
structure Mem where
  cells : List Host.Cell := []
  /-- Blocks (DPA / 4096) whose poison bit P is 1 (R152). -/
  poison : List Nat := []
  /-- Words (DPA / 8) that are uncorrectable (R150). -/
  uncorr : List Nat := []
  /-- What the stored CRC of a block differs by from the CRC of its contents (R153: 0 unless an error changed the bytes
  outside a write), by block. -/
  crcDiff : Tbl Nat (BitVec 32) := []
  deriving DecidableEq, Repr

end Sys2Proof.Machine
end

