-- ==== Sys2Proof/Machine/MemOps.lean ====
section
/-! DEFINITION. Reading and writing memory by device physical address, with the block checks, the poison bit and the
uncorrectable words (R149 to R155). -/

namespace Sys2Proof.Machine

/-- What an unlisted address reads as: 0 (DESIGN CHOICE, log entry 2). -/
def memDefault : Byte := 0

/-- The cells are strictly rising in address and none equals what an unlisted address reads as. -/
def cellsWf : List Host.Cell → Bool
  | [] => true
  | [(_, b)] => b != memDefault
  | (a, b) :: (a', b') :: t => b != memDefault && decide (a < a') && cellsWf ((a', b') :: t)

/-- The canonical form of memory. -/
def Mem.wf (m : Mem) : Bool := cellsWf m.cells

/-- One byte of the list. -/
def cellRead : List Host.Cell → Nat → Byte
  | [], _ => memDefault
  | (a', b) :: t, a => if a' = a then b else cellRead t a

/-- One byte of memory. -/
def Mem.byte (m : Mem) (a : Nat) : Byte := cellRead m.cells a

/-- Write one byte, keeping the canonical form. -/
def cellWrite (a : Nat) (b : Byte) : List Host.Cell → List Host.Cell
  | [] => if b = memDefault then [] else [(a, b)]
  | (a', b') :: t =>
    if a < a' then (if b = memDefault then (a', b') :: t else (a, b) :: (a', b') :: t)
    else if a = a' then (if b = memDefault then t else (a, b) :: t)
    else (a', b') :: cellWrite a b t

/-- Write consecutive bytes. -/
def cellsWrite (a : Nat) : List Byte → List Host.Cell → List Host.Cell
  | [], c => c
  | b :: t, c => cellsWrite (a + 1) t (cellWrite a b c)

/-- The `n` bytes from address `a`. -/
def Mem.bytes (m : Mem) (a n : Nat) : List Byte := (List.range n).map (fun i => m.byte (a + i))

/-- Does a word of [a, a+n) hold an uncorrectable word (R150)? -/
def Mem.uncorrIn (m : Mem) (a n : Nat) : Bool := m.uncorr.any (fun w => decide (w * 8 < a + n) && decide (a < w * 8 + 8))

/-- The poison bit of the block of address `a` (R152). -/
def Mem.poisoned (m : Mem) (a : Nat) : Bool := m.poison.contains (a / 4096)

/-- Set P of the block of `a`. -/
def Mem.setPoison (m : Mem) (a : Nat) : Mem :=
  if m.poison.contains (a / 4096) then m else { m with poison := (a / 4096) :: m.poison }

/-- Clear P of the block of `a`. -/
def Mem.clearPoison (m : Mem) (a : Nat) : Mem := { m with poison := m.poison.filter (fun b => b ≠ a / 4096) }

/-- The stored CRC of the block of `a` (R152, R153). -/
def Mem.storedCrc (m : Mem) (a : Nat) : BitVec 32 :=
  crc32c (m.bytes (a / 4096 * 4096) 4096) ^^^ tblGet 0 (a / 4096) m.crcDiff

/-- The block check that a reader of the side array sees (R152). -/
def Mem.check (m : Mem) (a : Nat) : BitVec 32 := if m.poisoned a then poisonVal else checkOfCrc (m.storedCrc a)

/-- Set plain bytes, with no side effect on checks. -/
def Mem.put (m : Mem) (a : Nat) (l : List Byte) : Mem := { m with cells := cellsWrite a l m.cells }

/-- A write of part of one block, or several (R150, R153): words wholly replaced become correctable, and a byte replaced in
an uncorrectable word sets P of its block. -/
def Mem.writePart (m : Mem) (a : Nat) (l : List Byte) : Mem :=
  let hit := m.uncorr.filter (fun w => decide (w * 8 < a + l.length) && decide (a < w * 8 + 8))
  let m1 := hit.foldl (fun m w => m.setPoison (w * 8)) m
  let m2 := { m1 with uncorr := m1.uncorr.filter (fun w => !(decide (a ≤ w * 8) && decide (w * 8 + 8 ≤ a + l.length))) }
  m2.put a l

/-- A write of all 4,096 bytes of the block at `a` (R153): the CRC is set afresh and P as given. -/
def Mem.writeBlock (m : Mem) (a : Nat) (l : List Byte) (p : Bool) : Mem :=
  let m1 := { m with uncorr := m.uncorr.filter (fun w => w * 8 / 4096 ≠ a / 4096),
                     crcDiff := tblErase (a / 4096) m.crcDiff }
  let m2 := m1.put a l
  if p then m2.setPoison a else m2.clearPoison a

/-- The pieces of [a, a + n) by 4 KiB block: start and length. `fuel` bounds the number of blocks. -/
def blockPieces : Nat → Nat → Nat → List (Nat × Nat)
  | 0, _, _ => []
  | fuel + 1, a, n =>
    if n = 0 then [] else
    let k := min n (4096 - a % 4096)
    (a, k) :: blockPieces fuel (a + k) (n - k)

/-- The pieces of a range. -/
def piecesOf (a n : Nat) : List (Nat × Nat) := blockPieces (n / 4096 + 2) a n

/-- Any write of bytes with no carried check (R153). -/
def Mem.write (m : Mem) (a : Nat) (l : List Byte) : Mem :=
  (piecesOf a l.length).foldl (fun m pc =>
    let part := slice l (pc.1 - a) pc.2
    if pc.2 = 4096 then m.writeBlock pc.1 part false else m.writePart pc.1 part) m

/-- Did a write touch an uncorrectable word that it did not wholly replace, so that the word is logged as on a read (R150)? -/
def Mem.partialUncorr (m : Mem) (a n : Nat) : List Nat :=
  m.uncorr.filter (fun w => decide (w * 8 < a + n) && decide (a < w * 8 + 8) &&
    !(decide (a ≤ w * 8) && decide (w * 8 + 8 ≤ a + n)))

/-- A whole block with its carried check (R155): none when the check mismatches, in which case nothing is written. -/
def Mem.writeChecked (m : Mem) (a : Nat) (l : List Byte) (chk : BitVec 32) : Option Mem :=
  if chk = poisonVal then some (m.writeBlock a l true)
  else if checkOfCrc (crc32c l) = chk then some (m.writeBlock a l false)
  else none

/-- A read of a range that finds an uncorrectable word sets P of that word's block (R150). -/
def Mem.readPoisons (m : Mem) (a n : Nat) : Mem :=
  (m.uncorr.filter (fun w => decide (w * 8 < a + n) && decide (a < w * 8 + 8))).foldl (fun m w => m.setPoison (w * 8)) m

/-- An error of the environment makes a word uncorrectable (R149). -/
def Mem.setUncorr (m : Mem) (a : Nat) : Mem :=
  if m.uncorr.contains (a / 8) then m else { m with uncorr := (a / 8) :: m.uncorr }

/-- Bytes change outside a write, unseen by ECC: the stored CRC stays as it was (R153). -/
def Mem.silentChange (m : Mem) (a : Nat) (l : List Byte) : Mem :=
  let old := m.storedCrc a
  let m1 := m.put a l
  { m1 with crcDiff := tblSet (a / 4096) (crc32c (m1.bytes (a / 4096 * 4096) 4096) ^^^ old) m1.crcDiff }

/-- Zeroise the range [a, a + n), n a multiple of 4,096 (R153, R400). -/
def Mem.zeroise (m : Mem) (a n : Nat) : Mem :=
  { cells := m.cells.filter (fun c => !(decide (a ≤ c.1) && decide (c.1 < a + n))),
    poison := m.poison.filter (fun b => !(decide (a ≤ b * 4096) && decide (b * 4096 < a + n))),
    uncorr := m.uncorr.filter (fun w => !(decide (a ≤ w * 8) && decide (w * 8 < a + n))),
    crcDiff := m.crcDiff.filter (fun c => !(decide (a ≤ c.1 * 4096) && decide (c.1 * 4096 < a + n))) }

/-! ## The device physical address map (R126, R130) -/

/-- What a device physical address names. -/
inductive DpaKind where
  | sram | hub | mmio | aperture | none
  deriving DecidableEq, Repr

/-- Decode a device physical address (R126). -/
def dpaKind (a : Nat) : DpaKind :=
  if a ≤ 0x07_FFFF_FFFF then .sram
  else if 0x10_0000_0000 ≤ a ∧ a ≤ 0x10_0FFF_FFFF then .hub
  else if 0x20_0000_0000 ≤ a ∧ a ≤ 0x20_03FF_FFFF then .mmio
  else if 0x80_0000_0000 ≤ a ∧ a ≤ 0xFF_FFFF_FFFF then .aperture
  else .none

/-- The collective staging range of hub SRAM (R130). -/
def stagingBase : Nat := 0x10_0400_0000
/-- Connection contexts in hub SRAM (R130). -/
def connBase : Nat := 0x10_0000_0000
/-- The window table in hub SRAM (R130). -/
def winBase : Nat := 0x10_0200_0000
/-- First byte of the drawer of a packed position (R127). -/
def drawerBase (pos : Nat) : Nat := pos * 2 ^ 21
/-- The packed position whose drawer holds an SRAM address (R127). -/
def posOfDpa (a : Nat) : Nat := a / 2 ^ 21
/-- The region of an SRAM address. -/
def regionOfDpa (a : Nat) : Nat := a / 2 ^ 29
/-- The region of a packed position. -/
def regionOfPos (p : Nat) : Nat := p / 256
/-- The cluster number (region · 16 + cluster) of a packed position. -/
def clusterOfPos (p : Nat) : Nat := p / 16

end Sys2Proof.Machine
end

