-- ==== Sys2Proof/Config.lean ====
section
/-! DEFINITION. What one FR8 fixes and no proof may see: the free values of the model and the constants of one device. Each
is an opaque constant without a body, so every statement holds for every value of it. -/

namespace Sys2Proof.Config

/-- The approximate functions of the vector unit (R65): the value an FR8 gives within the bound. DESIGN CHOICE, log entry 1. -/
opaque approxRcp : W32 → W32
opaque approxRsq : W32 → W32
opaque approxExp2 : W32 → W32
opaque approxLog2 : W32 → W32
opaque approxTanh : W32 → W32

/-- A value that the spec leaves open, by the number it is drawn under. DESIGN CHOICE, log entry 3. -/
opaque freeValue : Nat → Word

/-- Constants fused into one device: its identity, stepping, anti-rollback minimum, revoked keys, key hashes, MAC addresses, the device
root key and its identifier. DESIGN CHOICE, log entry 4. -/
opaque fabUid : Word
opaque stepping : BitVec 8
opaque rbMin : BitVec 7
opaque keyRevoked : BitVec 4
/-- The fused hashes of the four keys that may sign a Tutoby image (R456). -/
opaque keyHash : Nat → BitVec 384
opaque macBase : BitVec 48
/-- The MAC address of the neighbour on each logical port, which Neighbor Discovery finds. DESIGN CHOICE, log entry 27. -/
opaque neighborMac : Nat → BitVec 48
/-- The window tag and the window offset of the collective staging of a connection's peer, by connection and request, which the spec does not give
(R246). DESIGN CHOICE, log entry 26. -/
opaque segTag : Nat → BitVec 32
opaque segOff : Nat → Nat → Word
/-- Whether a low-speed pin is in the always-on domain, where the spec does not say it (R479). DESIGN CHOICE, log entry 111. -/
opaque aonPin : Nat → Bool
opaque deviceRootKey : BitVec 256
opaque drkId : Word

end Sys2Proof.Config
end

