-- ==== Sys2Proof/Machine/Num.lean ====
section
/-! DEFINITION. Number formats and their arithmetic (R33 to R65): decoding, exact dyadic arithmetic and the one rounding
into each format. -/

namespace Sys2Proof.Machine

/-- A decoded value: NaN, an infinity, or the dyadic (−1)^neg · m · 2^e. With `sticky` the magnitude lies strictly between
m and m + 1 units (a quotient or a root that does not end). -/
inductive FVal where
  | nan
  | inf (neg : Bool)
  | fin (neg : Bool) (m : Nat) (e : Int) (sticky : Bool)
  deriving DecidableEq, Repr

/-- The IEEE 754 exception flags (R62), and the saturation flag of a matrix conversion (R57). -/
structure FFlags where
  nv : Bool := false
  dz : Bool := false
  of : Bool := false
  uf : Bool := false
  nx : Bool := false
  deriving DecidableEq, Repr

/-- Sticky union of two flag sets. -/
def FFlags.or (a b : FFlags) : FFlags :=
  { nv := a.nv || b.nv, dz := a.dz || b.dz, of := a.of || b.of, uf := a.uf || b.uf, nx := a.nx || b.nx }

/-- How the top exponent code of a floating format is used (R35). -/
inductive TopCode where
  | ieee      -- infinities and NaNs
  | e4m3      -- S.1111.111 is the one NaN, no infinity
  | finite    -- no special encoding
  deriving DecidableEq, Repr

/-- A floating element format (R35). -/
structure FFmt where
  eb : Nat
  fb : Nat
  bias : Nat
  top : TopCode
  deriving DecidableEq, Repr

def fmtF32 : FFmt := ⟨8, 23, 127, .ieee⟩
def fmtF16 : FFmt := ⟨5, 10, 15, .ieee⟩
def fmtBF16 : FFmt := ⟨8, 7, 127, .ieee⟩
def fmtE4M3 : FFmt := ⟨4, 3, 7, .e4m3⟩
def fmtE5M2 : FFmt := ⟨5, 2, 15, .ieee⟩
def fmtE3M2 : FFmt := ⟨3, 2, 3, .finite⟩
def fmtE2M3 : FFmt := ⟨2, 3, 1, .finite⟩
def fmtE2M1 : FFmt := ⟨2, 1, 1, .finite⟩

/-- Bits of the format with its sign. -/
def FFmt.width (f : FFmt) : Nat := f.eb + f.fb + 1
/-- The largest finite magnitude code. -/
def FFmt.maxCode (f : FFmt) : Nat :=
  match f.top with
  | .ieee => (2 ^ f.eb - 1) * 2 ^ f.fb - 1
  | .e4m3 => 2 ^ (f.eb + f.fb) - 2
  | .finite => 2 ^ (f.eb + f.fb) - 1
/-- The exponent of the least quantum, that of a subnormal. -/
def FFmt.qmin (f : FFmt) : Int := 1 - (f.bias : Int) - (f.fb : Int)
/-- The canonical quiet NaN (R36). -/
def FFmt.qnan (f : FFmt) : Nat :=
  match f.top with
  | .ieee => (2 ^ f.eb - 1) * 2 ^ f.fb + 2 ^ (f.fb - 1)
  | .e4m3 => 2 ^ (f.eb + f.fb) - 1
  | .finite => 0
/-- The infinity of the sign. -/
def FFmt.infCode (f : FFmt) (neg : Bool) : Nat :=
  b2n neg * 2 ^ (f.eb + f.fb) + (2 ^ f.eb - 1) * 2 ^ f.fb

/-- The value of a magnitude code of the format, read as finite. -/
def FFmt.magVal (f : FFmt) (code : Nat) : Nat × Int :=
  let ex := code / 2 ^ f.fb
  let fr := code % 2 ^ f.fb
  if ex = 0 then (fr, f.qmin) else (fr + 2 ^ f.fb, f.qmin + (ex : Int) - 1)

/-- Decode an element (R35). -/
def FFmt.decode (f : FFmt) (raw : Nat) : FVal :=
  let code := raw % 2 ^ (f.eb + f.fb)
  let neg := raw.testBit (f.eb + f.fb)
  if code ≤ f.maxCode then let (m, e) := f.magVal code; .fin neg m e false
  else match f.top with
    | .ieee => if code % 2 ^ f.fb = 0 then .inf neg else .nan
    | _ => .nan

/-- A signalling NaN of an IEEE format: a NaN whose first fraction bit is 0 (IEEE 754). -/
def FFmt.isSNaN (f : FFmt) (raw : Nat) : Bool :=
  (f.top == .ieee) && (f.decode raw == .nan) && !(raw.testBit (f.fb - 1))

/-- Output rounding (R56). -/
inductive RMode where
  | rne | rtz
  | sr (u : Nat)   -- U of R61: bits [63:32] of the stochastic word
  deriving DecidableEq, Repr

/-- Round the magnitude m·2^e to a multiple of 2^q; answers the multiple and whether it is inexact. `neg` matters to
stochastic rounding alone, which rounds toward the upper neighbour when U < F (R61). -/
def roundMag (neg : Bool) (m : Nat) (e : Int) (sticky : Bool) (q : Int) (rm : RMode) : Nat × Bool :=
  if q ≤ e then (m * 2 ^ (e - q).toNat, sticky)
  else
    let d := (q - e).toNat
    let lo := m / 2 ^ d
    let rem := m % 2 ^ d
    if rem = 0 ∧ !sticky then (lo, false)
    else match rm with
      | .rtz => (lo, true)
      | .rne =>
        let half := 2 ^ (d - 1)
        if rem > half ∨ (rem = half ∧ (sticky ∨ lo % 2 = 1)) then (lo + 1, true) else (lo, true)
      | .sr u =>
        if neg then
          let f := (2 ^ d - rem) * 2 ^ 32 / 2 ^ d
          if u < f then (lo, true) else (lo + 1, true)
        else
          let f := rem * 2 ^ 32 / 2 ^ d
          if u < f then (lo + 1, true) else (lo, true)

/-- ⌊log₂ (m·2^e)⌋ of a nonzero magnitude. -/
def ilog2 (m : Nat) (e : Int) : Int := (Nat.log2 m : Int) + e

/-- Compare the magnitudes a·2^ea and b·2^eb: is the first strictly the larger? -/
def magGt (a : Nat) (ea : Int) (b : Nat) (eb : Int) : Bool :=
  let e := min ea eb
  decide (a * 2 ^ (ea - e).toNat > b * 2 ^ (eb - e).toNat)

/-- A rounded magnitude: the code, whether it lies beyond the largest finite code, inexact, tiny after rounding. -/
structure Rounded where
  code : Nat
  ovf : Bool
  nx : Bool
  tiny : Bool
  deriving DecidableEq, Repr

/-- Round a magnitude into a floating format with an unbounded upper code (R62's rounding, R61's neighbours). Under
stochastic rounding a value beyond the largest finite value is not rounded: it is `ovf` at once (R61). -/
def FFmt.round (f : FFmt) (neg : Bool) (m : Nat) (e : Int) (sticky : Bool) (rm : RMode) : Rounded :=
  if m = 0 ∧ !sticky then { code := 0, ovf := false, nx := false, tiny := false }
  else
    let l := ilog2 (max m 1) e
    let q := max (l - f.fb) f.qmin
    let (r, nx) := roundMag neg m e sticky q rm
    let code := (q - f.qmin).toNat * 2 ^ f.fb + r
    let (mm, me) := f.magVal f.maxCode
    let beyond := match rm with
      | .sr _ => magGt m e mm me
      | _ => decide (code > f.maxCode)
    -- tininess after rounding: the value rounded at full precision with an unbounded exponent lies below the least normal
    let (r', _) := roundMag neg m e sticky (l - f.fb) rm
    let tiny := decide (l < 1 - (f.bias : Int)) && !(decide (r' = 2 ^ (f.fb + 1)) && decide (l = -(f.bias : Int)))
    { code := code, ovf := beyond, nx := nx, tiny := tiny }

/-- Put a sign on a magnitude code. -/
def FFmt.signed (f : FFmt) (neg : Bool) (code : Nat) : Nat := b2n neg * 2 ^ (f.eb + f.fb) + code

/-- The result of R57 for a finite value beyond the largest finite value of a floating output. -/
def FFmt.beyond (f : FFmt) (neg : Bool) (rm : RMode) (sat : Bool) : Nat :=
  if sat ∨ rm = .rtz then f.signed neg f.maxCode
  else match f.top with
    | .ieee => f.infCode neg
    | .e4m3 => f.qnan
    | .finite => f.signed neg f.maxCode

/-- Vector-unit result: round to the format by round-to-nearest-even with SAT = 0 and the flags of R62 and R63. -/
def FFmt.encode (f : FFmt) (v : FVal) : Nat × FFlags :=
  match v with
  | .nan => (f.qnan, {})
  | .inf neg => match f.top with
    | .ieee => (f.infCode neg, {})
    | _ => (f.qnan, { nv := true })
  | .fin neg m e sticky =>
    let r := f.round neg m e sticky .rne
    if r.ovf then (f.beyond neg .rne false, { of := true, nx := true })
    else (f.signed neg r.code, { nx := r.nx, uf := r.tiny && r.nx })

/-- The signed integer m·2^e of a finite value aligned at exponent `e0 ≤ e`. -/
def alignInt (neg : Bool) (m : Nat) (e e0 : Int) : Int :=
  let n : Int := (m * 2 ^ (e - e0).toNat : Nat)
  if neg then -n else n

/-- Make a finite value of a signed integer, with the sign `zneg` for zero. -/
def ofInt (n : Int) (e : Int) (zneg : Bool) : FVal :=
  if n = 0 then .fin zneg 0 e false else .fin (decide (n < 0)) n.natAbs e false

/-- Exact sum; the zero of an exact cancellation is +0, of equal zeros their sign (IEEE 754). -/
def fAdd (a b : FVal) : FVal × FFlags :=
  match a, b with
  | .nan, _ => (.nan, {})
  | _, .nan => (.nan, {})
  | .inf x, .inf y => if x = y then (.inf x, {}) else (.nan, { nv := true })
  | .inf x, _ => (.inf x, {})
  | _, .inf y => (.inf y, {})
  | .fin na ma ea _, .fin nb mb eb _ =>
    let e := min ea eb
    let zneg := na && nb && decide (ma = 0) && decide (mb = 0)
    (ofInt (alignInt na ma ea e + alignInt nb mb eb e) e zneg, {})

/-- Change the sign. -/
def FVal.neg : FVal → FVal
  | .nan => .nan
  | .inf n => .inf (!n)
  | .fin n m e s => .fin (!n) m e s

/-- Exact product. -/
def fMul (a b : FVal) : FVal × FFlags :=
  match a, b with
  | .nan, _ => (.nan, {})
  | _, .nan => (.nan, {})
  | .inf x, .inf y => (.inf (xor x y), {})
  | .inf x, .fin y m _ _ => if m = 0 then (.nan, { nv := true }) else (.inf (xor x y), {})
  | .fin x m _ _, .inf y => if m = 0 then (.nan, { nv := true }) else (.inf (xor x y), {})
  | .fin x m e _, .fin y n f _ => (.fin (xor x y) (m * n) (e + f) false, {})

/-- Fused multiply-add: ∞ × 0 is invalid whatever the addend (R62). -/
def fFma (a b c : FVal) : FVal × FFlags :=
  let invalidProd := match a, b with
    | .inf _, .fin _ 0 _ _ => true
    | .fin _ 0 _ _, .inf _ => true
    | _, _ => false
  if invalidProd then (.nan, { nv := true })
  else
    let (p, _) := fMul a b
    fAdd p c

/-- Quotient with 80 bits and a sticky remainder. -/
def fDiv (a b : FVal) : FVal × FFlags :=
  match a, b with
  | .nan, _ => (.nan, {})
  | _, .nan => (.nan, {})
  | .inf _, .inf _ => (.nan, { nv := true })
  | .inf x, .fin y _ _ _ => (.inf (xor x y), {})
  | .fin x _ _ _, .inf y => (.fin (xor x y) 0 0 false, {})
  | .fin x m e _, .fin y n f _ =>
    if n = 0 then
      if m = 0 then (.nan, { nv := true }) else (.inf (xor x y), { dz := true })
    else
      let q := m * 2 ^ 80 / n
      let r := m * 2 ^ 80 % n
      (.fin (xor x y) q (e - f - 80) (decide (r ≠ 0)), {})

/-- Integer square root by bisection of `k` bits. -/
def isqrtAux : Nat → Nat → Nat → Nat
  | 0, _, r => r
  | k + 1, n, r => let c := r + 2 ^ k; isqrtAux k n (if c * c ≤ n then c else r)
/-- ⌊√n⌋. -/
def isqrt (n : Nat) : Nat := isqrtAux (Nat.log2 n / 2 + 1) n 0

/-- Square root; √−0 = −0, a negative operand is invalid (IEEE 754). -/
def fSqrt (a : FVal) : FVal × FFlags :=
  match a with
  | .nan => (.nan, {})
  | .inf false => (.inf false, {})
  | .inf true => (.nan, { nv := true })
  | .fin neg m e _ =>
    if m = 0 then (.fin neg 0 e false, {})
    else if neg then (.nan, { nv := true })
    else
      -- an even exponent and 80 spare bits
      let k : Int := if (e - 80) % 2 = 0 then e - 80 else e - 81
      let n := m * 2 ^ (e - k).toNat
      let r := isqrt n
      (.fin false r (k / 2) (decide (r * r ≠ n)), {})

/-- Order of two values that are not NaN: is a < b? (−0 = +0) -/
def fLt (a b : FVal) : Bool :=
  match a, b with
  | .nan, _ => false
  | _, .nan => false
  | .inf x, .inf y => x && !y
  | .inf x, _ => x
  | _, .inf y => !y
  | .fin na ma ea _, .fin nb mb eb _ =>
    let e := min ea eb
    decide (alignInt na ma ea e < alignInt nb mb eb e)
/-- Numerical equality of two values that are not NaN. -/
def fEq (a b : FVal) : Bool :=
  match a, b with
  | .nan, _ => false
  | _, .nan => false
  | .inf x, .inf y => x == y
  | .inf _, _ => false
  | _, .inf _ => false
  | .fin na ma ea _, .fin nb mb eb _ =>
    let e := min ea eb
    decide (alignInt na ma ea e = alignInt nb mb eb e)

/-- Order of VMIN and VMAX: −0 below +0 (R101). -/
def minLt (x y : FVal) : Bool :=
  fLt x y || (fEq x y && (match x, y with
    | .fin true 0 _ _, .fin false 0 _ _ => true
    | _, _ => false))

/-- The integer nearest to a finite value, under the rounding mode. -/
def roundInt (neg : Bool) (m : Nat) (e : Int) (rm : RMode) : Int × Bool :=
  let (r, nx) := roundMag neg m e false 0 rm
  (if neg then -(r : Int) else r, nx)

/-! ## Approximate functions (R65) -/

/-- 2^(2^-k) to `p` fraction bits, k = 0 first, by repeated square roots. -/
def exp2Roots (p : Nat) : Nat → Nat → List Nat
  | 0, _ => []
  | k + 1, c => c :: exp2Roots p k (isqrt (c * 2 ^ p))

/-- 2^f for the fraction f of 96 bits, to 128 fraction bits (a relative error below 2^-90). -/
def exp2Frac (f : Nat) : Nat :=
  let cs := (exp2Roots 128 97 (2 * 2 ^ 128)).drop 1
  ((cs.zip (List.range 96)).foldl (fun a x => if f.testBit (95 - x.2) then a * x.1 / 2 ^ 128 else a) (2 ^ 128))

/-- An approximation (m, e) of 2^v for the dyadic v = n·2^e. -/
def exp2Approx (n : Int) (e : Int) : Nat × Int :=
  let fx : Int := if e + 96 ≥ 0 then n * 2 ^ (e + 96).toNat else n / 2 ^ (-(e + 96)).toNat
  let ip := fx / 2 ^ 96
  let fr := (fx % 2 ^ 96).toNat
  (exp2Frac fr, ip - 128)

/-- Fraction bits of log₂ of y/2^p in [1, 2), by repeated squaring. -/
def log2Bits (p : Nat) : Nat → Nat → Nat → Nat
  | 0, _, acc => acc
  | k + 1, y, acc =>
    let y2 := y * y / 2 ^ p
    if y2 ≥ 2 * 2 ^ p then log2Bits p k (y2 / 2) (acc * 2 + 1) else log2Bits p k y2 (acc * 2)

/-- log₂ of m·2^e to 96 fraction bits. -/
def log2Approx (m : Nat) (e : Int) : Int :=
  let l := Nat.log2 m
  let y := m * 2 ^ (200 - l)
  ((l : Int) + e) * 2 ^ 96 + log2Bits 200 96 y 0

/-- log₂(e) to 128 fraction bits, a constant of mathematics. -/
def log2e128 : Nat := 490923683258796565746369346286093237521

/-- tanh of the positive magnitude m·2^e to a relative error below 2^-50. -/
def tanhApprox (m : Nat) (e : Int) : Nat × Int :=
  if ilog2 m e < -13 then
    -- x − x³/3, over the denominator 3·2^k
    let x := m * 2 ^ 128
    let ex := e - 128
    -- x³/3 in units of 2^ex: m³·2^(3e) / 3 / 2^ex
    let k := 3 * e - ex
    let c := if k ≥ 0 then m * m * m * 2 ^ k.toNat / 3 else m * m * m / 3 / 2 ^ (-k).toNat
    (x - c, ex)
  else
    let (a, ea) := exp2Approx (2 * m * log2e128 : Nat) (e - 128)
    -- t = e^{2x} = a·2^ea; (t − 1)/(t + 1)
    let e0 := min ea 0
    let t := a * 2 ^ (ea - e0).toNat
    let one := 2 ^ (-e0).toNat
    ((t - one) * 2 ^ 128 / (t + one), -128)

/-- One ulp at a magnitude, as the exponent of binary32's spacing there. -/
def ulpExp (m : Nat) (e : Int) : Int := max (ilog2 m e - 23) fmtF32.qmin

/-- Is |x − y| ≤ b, each of the three given as a number and an exponent of 2? -/
def closeTo (x : Int) (ex : Int) (y : Int) (ey : Int) (b : Nat) (eb : Int) : Bool :=
  let e := min ex (min ey eb)
  let d := x * 2 ^ (ex - e).toNat - y * 2 ^ (ey - e).toNat
  decide (d.natAbs ≤ b * 2 ^ (eb - e).toNat)

/-- The free value `cand` where it lies within `n` ulp of every value from (y − δ)·2^ey to (y + δ)·2^ey, between which the exact
result lies, else y·2^ey rounded (R65: the value within the bound is the implementation's own). One ulp is the spacing at the end of
that interval that is nearer to zero. -/
def withinUlp (cand : Nat) (y : Int) (ey : Int) (δ n : Nat) : Nat :=
  let u := ulpExp (max (y.natAbs - δ) 1) ey
  let nearest := (fmtF32.encode (ofInt y ey false)).1
  match fmtF32.decode cand with
  | .fin ng m e _ =>
    let c : Int := if ng then -(m : Int) else m
    if closeTo c e (y - δ) ey n u && closeTo c e (y + δ) ey n u then cand % 2 ^ 32 else nearest
  | _ => nearest

/-- The free value `cand` where it lies within 2^-22 of every value from (y − δ)·2^ey to (y + δ)·2^ey, else y·2^ey rounded. -/
def withinAbs (cand : Nat) (y : Int) (ey : Int) (δ : Nat) : Nat :=
  let nearest := (fmtF32.encode (ofInt y ey false)).1
  match fmtF32.decode cand with
  | .fin ng m e _ =>
    let c : Int := if ng then -(m : Int) else m
    if closeTo c e (y - δ) ey 1 (-22) && closeTo c e (y + δ) ey 1 (-22) then cand % 2 ^ 32 else nearest
  | _ => nearest

/-- A magnitude with a sign. -/
def signedInt (n : Bool) (m : Nat) : Int := if n then -(m : Int) else m

/-- The five approximate functions. -/
inductive Approx where
  | rcp | rsq | exp2 | log2 | tanh
  deriving DecidableEq, Repr

/-- The candidate an implementation gives: a free value of Config, one for each function. -/
def Approx.cand : Approx → Nat → Nat
  | .rcp, x => (Config.approxRcp (BitVec.ofNat 32 x)).toNat
  | .rsq, x => (Config.approxRsq (BitVec.ofNat 32 x)).toNat
  | .exp2, x => (Config.approxExp2 (BitVec.ofNat 32 x)).toNat
  | .log2, x => (Config.approxLog2 (BitVec.ofNat 32 x)).toNat
  | .tanh, x => (Config.approxTanh (BitVec.ofNat 32 x)).toNat

/-- Flags of a result that is zero or subnormal for a finite operand (R65). -/
def tinyFlags (r : Nat) : FFlags :=
  if bits r 30 0 < 2 ^ 23 then { uf := true, nx := true } else {}

/-- An approximate function on a binary32 value (R65). -/
def approxF32 (fn : Approx) (raw : Nat) : Nat × FFlags :=
  let q := fmtF32.qnan
  let infP := fmtF32.infCode false
  match fn, fmtF32.decode raw with
  | _, .nan => (q, {})
  | .rcp, .inf n => (fmtF32.signed n 0, {})
  | .rcp, .fin n m e _ =>
    if m = 0 then (fmtF32.infCode n, { dz := true })
    else
      let (d, _) := fDiv (.fin false 1 0 false) (.fin false m e false)
      let (cr, cf) := fmtF32.encode d
      if cf.of then (fmtF32.infCode n, { of := true, nx := true })
      else match d with
        | .fin _ y ey sticky =>
          let r := withinUlp (Approx.cand fn raw) (signedInt n y) ey (b2n sticky) 1
          (r, tinyFlags r)
        | _ => (cr, {})
  | .rsq, .inf false => (0, {})
  | .rsq, .inf true => (q, { nv := true })
  | .rsq, .fin n m e _ =>
    if m = 0 then (fmtF32.infCode n, { dz := true })
    else if n then (q, { nv := true })
    else
      let (s, _) := fSqrt (.fin false (m * 2 ^ 160) (e - 160) false)
      match s with
      | .fin _ y ey sy =>
        match (fDiv (.fin false (2 ^ 256) (-256) false) (.fin false y ey false)).1 with
        | .fin _ z ez sz => let r := withinUlp (Approx.cand fn raw) z ez (if sy || sz then z / 2 ^ 70 + 1 else 0) 2; (r, tinyFlags r)
        | _ => (q, {})
      | _ => (q, {})
  | .exp2, .inf n => if n then (0, {}) else (infP, {})
  | .exp2, .fin n m e _ =>
    let x : Int := if n then -(m : Int) else m
    if m = 0 then (fmtF32.signed false (127 * 2 ^ 23), {})
    else if !n && !(magGt 128 0 m e) then (infP, { of := true, nx := true })
    else if n && magGt m e 150 0 then (0, { uf := true, nx := true })
    else
      let (y, ey) := exp2Approx x e
      -- an integer gives a power of two; any other operand a result known to a relative 2^-88
      let whole := if e ≥ 0 then true else decide (m % 2 ^ (-e).toNat = 0)
      let r := withinUlp (Approx.cand fn raw) y ey (if whole then 0 else y / 2 ^ 88) 2
      (r, tinyFlags r)
  | .log2, .inf n => if n then (q, { nv := true }) else (infP, {})
  | .log2, .fin n m e _ =>
    if m = 0 then (fmtF32.infCode true, { dz := true })
    else if n then (q, { nv := true })
    else if fEq (.fin false m e false) (.fin false 1 0 false) then (0, { uf := true, nx := true })
    else
      let y := log2Approx m e
      -- exact for a power of two, else known to 2^-95
      let δ := if m = 2 ^ Nat.log2 m then 0 else 2
      -- inside [0.5, 2] the bound is absolute, 2^-22
      let r := if magGt m e 2 0 || magGt 1 (-1) m e then withinUlp (Approx.cand fn raw) y (-96) δ 2
        else withinAbs (Approx.cand fn raw) y (-96) δ
      (r, tinyFlags r)
  | .tanh, .inf n => (fmtF32.signed n (127 * 2 ^ 23), {})
  | .tanh, .fin n m e _ =>
    if m = 0 then (fmtF32.signed n 0, {})
    else if !(magGt 91 0 (10 * m) e) then (fmtF32.signed n (127 * 2 ^ 23), {})
    else
      let (y, ey) := tanhApprox m e
      let r := withinUlp (Approx.cand fn raw) (signedInt n y) ey (y / 2 ^ 48 + 1) 2
      (r, tinyFlags r)

/-! ## Format codes (R33) -/

/-- The element formats by code; 0xF is reserved. -/
inductive Fmt where
  | bf16 | fp16 | e4m3 | e5m2 | mxfp8a | mxfp8b | mxfp6a | mxfp6b | mxfp4 | mxint8 | int8 | int4 | cb4 | w128 | fp32
  deriving DecidableEq, Repr

/-- The format of a 4-bit code (R33); none for the reserved code. -/
def Fmt.ofCode : Nat → Option Fmt
  | 0 => some .bf16
  | 1 => some .fp16
  | 2 => some .e4m3
  | 3 => some .e5m2
  | 4 => some .mxfp8a
  | 5 => some .mxfp8b
  | 6 => some .mxfp6a
  | 7 => some .mxfp6b
  | 8 => some .mxfp4
  | 9 => some .mxint8
  | 10 => some .int8
  | 11 => some .int4
  | 12 => some .cb4
  | 13 => some .w128
  | 14 => some .fp32
  | _ => none

/-- Bits of one element. -/
def Fmt.width : Fmt → Nat
  | .bf16 => 16 | .fp16 => 16 | .e4m3 => 8 | .e5m2 => 8 | .mxfp8a => 8 | .mxfp8b => 8
  | .mxfp6a => 6 | .mxfp6b => 6 | .mxfp4 => 4 | .mxint8 => 8 | .int8 => 8 | .int4 => 4
  | .cb4 => 4 | .w128 => 128 | .fp32 => 32
/-- A block-scaled MX format (R38). -/
def Fmt.isMx : Fmt → Bool
  | .mxfp8a | .mxfp8b | .mxfp6a | .mxfp6b | .mxfp4 | .mxint8 => true
  | _ => false
/-- Usable as a matrix operand (R33). -/
def Fmt.isMatrix : Fmt → Bool
  | .w128 | .fp32 => false
  | _ => true
/-- Usable as the output of a conversion (R33). -/
def Fmt.isOutput : Fmt → Bool
  | .cb4 | .w128 | .fp32 => false
  | _ => true
/-- The vector unit does arithmetic in the format (R33). -/
def Fmt.isVecArith : Fmt → Bool
  | .bf16 | .fp16 | .int8 | .fp32 => true
  | _ => false
/-- The vector unit converts the format (R33). -/
def Fmt.isVecConv : Fmt → Bool
  | .bf16 | .fp16 | .int8 | .fp32 | .e4m3 | .e5m2 | .int4 | .w128 => true
  | _ => false
/-- Elements of one K block: 32 for MX (R38), 256 for CB4 (R41), else 1. -/
def Fmt.kBlock : Fmt → Nat
  | .cb4 => 256
  | f => if f.isMx then 32 else 1

/-- The floating layout of an element, where it has one. -/
def Fmt.fl : Fmt → Option FFmt
  | .bf16 => some fmtBF16
  | .fp16 => some fmtF16
  | .e4m3 => some fmtE4M3
  | .e5m2 => some fmtE5M2
  | .mxfp8a => some fmtE4M3
  | .mxfp8b => some fmtE5M2
  | .mxfp6a => some fmtE3M2
  | .mxfp6b => some fmtE2M3
  | .mxfp4 => some fmtE2M1
  | .fp32 => some fmtF32
  | .cb4 => some fmtE4M3
  | _ => none

/-- The value of a raw element, without its block scale (R35); a CB4 element is given as its codebook entry (R41). -/
def Fmt.elem (f : Fmt) (raw : Nat) : FVal :=
  match f with
  | .int8 => ofInt (sext 8 raw) 0 false
  | .int4 => ofInt (sext 4 raw) 0 false
  | .mxint8 => ofInt (sext 8 raw) (-6) false
  | _ => match f.fl with
    | some ff => ff.decode raw
    | none => .nan

/-- Element `i` of a packed little-endian bit string (R37). -/
def packedElem (w : Nat) (l : List Byte) (i : Nat) : Nat :=
  let b := w * i
  let n := fieldAt l (b / 8) ((b % 8 + w + 7) / 8)
  bits n (b % 8 + w - 1) (b % 8)

/-- Pack elements of width `w` into bytes with no gaps (R37). -/
def packElems (w : Nat) (xs : List Nat) : List Byte :=
  let n := (xs.zip (List.range xs.length)).foldl (fun a x => a + (x.1 % 2 ^ w) * 2 ^ (w * x.2)) 0
  toLe ((w * xs.length + 7) / 8) n

/-! ## The W128 window (R43 to R50) -/

/-- The state of a window value (R43). -/
inductive WTag where
  | fin | ovr | nan | pinf | ninf
  deriving DecidableEq, Repr

/-- The reserved encoding of a special state (R43). -/
def WTag.code : WTag → Nat
  | .fin => 0
  | .ovr => 2 ^ 127
  | .nan => 2 ^ 127 + 1
  | .pinf => 2 ^ 127 + 2
  | .ninf => 2 ^ 127 + 3

/-- The state and number of a stored W128 value (R43). -/
def w128Read (w : W128) : WTag × Int :=
  let n := w.toNat
  if n = 2 ^ 127 then (.ovr, 0)
  else if n = 2 ^ 127 + 1 then (.nan, 0)
  else if n = 2 ^ 127 + 2 then (.pinf, 0)
  else if n = 2 ^ 127 + 3 then (.ninf, 0)
  else (.fin, w.toInt)

/-- The finite range of R43. -/
def wInRange (n : Int) : Bool := decide (-(2 ^ 127 - 4 : Int) ≤ n) && decide (n ≤ 2 ^ 127 - 1)

/-- The state of a sum depends only on the states present (R46). -/
def WTag.join (a b : WTag) : WTag :=
  if a = .nan ∨ b = .nan ∨ (a = .pinf ∧ b = .ninf) ∨ (a = .ninf ∧ b = .pinf) then .nan
  else if a = .pinf ∨ b = .pinf then .pinf
  else if a = .ninf ∨ b = .ninf then .ninf
  else if a = .ovr ∨ b = .ovr then .ovr
  else .fin

/-- Read a tagged exact sum out of the window (R48): the stored form and whether OVF is set. -/
def wReadOut (t : WTag) (n : Int) : W128 × WTag × Bool :=
  match t with
  | .fin => if wInRange n then (BitVec.ofInt 128 n, .fin, false) else (BitVec.ofNat 128 WTag.ovr.code, .ovr, true)
  | t => (BitVec.ofNat 128 t.code, t, false)

/-- The sum of two stored W128 values (R46 to R48), and whether it left the range. -/
def w128Add (a b : W128) : W128 × Bool :=
  let (ta, na) := w128Read a
  let (tb, nb) := w128Read b
  let (w, _, o) := wReadOut (ta.join tb) (na + nb)
  (w, o)

/-- One product in the window (R44, R45). -/
structure WProd where
  tag : WTag
  p : Int
  ovf : Bool
  unf : Bool
  deriving DecidableEq, Repr

/-- The product a·b·2^(sa + sb) rounded once to the nearest multiple of 2^WE, ties to even (R44, R45). -/
def wProduct (a b : FVal) (sa sb : Int) (we : Int) : WProd :=
  match (fMul a b).1 with
  | .nan => { tag := .nan, p := 0, ovf := false, unf := false }
  | .inf n => { tag := if n then .ninf else .pinf, p := 0, ovf := false, unf := false }
  | .fin n m e _ =>
    let (r, _) := roundMag n m (e + sa + sb) false we .rne
    if r ≥ 2 ^ 127 then { tag := .ovr, p := 0, ovf := true, unf := false }
    else { tag := .fin, p := if n then -(r : Int) else r, ovf := false, unf := decide (m ≠ 0) && decide (r = 0) }

/-- Entering the window from binary32 (R64): the stored value and the flags. -/
def f32ToW128 (raw : Nat) (we : Int) : W128 × FFlags :=
  match fmtF32.decode raw with
  | .nan => (BitVec.ofNat 128 WTag.nan.code, {})
  | .inf n => (BitVec.ofNat 128 (if n then WTag.ninf.code else WTag.pinf.code), {})
  | .fin n m e _ =>
    let (r, nx) := roundMag n m e false we .rne
    let v : Int := if n then -(r : Int) else r
    if wInRange v then (BitVec.ofInt 128 v, { nx := nx, uf := decide (m ≠ 0) && decide (r = 0) })
    else (BitVec.ofNat 128 WTag.ovr.code, { of := true, nx := true })

/-- Leaving the window to binary32 (R64). -/
def w128ToF32 (w : W128) (we osh : Int) : Nat × FFlags :=
  match w128Read w with
  | (.fin, n) =>
    -- a zero that leaves the window is +0 (R36)
    let r := fmtF32.encode (ofInt n (we - osh) false)
    (if bits r.1 30 0 = 0 then 0 else r.1, r.2)
  | (.ovr, _) => (fmtF32.qnan, { nv := true })
  | (.nan, _) => (fmtF32.qnan, {})
  | (.pinf, _) => (fmtF32.infCode false, {})
  | (.ninf, _) => (fmtF32.infCode true, {})

/-- The stochastic word of an element (R60). -/
def srBits (seed idx : Nat) : Nat :=
  let z0 := (seed + idx * 0x9E3779B97F4A7C15) % 2 ^ 64
  let z1 := ((z0 ^^^ (z0 >>> 30)) * 0xBF58476D1CE4E5B9) % 2 ^ 64
  let z2 := ((z1 ^^^ (z1 >>> 27)) * 0x94D049BB133111EB) % 2 ^ 64
  z2 ^^^ (z2 >>> 31)

/-- The rounding mode of an element: RMODE 0 to 2 with the seed and the element's index (R56, R61). -/
def rmodeOf (rmode seed idx : Nat) : RMode :=
  if rmode = 1 then .rtz else if rmode = 2 then .sr (bits (srBits seed idx) 63 32) else .rne

/-- Clamp an integer to a range, and whether it was beyond. -/
def clampI (lo hi v : Int) : Int × Bool :=
  if v < lo then (lo, true) else if v > hi then (hi, true) else (v, false)

/-- An integer output of R55 and R57. Under stochastic rounding a value beyond the range is not rounded (R61). -/
def wToInt (w : Nat) (n : Int) (sh : Int) (rm : RMode) : Nat × Bool :=
  let hi : Int := 2 ^ (w - 1) - 1
  let lo : Int := -(2 ^ (w - 1))
  let neg := decide (n < 0)
  let beyond := match rm with
    | .sr _ => if neg then magGt n.natAbs sh lo.natAbs 0 else magGt n.natAbs sh hi.natAbs 0
    | _ => false
  if beyond then ((BitVec.ofInt w (if neg then lo else hi)).toNat, true)
  else
    let (v, _) := roundInt neg n.natAbs sh rm
    let (c, b) := clampI lo hi v
    ((BitVec.ofInt w c).toNat, b)

/-- Convert one window value to a format that is not MX (R54 to R58). `wasFin` says that the element held state FIN before
its read-out began, which decides CSAT of a special state (R58). -/
def wConvert (f : Fmt) (tag : WTag) (wasFin : Bool) (n we osh : Int) (rm : RMode) (sat : Bool) : Nat × Bool :=
  match f with
  | .int8 | .int4 =>
    let w := f.width
    match tag with
    | .fin => wToInt w n (we - osh) rm
    | .pinf => (2 ^ (w - 1) - 1, wasFin)
    | _ => (2 ^ (w - 1), wasFin)
  | _ =>
    match f.fl with
    | none => (0, false)
    | some ff =>
      match tag with
      | .fin =>
        if n = 0 then (0, false) else
        let neg := decide (n < 0)
        let r := ff.round neg n.natAbs (we - osh) false rm
        if r.ovf then (ff.beyond neg rm sat, true)
        else (if r.code = 0 then 0 else ff.signed neg r.code, false)
      | .ovr | .nan => (ff.qnan, wasFin)
      | .pinf => (match ff.top with
        | .ieee => ff.infCode false
        | _ => if sat then ff.maxCode else ff.qnan, wasFin)
      | .ninf => (match ff.top with
        | .ieee => ff.infCode true
        | _ => if sat then ff.signed true ff.maxCode else ff.qnan, wasFin)

/-- emax of an MX element format (R59 step 3). -/
def Fmt.emax : Fmt → Int
  | .mxfp8a => 8
  | .mxfp8b => 15
  | .mxfp6a => 4
  | .mxfp6b => 2
  | .mxfp4 => 2
  | _ => 0

/-- One MX element of the shifted value n·2^sh under the shared exponent ex (R59 step 4, R61). -/
def mxElem (f : Fmt) (n sh ex : Int) (rm : RMode) : Nat :=
  let neg := decide (n < 0)
  match f with
  | .mxint8 =>
    -- v·2^(6 − E) rounded, then clamped to −128 to 127; the largest magnitude is that of −2.0, so a value between −128 and
    -- −127 units is rounded stochastically too (R61; DEDUCED, log entry 46)
    (BitVec.ofInt 8 (clampI (-128) 127 (roundInt neg n.natAbs (sh + 6 - ex) rm).1).1).toNat
  | _ => match f.fl with
    | none => 0
    | some ff =>
      if n = 0 then 0 else
      let r := ff.round neg n.natAbs (sh - ex) false rm
      if r.ovf then ff.signed neg ff.maxCode else if r.code = 0 then 0 else ff.signed neg r.code

/-- One row of a result tile in an MX format (R59): the scale, the elements and CSAT. `special` says that some element is
not FIN. -/
def mxRow (f : Fmt) (special : Bool) (ns : List Int) (sh : Int) (rms : List RMode) : Nat × List Nat × Bool :=
  if special then (0xFF, ns.map (fun _ => 0), false)
  else
    let x := ns.foldl (fun a n => max a n.natAbs) 0
    if x = 0 then (0, ns.map (fun _ => 0), false)
    else
      let e0 := ilog2 x sh - f.emax
      let (ex, _) := clampI (-127) 127 e0
      ((ex + 127).toNat, (ns.zip rms).map (fun p => mxElem f p.1 sh ex p.2), decide (e0 > 127))

end Sys2Proof.Machine
end

