-- ==== Sys2Proof/Machine/StCore.lean ====
section
/-! DEFINITION. The state of one core position: threads, tile buffers, accumulators, the matrix queue and the transfer
slots (R71 to R92). -/

namespace Sys2Proof.Machine

/-- The exception causes of R87. -/
inductive Cause where
  | illegalOp | badFormat | weMismatch | mxOwner | tbInvalid | mxShape | align | unmapped | poisoned
  | blockCheck | eccUncorr | datapath | threadBusy
  deriving DecidableEq, Repr

/-- The cause codes of R87. -/
def Cause.code : Cause → Nat
  | .illegalOp => 0x01 | .badFormat => 0x02 | .weMismatch => 0x03 | .mxOwner => 0x04 | .tbInvalid => 0x05
  | .mxShape => 0x06 | .align => 0x07 | .unmapped => 0x08 | .poisoned => 0x09 | .blockCheck => 0x0A
  | .eccUncorr => 0x0B | .datapath => 0x0C | .threadBusy => 0x0D

/-- Class H: a hardware fault, after which the step is replayed (R87). -/
def Cause.isH : Cause → Bool
  | .blockCheck | .eccUncorr | .datapath => true
  | _ => false

/-- A latched fault record (R87). -/
structure FaultRec where
  cause : Cause
  pc : Nat
  addr : Nat
  deriving DecidableEq, Repr

/-- The thread states of R85. -/
inductive TState where
  | idle | running
  | waiting (target : Word)
  | committed | faulted
  deriving DecidableEq, Repr

/-- What an outstanding memory operation of a thread will do when its answer arrives. -/
inductive OpKind where
  /-- LD into gD of 2^sz bytes; `sx` sign-extends; `off` the byte within the 8-byte unit read. -/
  | load (d : Nat) (sz : Nat) (sx : Bool) (off : Nat)
  | vload (d : Nat)
  /-- A store to a drawer outside the cluster, awaiting its ACK. -/
  | store
  /-- An atomic whose old word goes to gD. -/
  | atomic (d : Nat)
  /-- A lock instruction at lock word `dpa`; `wait` the retrying form, `rel` LKREL. -/
  | lock (d : Nat) (dpa : Nat) (wait : Bool) (rel : Bool)
  /-- A SEND whose destination mailbox has not yet accepted it. -/
  | send
  deriving DecidableEq, Repr

/-- An outstanding memory operation: its place in the issue order, what it is, and the DPA or aperture address it names. -/
structure OutOp where
  id : Nat
  kind : OpKind
  addr : Nat
  /-- PC and instance address of the instruction, for its fault record. -/
  pc : Nat := 0
  iaddr : Nat := 0
  deriving DecidableEq, Repr

/-- A FENCE that still holds accesses back (R138): the operations it waits for, and whether it holds every later access or
only the later writes. -/
structure FenceHold where
  waits : List Nat
  all : Bool
  deriving DecidableEq, Repr

/-- One hardware thread (R71). -/
structure Thread where
  st : TState := .idle
  g : Tbl Nat Word := []
  v : Tbl Nat VReg := []
  p : Tbl Nat Word := []
  pc : BitVec 40 := 0
  fflags : BitVec 5 := 0
  fault : Option FaultRec := none
  /-- The step the thread belongs to (a key of the step table), 0 for none. -/
  step : Nat := 0
  /-- The step index of its start record (R82). -/
  stepIdx : Word := 0
  ops : List OutOp := []
  fences : List FenceHold := []
  /-- A COMMIT has been issued and waits for the earlier instructions (R84). -/
  committing : Bool := false
  deriving DecidableEq, Repr

/-- A tile buffer: 4 KiB of data (shorter lists read as zero beyond their end), its side store, VALID and its owner (R75,
R78). -/
structure TileBuf where
  data : List Byte := []
  side : List Byte := []
  valid : Bool := false
  owner : Option Nat := none
  deriving DecidableEq, Repr

/-- One accumulator element: the 144-bit sum and its tag (R47). -/
structure AccElem where
  sum : Acc144 := 0
  tag : WTag := .fin
  deriving DecidableEq, Repr

/-- One accumulator (R75): 512 elements (an empty list stands for 512 cleared ones), ACCST, WE and WE_SET. -/
structure Acc where
  elems : List AccElem := []
  terms : Nat := 0
  tlim : Bool := false
  ovf : Bool := false
  unf : Bool := false
  nan : Bool := false
  inf : Bool := false
  csat : Bool := false
  we : Int := 0
  weSet : Bool := false
  owner : Option Nat := none
  deriving DecidableEq, Repr

/-- What a matrix-queue entry is to do. -/
inductive MqKind where
  | mxm | mxms | mxmr | mxst | mxaw
  deriving DecidableEq, Repr

/-- A matrix instruction in the matrix queue (R75): the fields of its words, the register values it read at issue. `readout`
marks that its products are summed and its read-out runs (R80). -/
structure MqEntry where
  id : Nat
  tid : Nat
  pc : Nat
  step : Nat
  kind : MqKind
  f : FmtM
  /-- Instance address of the tensor descriptor, from gGT. -/
  td : Nat
  /-- The destination or collective word, from gGX. -/
  x : Nat
  readout : Bool := false
  /-- The tensor descriptor, once it has been read. -/
  tdRead : Option (List Byte) := none
  /-- An MXST whose descriptor asks for a W128 output, which names the pair (R113). -/
  pair : Bool := false
  /-- The accumulator as it was before the products, for an exception at read-out (R124). -/
  saved : Option Acc := none
  deriving DecidableEq, Repr

/-- A delivery that outlives its queue entry: an MXMS tile awaiting acknowledgements, an MXMR tile awaiting its staging
(R114, R115). -/
structure Deliv where
  id : Nat
  tid : Nat
  step : Nat
  /-- Acknowledgements still missing (MXMS). -/
  acks : Nat
  /-- A destination failed the block check of the tile (status 1 of R175). -/
  bad : Bool := false
  /-- The destination word of an MXMS. -/
  x : Nat := 0
  /-- The collective context and tile of an MXMR, with the tile's bytes. -/
  coll : Option (Nat × Nat × List Byte) := none
  deriving DecidableEq, Repr

/-- The four transfers (R108). -/
inductive XferKind where
  | ldb (tile : Nat) (fmt : Nat) (nl : Nat) (side : Nat)
  | stb (tile : Nat) (len : Nat) (side : Option Nat)
  | asave (acc : Nat)
  | arst (acc : Nat)
  deriving DecidableEq, Repr

/-- A transfer in one of the four slots: its instance address, its DPA and whether it has made its first drawer access. -/
structure Xfer where
  id : Nat
  tid : Nat
  pc : Nat
  step : Nat
  kind : XferKind
  iaddr : Nat
  dpa : Nat
  /-- Length of the range at `dpa`, and the ranges of side bytes. -/
  len : Nat
  sides : List (Nat × Nat) := []
  /-- The word of gB or gGX. -/
  word : Nat := 0
  /-- An LDB from a drawer of another cluster: its block read has been sent, and what came back: the data, the carried check
  and whether the read found an uncorrectable word. -/
  asked : Bool := false
  got : Option (List Byte × BitVec 32 × Bool) := none
  /-- An ARST from a drawer of another cluster: the blocks that have come, by number. -/
  blocks : Tbl Nat (List Byte × BitVec 32 × Bool) := []
  /-- An STB or ASAVE to drawers of other clusters: the acknowledgements still missing. -/
  acks : Nat := 0
  deriving DecidableEq, Repr

/-- The matrix state of a physical core that serves no position: it stays with the core (R92). -/
structure ParkedCore where
  tiles : Tbl Nat TileBuf := []
  accs : Tbl Nat Acc := []
  deriving DecidableEq, Repr

/-- One core position. -/
structure CoreSt where
  threads : Tbl Nat Thread := []
  tiles : Tbl Nat TileBuf := []
  accs : Tbl Nat Acc := []
  mq : List MqEntry := []
  xfer : List Xfer := []
  deliv : List Deliv := []
  /-- The next place in the issue order (R69). -/
  seq : Nat := 0
  /-- The thread that issued last (R68). -/
  lastTid : Nat := 0
  /-- The step serial SSER (R144). -/
  sser : BitVec 16 := 0
  deriving DecidableEq, Repr

end Sys2Proof.Machine
end

