-- ==== Sys2Proof/Machine/StDev.lean ====
section
/-! DEFINITION. State of power, clocks, pins, boot and the emulated register window (R353 to R357, R440 to R479). -/

namespace Sys2Proof.Machine

/-- Pins, rails and power levels (R440 to R446, R466, R471 to R473). After reset 48 V is present, and the pins are at the
levels of the pull-downs on the module: PWR_EN low, PERST_N asserted. -/
structure PowerSt where
  /-- 48 V is present: the always-on domain runs. -/
  aon : Bool := true
  pwrEn : Bool := false
  pwrGood : Bool := false
  /-- The 100 ms hold after a deassertion of PWR_EN, and a reassertion that waits for its end. -/
  hold : Bool := false
  reassert : Bool := false
  perst : Bool := true
  trip : Bool := false
  /-- The switched domains are off for VIN out of range; PWR_EN must be asserted afresh (R471). -/
  vinOff : Bool := false
  vinBad : Bool := false
  /-- The switched rails are enabled: they ramp, or stand (R472). -/
  rails : Bool := false
  /-- PWR_EN has been deasserted and no power-on reset has followed (R446). -/
  d3cold : Bool := false
  /-- Samples in a row with VIN out of range for the switched domains; the last ten power samples in 0.1 mW (latest first); samples in a
  row below 95 % of the cap; and for each region the samples in a row below THROT_C - 5 (R448, R449, R471). -/
  vinRow : Nat := 0
  samples : List Nat := []
  lowRow : Nat := 0
  coolRow : Tbl Nat Nat := []
  /-- Regions whose exit from PL1 or PL2 runs, and those that something waits for (R443). -/
  exiting : List Nat := []
  /-- Device level: 0, 3 or 4, and whether its exit runs. -/
  dev : Nat := 0
  devExit : Bool := false
  /-- Episodes of the power cap and of each region's throttle (R448, R449). -/
  capHit : Bool := false
  throttled : List Nat := []
  hot : List Nat := []
  /-- Positions whose reset has not ended (R454). -/
  posReset : List Nat := []
  deriving DecidableEq, Repr

/-- The battery domain and the boot ROM (R456, R457). -/
structure BootSt where
  bbrValid : Bool := false
  vbatOk : Bool := false
  vbat : Nat := 0
  /-- The word 40 that a write of word 41 will load with it. -/
  rtcLow : Nat := 0
  /-- The image in hub SRAM has been verified: the boot ROM has entered Tutoby. -/
  running : Bool := false
  /-- Fuses burnt since manufacture: the anti-rollback counter is at least this (R456). -/
  rbBurnt : Nat := 0
  deriving DecidableEq, Repr

/-- The emulated register window (R354, R355): writes that wait, PENDING, LOST, FW_UP, the heartbeat last seen by the
Sideboard's watchdog. -/
structure EmuSt where
  ring : List (Nat × Nat) := []
  pending : Bool := false
  lost : Bool := false
  fwUp : Bool := false
  seen : Nat := 0
  deriving DecidableEq, Repr

end Sys2Proof.Machine
end

