-- ==== Sys2Proof/Machine/StFab.lean ====
section
/-! DEFINITION. State of the package fabric: link ends, outstanding requests, flows and discovery (R164 to R197). -/

namespace Sys2Proof.Machine

/-- What an outstanding request of a source endpoint belongs to (R173): an operation of a thread, a lock probe, an MXMS
delivery, or an engine's fragment. `answers` counts the answers still due (a multicast has one for each copy). -/
inductive ReqKind where
  | op (tid id : Nat)
  | xfer (tid id : Nat)
  /-- Block `k` of an ARST. -/
  | xblk (tid id k : Nat)
  | deliv (id : Nat)
  | engine (n : Nat)
  /-- A liveness probe for the lock word `dpa` that held `word`: it completes the evaluation of an LKACQ of a thread of the
  drawer's cluster, or of the AMO packet it came by. -/
  | probe (dpa word pos tid id : Nat) (wait : Bool) (pkt : Option StreamPkt)
  deriving DecidableEq, Repr

structure ReqRec where
  kind : ReqKind
  answers : Nat := 1
  /-- The flow that carried the request, whose echoes its answers are (R189): source, channel and destination region. -/
  flow : Option (Nat × Nat × Nat) := none
  deriving DecidableEq, Repr

/-- The states of a link end (R178). -/
inductive LinkState where
  | down | basic | stream
  deriving DecidableEq, Repr

/-- PORT_STATE.STATE. -/
def LinkState.code : LinkState → Nat
  | .down => 0 | .basic => 1 | .stream => 2

/-- One package link end (R177, R178). -/
structure LinkEnd where
  st : LinkState := .down
  /-- Consecutive failed tests. -/
  fails : Nat := 0
  /-- LTEST packets of the running test received in SEQ order with good CRC, and whether one was bad. -/
  good : Nat := 0
  bad : Bool := false
  /-- Both ends have passed the test. -/
  passed : Bool := false
  /-- Resends asked for of the packet now being resent. -/
  resends : Nat := 0
  /-- The end came from STREAM: its stream credits are frozen. -/
  froze : Bool := false
  deriving DecidableEq, Repr

/-- Where a stream packet is (R186, R192): it waits at its source's injection (a cluster's router, or 1,024 plus the hub link), crosses only
the router of one cluster or the hub, lies in an input buffer (a mesh-router port, a hub side, a cluster router), or is on a package link,
sent by a link end that keeps it in its replay buffer. -/
inductive HopAt where
  | src (n : Nat)
  | loc
  | buf (b : Nat)
  | wire (e : Nat)
  deriving DecidableEq, Repr

/-- A stream packet inside the package, and the regions its copies still go to (64 is the hub). The fabric is a list of flights, and the
order of two flights of one place and channel is their order there. -/
structure Flight where
  pkt : StreamPkt
  place : HopAt
  dsts : List Nat
  deriving DecidableEq, Repr

/-- A flow of the package (R189): its rate in 2^-16 units of 0.25 GB/s, α in units of 2^-32, the echoes and marks of the
period, and its tokens in 2^-16 bytes. -/
structure Flow where
  rate : Nat
  alpha : Nat := 2 ^ 32
  a : Nat := 0
  m : Nat := 0
  tokens : Int := 8192 * 65536
  deriving DecidableEq, Repr

/-- An LSA as it was received (R194): origin UID, its DEVNUM field, run, part, part count and neighbour UIDs. -/
structure Lsa where
  uid : Nat
  dev : Nat
  run : Nat
  part : Nat
  parts : Nat
  nbrs : List Nat
  deriving DecidableEq, Repr

/-- Discovery (R194, R195): a run is in progress, its number, the LSAs of the set, and whether a run has finished. -/
structure Disc where
  busy : Bool := false
  run : Nat := 0
  lsas : List Lsa := []
  finished : Bool := false
  /-- The last run left this device without a number: its links to the fabric carry basic packets only (R195). -/
  overflow : Bool := false
  /-- HELLO and LSA packets that have arrived on Ethernet links, by logical port, and wait for the basic-packet path (R297). -/
  rx : List (Nat × BasicPkt) := []
  deriving DecidableEq, Repr

end Sys2Proof.Machine
end

