-- ==== Sys2Proof/Machine/RegName.lean ====
section
/-! DEFINITION. The names of the hardware registers, one for each register or register array of the spec's register maps. -/

namespace Sys2Proof.Machine

/-- The hardware registers by the name the spec gives them (an array of registers is one name, indexed). -/
inductive Reg where
  | GLB_ID | GLB_STEPPING | GLB_STATUS | GLB_BOOT_ADDR | GLB_BOOT_LEN | GLB_BOOT_CTL | GLB_BOOT_STATUS | GLB_FUSE 
  | GLB_POSRST | GLB_EVT | GLB_EVT_EN | PWR_CTL | PWR_STATUS | PWR_PD_ON0 | PWR_PD_ON1 | PWR_CAP | PWR_THERM | PWR_IN 
  | PWR_PAVG | PWR_PEAK | PWR_HUB_TEMP | PWR_CAPLIM | PWR_EVT | PWR_EVT_EN | THROTTLE_CNT | FREQ_TGT | FREQ_NOW 
  | REG_PWR | CLK_REF | CLK_ETH_PPM | CLK_LOCK | CLK_EVT | CLK_EVT_EN | PLL_UNLOCK_CNT | MSIX_ADDR | MSIX_DATA 
  | MSIX_CTL | PBA | IRQ_CAUSE | IRQ_CAUSE_EN | IRQ_CAUSE_VEC | HL_STATUS | HL_LTR | HL_EVT | HL_EVT_EN | HDM_VIOL_CNT 
  | PEER_REFUSED_CNT | HDM_VIOL_ADDR | BIAS_BUSY | PEER_ALLOW | HCE_STATUS | HCE_RD_BYTES | HCE_WR_BYTES | MOD_CFG 
  | MOD_STATUS | BIAS | QUE_PF | QUE_STATUS | QUE_EVT | QUE_EVT_EN | STALE_CPL_CNT | CQ_DROP_CNT | DB_IGNORED_CNT 
  | QUE_ERRQ | QUEI | DOORBELL_SLOT | QBASE | QHEAD_ADDR | QCFG | QCTL | QSTATE | QERR_INDEX | QSCAN | QHEAD | CQ_CONS 
  | QDONE | FAB_CTRL | FAB_STATUS | DEV_ID | FAB_UID | REGION_OK | MARK_THR | RL_CFG | RL_MIN | AGE_NOW | FAB_EVT 
  | FAB_EVT_EN | DROP_INST_CNT | DROP_ROUTE_CNT | DISC_CTRL | FWD_DROP_CNT | TELEM_CFG | DEVRT | NBR_UID | NBR_INFO 
  | MCG | HPKT_VC | HBYTE_VC | HSTALL | HQDEPTH | HQPEAK | HLINKERR | HMARKS | HPORT_STATE | PKT_VC | BYTE_VC | STALL 
  | QDEPTH | QPEAK | LINKERR | MARKS | PORT_STATE | TT_TIME | TT_TIME_FRAC | TT_SET | TT_SRC_CFG | TT_SERVO | TT_SLEW 
  | TT_OFFSET | TT_RATE | TT_STATUS | TT_PPS_CFG | TT_BEAT_CFG | TT_BEAT_EPOCH | TT_BEAT | TT_EVT | TT_EVT_EN | TIME_JUMP_CNT 
  | TTI_STATE | TTI_B0 | TTI_PERIOD | TTI_NSTEPS | TTI_STEP | TTI_SLACK | TTI_STOP_BEAT | TTI_CNT | TTI_GRP | FT_CTRL 
  | FT_UDP | FT_RL_CFG | FT_RL_MIN | FT_ACK_CFG | FT_RTO_CFG | FT_RETRY_CFG | FT_CFG | FT_STATUS | FT_WIN_USED 
  | FT_HDR_CNT | FT_CACHE_MISS_CNT | FT_EVT | FT_EVT_EN | FT_DROP_HDR_CNT | FT_DROP_CONN_CNT | FT_DROP_SEQ_CNT 
  | FT_CRC_ERR_CNT | FT_DUP_CNT | FT_RETX_CNT | FT_TIMEOUT_CNT | FT_WIN_REFUSED_CNT | FT_WIN_EXPIRED_CNT | FT_CANCEL_LATE_CNT 
  | FT_REORDER_DROP_CNT | FT_RCNT | FTI_CFG | FTI_RCNT | FTI_INFLIGHT | FTI_WIN | FTC_STATE | FTC_PEER | FTC_RATE 
  | FTC_TX_DSN | FTC_RX_CDSN | FTC_OUT | FTC_RETX | PORT_CFG | PORT_STATUS | PORT_OVH | PORT_HOLD | PORT_PWD | PORT_FEC_THR 
  | PTP_LAT | PORT_EVT | PORT_EVT_EN | LP_CFG | LP_MAXFR | LP_STATUS | LP_THR | LP_PAUSE | LP_MAC | LP_IP6_LO | LP_IP6_HI 
  | UC | HASH | DSCP_TC | METSEL_SYS | LP_EVT | LP_EVT_EN | PTP_TXTS_CTL | PTP_TXTS_ID | PTP_TXTS_NS | RX_FRAMES 
  | RX_BYTES | TX_FRAMES | TX_BYTES | RX_FCS_ERR | RX_LEN_ERR | RX_FILTER_DROP | RX_CSUM_DROP | RX_NOBUF_DROP | RX_METER_DROP 
  | TX_HELD | TX_NOTREADY_DROP | TX_SHED | TX_ECN_MARK | PWD_BREAK_CNT | PWD_IGNORED | FEC_CORR_CW | FEC_UNCORR_CW 
  | FEC_SYM_ERR | PAUSE_RX | PAUSE_TX | METSEL | EQ_CFG | EQ_DEPTH | MTR_CIR | MTR_PIR | MTR_BS | MTR_CTL | MTR_GREEN 
  | MTR_YELLOW | MTR_RED | CIP_CTRL | CIP_STATUS | CIP_DRK_ID | CIP_PIPE_BUSY | CIP_EVT | CIP_EVT_EN | CIP_AUTH_FAIL_CNT 
  | CIP_UNWRAP_FAIL_CNT | CIP_TX_BYTES | CIP_RX_BYTES | CIPI_KEK | CIPI_SLOTS | SLOT_STATE | SLOT_AUTHF | SLOT_LOADS 
  | COL_CFG | COL_STATUS | COL_EVT | COL_EVT_EN | LATE_CONTRIB_CNT | DUP_CONTRIB_CNT | PEER_DROP_CNT | COLI_CFG 
  | COLI_STATUS | COLC_STATE | COLC_GCTX | COLC_RND | COLC_DONE | COLC_PARTIAL | COLC_STAGE | INS_CFG | INS_STATUS 
  | INS_FREE_CONN | INS_FREE_WIN | INS_FREE_TTE | INS_FREE_COLL | INS_REGION | INSI_STATE | INSI_PASID | INSI_HA_BASE 
  | INSI_APER | INSI_LAT_DEF | INSI_LAT | INSI_CONN | INSI_WIN | INSI_TTE | INSI_COLL | INSI_MTR | INSI_EQ | INSI_RMAP 
  | INSI_EVT | INSI_EVT_EN | INSI_GEN_DROP_CNT | INSI_TAG_DROP_CNT | INSI_DIRTY | INSI_EPOCH | INSI_RESET_CNT | REL_CFG 
  | REL_TEST_CFG | REL_HIST_CFG | REL_STATUS | REL_FATAL | REL_EVT | REL_EVT_EN | REL_LOG_PROD | REL_LOG_CONS | REL_LOST 
  | REL_PEND | REL_FORCE | REL_RPT | REL_HQ_UNIT | REL_HQ_RES | REL_CNT | REL_LOG | CL_PMAP | CL_ROLE | CL_EPOCH 
  | CL_FAULT | REL_CORE | HRM_DATA | HRM_STATUS | HRM_NOTICES | MBXC_STATUS | BBR_WORD | BBR_STATUS | VMSIX_ADDR 
  | VMSIX_DATA | VMSIX_CTL | VPBA | VMOD_CFG | VMOD_STATUS | VF_CAUSE | VF_CAUSE_EN | VF_CAUSE_VEC | VHRM_DATA 
  | VHRM_STATUS | VHRM_NOTICES | VFS_ID | FTC_SEL | EMU_STATUS | EMU_WR_SEQ | EMU_DONE_SEQ | EMU_HEARTBEAT | EMU_FW_VER 
  | EMU_FW_BUILD | EMU_ROLLBACK_MIN | EMU_API_VER | EMU_DRV_VER | EMU_SCRATCH 
  deriving DecidableEq, Repr

end Sys2Proof.Machine
end

