-- ==== Sys2Proof/Machine/StSys.lean ====
section
/-! DEFINITION. State of the host interface and of the device's management: mailboxes, queues, vectors, instances, placement,
reliability, fabric time, timetables and steps. -/

namespace Sys2Proof.Machine

/-! ## Mailboxes (R385) -/

/-- One mailbox word: its data and its END tag (a word present is VALID). -/
structure MWord where
  data : Nat
  last : Bool
  deriving DecidableEq, Repr

/-- A mailbox of two banks. `bank` is the number of the drain bank; `waiting` holds packets that do not yet fit. -/
structure MBox where
  fill : List MWord := []
  drain : List MWord := []
  bank : Bool := false
  pkts : Nat := 0
  /-- The next read starts a packet. -/
  atStart : Bool := true
  waiting : List (List Nat) := []
  deriving DecidableEq, Repr

/-! ## Commands that wait and their replies (R378 to R381) -/

/-- Where the reply of a command goes: the issuing function (0 the PF, v a VF), its queue (global), the entry index, SEQ and
OPCODE, with the instance it names and that instance's generation when it was accepted (R397). -/
structure CmdRef where
  fn : Nat
  q : Nat
  idx : Nat
  seq : Nat
  opcode : Nat
  inst : Nat
  gen : Nat
  deriving DecidableEq, Repr

/-- A reply that waits for CMD_REPLY to write it. -/
structure Reply where
  ref : CmdRef
  words : List Nat
  deriving DecidableEq, Repr

/-! ## Queues (R361 to R376) -/

/-- The states of R371. -/
inductive QState where
  | disabled | active | error | draining
  deriving DecidableEq, Repr

/-- A completion entry that is held: its 32 bytes without the PHASE bit, and whether a fetched entry produced it (R376). -/
structure Cpl where
  data : List Byte
  fetched : Bool
  inst : Nat
  gen : Nat
  deriving DecidableEq, Repr

/-- A fetched entry that has not left the queue: index, bytes, whether it has been checked, has started and has completed,
the completion that it writes (queue and entry) when its turn comes, and the generation of its instance when it was fetched. -/
structure QEntry where
  idx : Nat
  data : List Byte
  started : Bool := false
  completed : Bool := false
  checked : Bool := false
  cpl : Option (Nat × Cpl) := none
  gen : Nat := 0
  deriving DecidableEq, Repr

/-- The private state of one queue; QBASE, QHEAD_ADDR, QCFG, QCTL, CQ_CONS and QDONE are registers. -/
structure Queue where
  st : QState := .disabled
  scan : Nat := 0
  lap : Bool := true
  scanning : Bool := false
  dbPend : Bool := false
  full : Bool := false
  errStatus : Nat := 0
  errIndex : Nat := 0
  errValid : Bool := false
  head : Nat := 0
  headLap : Bool := true
  /-- The head has advanced since it was last published. -/
  headDue : Bool := false
  entries : List QEntry := []
  /-- Entries that FT_CANCEL has cancelled before their fetch (R272). -/
  cancels : List Nat := []
  /-- A CPL queue's count of entries written, modulo 2^17. -/
  prod : Nat := 0
  held : List Cpl := []
  /-- RESUME of R406: the queue was ACTIVE when its instance froze. -/
  resume : Bool := false
  deriving DecidableEq, Repr

/-! ## Functions, vectors and the host link (R334 to R360) -/

/-- One MSI-X vector's moderation state (R351) and its PBA bit (R352); `thr` is the threshold and timer latched at its last
request. -/
structure Vec where
  cnt : Nat := 0
  timerRun : Bool := false
  pba : Bool := false
  thr : Nat := 1
  timerUs : Nat := 0
  deriving DecidableEq, Repr

/-- A PCIe function: its power state, the MSI-X Enable and Function Mask bits, PME state, the read shadow and write hold of
R28, and the completions it holds in D3hot. -/
structure Fn where
  d3 : Bool := false
  msixEn : Bool := false
  fnMask : Bool := false
  pmeEn : Bool := false
  pmeStatus : Bool := false
  /-- The function asserts WAKE_N (R352). -/
  wake : Bool := false
  shadow : Option (Nat × Nat) := none
  hold : Option (Nat × Nat) := none
  heldCpl : List (Nat × Cpl) := []
  deriving DecidableEq, Repr

/-- The host link (R334 to R336). -/
structure HostLink where
  active : Bool := false
  speed : Nat := 0
  width : Nat := 0
  cxl : Bool := false
  lps : LinkPs := .training
  trained : Bool := false
  ltrEn : Bool := false
  maxSnoop : Option Nat := none
  maxNoSnoop : Option Nat := none
  refclk : Bool := true
  /-- Messages that wait for the link to reach L0. -/
  waitL0 : List (Nat × Nat) := []
  deriving DecidableEq, Repr

/-- An outstanding read of host memory by a core: the operation that waits, its instance, the aperture offset and the length. The
hub engines' reads appear as operands of the rows that use what they return. -/
structure HReadRec where
  pos : Nat
  tid : Nat
  id : Nat
  inst : Nat
  off : Nat
  len : Nat
  deriving DecidableEq, Repr

/-! ## Instances (R390 to R410) -/

/-- The states of R390. -/
inductive InstState where
  | free | active | resetting | freezing | frozen | destroying
  deriving DecidableEq, Repr

/-- INSI_STATE.STATE. -/
def InstState.code : InstState → Nat
  | .free => 0 | .active => 1 | .resetting => 2 | .freezing => 3 | .frozen => 4 | .destroying => 5

/-- One instance. -/
structure Inst where
  st : InstState := .free
  vf : Nat := 0
  nvec : Nat := 0
  gen : Nat := 0
  pasid : Nat := 0
  haBase : Nat := 0
  aperLimit : Nat := 0
  latDef : Nat := 0
  /-- The POWER_HINT in force: its tolerance and the beat at which it ends (R229). -/
  hint : Option (Nat × Nat) := none
  qBase : Nat := 0
  qCount : Nat := 0
  cBase : Nat := 0
  cCount : Nat := 0
  sBase : Nat := 0
  sCount : Nat := 0
  nColl : Nat := 0
  nConn : Nat := 0
  nWin : Nat := 0
  nTte : Nat := 0
  mtrBase : Nat := 0
  mtrCount : Nat := 0
  neq : Nat := 0
  /-- The region map (R133), entry to its 16 bits. -/
  map : Tbl Nat Nat := []
  /-- The CREATE_INSTANCE payload, for the CONFIG record of R406. -/
  payload : List Byte := []
  /-- Regions still being zeroised (R400). -/
  zeroing : List Nat := []
  /-- The CREATE_INSTANCE, or the RESET_INSTANCEs, that reply when the zeroisation ends. -/
  waiters : List CmdRef := []
  /-- A destruction that waits for a running reset, and the command that asked for one. -/
  destroyPend : Bool := false
  destroy : Option CmdRef := none
  /-- The sequence that zeroisation completes: a creation, or a reset. -/
  creating : Bool := false
  /-- The steps of R398 that the instance is in: 0 none, 3 draining, 4 bias, 5 clearing. -/
  phase : Nat := 0
  /-- A FREEZE_INSTANCE that waits: its beat and its command. -/
  freezeAt : Option (Nat × CmdRef) := none
  freezeBeat : Nat := 0
  /-- Dirty logging (R403). -/
  dirtyOn : Bool := false
  activeMap : Bool := false
  outside : Bool := false
  epoch : Nat := 0
  logBase : Nat := 0
  logPages : Nat := 0
  hmapA : Nat := 0
  hmapB : Nat := 0
  smap : Nat := 0
  /-- Pages marked in the active host bitmap, and granules dirty in the current epoch (entry, granule). -/
  pages : List Nat := []
  granules : List (Nat × Nat) := []
  deriving DecidableEq, Repr

/-! ## Placement (R91, R418 to R422) -/

/-- The four roles of R91. -/
inductive Role where
  | serving | spare | underTest | retired
  deriving DecidableEq, Repr

/-- The placement of one cluster: which physical core serves each position (by default Pk serves Lk, none is UNSERVED), the
role of each physical core, and the placement epoch. -/
structure Placement where
  pmap : Tbl Nat (Option Nat) := []
  roles : Tbl Nat Role := []
  epoch : BitVec 16 := 0
  deriving DecidableEq, Repr

/-- What else is kept of one cluster: when its placement last changed, the positions that wait for a move, the swap that an
offered test slot makes at the next boundary, and whether NO_SPARE has been raised since a spare last existed. -/
structure ClusterSt where
  lastChange : Option Nat := none
  waiting : List Nat := []
  slotOffered : Bool := false
  noSpareRaised : Bool := false
  deriving DecidableEq, Repr

/-! ## Reliability (R416, R427 to R437) -/

/-- The history of one unit, as the Sideboard keeps it: the times of its last 16 events, latest first, in seconds. -/
structure UnitHist where
  events : List Nat := []
  advised : Bool := false
  /-- Corrected errors of a drawer in the current hour (R427). -/
  ceHour : Nat := 0
  /-- For cores: the hour of the last pass (AGE_H counts from it), passes since the history was cleared, the marks of
  REL_CORE. -/
  passHour : Nat := 0
  passes : Nat := 0
  due : Bool := false
  overdue : Bool := false
  suspect : Bool := false
  retirePend : Bool := false
  /-- The in-field test that runs has failed once already (R425). -/
  failedOnce : Bool := false
  /-- The running test is a RETURN of a retired core (R428). -/
  returning : Bool := false
  deriving DecidableEq, Repr

/-- A captured error (R432, R433). -/
structure ErrItem where
  seq : Nat
  sev : Nat
  src : Nat
  bit : Nat
  inst : Nat := 0xFF
  unit : Nat := 0xFFFFFF
  info0 : Nat := 0
  time : Nat := 0
  info1 : Nat := 0
  /-- An event of LP_EVT, which names its Redfish MessageId; no byte of the entry holds it. -/
  lp : Bool := false
  deriving DecidableEq, Repr

/-- The error log, its pending queue and the Sideboard's reports. -/
structure RelSt where
  seq : Nat := 0
  pend : List ErrItem := []
  /-- The entry being handled, with the actions already taken (R432). -/
  handling : List (ErrItem × Nat) := []
  log : Tbl Nat (List Byte) := []
  prod : Nat := 0
  /-- A FATAL error has stopped logging, steps and commands (R434). -/
  fatal : Bool := false
  hist : Tbl Nat UnitHist := []
  /-- History events not yet in flash (R429): unit and time. -/
  unsaved : List (Nat × Nat) := []
  /-- What flash holds of a unit: its history and whether it is retired. -/
  flash : Tbl Nat (UnitHist × Bool) := []
  histOk : Bool := true
  reports : List (List Byte) := []
  rptSeq : Nat := 0
  sent : Nat := 0
  udpEn : Bool := false
  redfishEn : Bool := false
  minSev : Nat := 0
  udpPort : Nat := 61213
  /-- Redfish EventService subscriptions (R437). -/
  subs : List Nat := []
  hours : Nat := 0
  deriving DecidableEq, Repr

/-! ## Fabric time (R201 to R211) -/

/-- The time states of R205. -/
inductive TimeState where
  | free | acquiring | locked | holdover | lost
  deriving DecidableEq, Repr

/-- TT_STATUS.TSTATE. -/
def TimeState.code : TimeState → Nat
  | .free => 0 | .acquiring => 1 | .locked => 2 | .holdover => 3 | .lost => 4

/-- Fabric time: NS, FRAC, the servo and its state machine, and the device's own uptime in ns. -/
structure TimeSt where
  ns : Nat := 0
  frac : Nat := 0
  uptime : Nat := 0
  st : TimeState := .free
  /-- Rate correction in 2^-16 ppm (TT_RATE). -/
  rate : Int := 0
  srcPresent : Bool := false
  inRow : Nat := 0
  outRow : Nat := 0
  /-- In HOLDOVER or LOST: milliseconds counted up to the uptime `holdAt`. -/
  holdMs : Nat := 0
  holdAt : Nat := 0
  /-- The current beat (R210) and the next boundary not yet acted on. -/
  beat : Nat := 0
  nextBeat : Nat := 1
  deriving DecidableEq, Repr

/-! ## Timetables and steps (R212 to R229) -/

/-- TTI_STATE.STATE. -/
inductive TtState where
  | empty | loaded | armed | running | halted
  deriving DecidableEq, Repr

def TtState.code : TtState → Nat
  | .empty => 0 | .loaded => 1 | .armed => 2 | .running => 3 | .halted => 4

/-- A group descriptor (R214). -/
structure TtGroup where
  rmask : Nat
  srAddr : Nat
  srMode : Bool
  grace : Bool
  cqAll : Bool
  hinEn : Bool
  ovrGrace : Nat
  cq : Nat
  hinOff : Nat
  hinLen : Nat
  nbuf : Nat
  stride : Nat
  deriving DecidableEq, Repr

/-- A timetable entry (R216). -/
structure TtEntry where
  boff : Nat
  action : Nat
  group : Nat
  arg0 : Nat
  arg1 : Nat
  deriving DecidableEq, Repr

/-- What is shown of the latest step of a group (TTI_GRP). -/
structure GrpSt where
  sst : Nat := 0
  attempt : Nat := 0
  k : Nat := 0
  deriving DecidableEq, Repr

/-- An open or awaited send window (R225): the queue (of the instance), the beat it closes at, its group and step, and
whether it is open. -/
structure SendWin where
  q : Nat
  closeAt : Nat
  group : Nat
  k : Nat
  isOpen : Bool
  deriving DecidableEq, Repr

/-- The timetable of one instance (R212). -/
structure Timetable where
  st : TtState := .empty
  image : List Byte := []
  period : Nat := 0
  groups : List TtGroup := []
  entries : List TtEntry := []
  b0 : Nat := 0
  nsteps : Nat := 0
  stepK : Nat := 0
  stopBeat : Nat := 2 ^ 64 - 1
  /-- S of the last TT_STOP (TTI_STOP_BEAT). -/
  lastStop : Nat := 2 ^ 64 - 1
  haltStatus : Nat := 0
  grp : Tbl Nat GrpSt := []
  wins : List SendWin := []
  /-- How each step of each group ended: (group, k) to its status. -/
  ended : Tbl (Nat × Nat) Nat := []
  /-- TT_UNLOADs that wait for the last running step to end. -/
  unloadWait : List CmdRef := []
  /-- Steps (group, k) whose late input has been raised before they exist (R221). -/
  late : List (Nat × Nat) := []
  deriving DecidableEq, Repr

/-- The states of a step (R220). -/
inductive StepSt where
  | waitInput | running | replaying | grace
  deriving DecidableEq, Repr

/-- A step in progress: of a timetable (group g, index k) or of a JOB_STEP entry (queue, index). -/
structure Step where
  inst : Nat
  gen : Nat
  /-- (queue, entry index) of a job step. -/
  job : Option (Nat × Nat) := none
  group : Nat := 0
  k : Nat := 0
  st : StepSt := .waitInput
  attempt : Nat := 1
  /-- The deadline beat D, and the beat at which grace ends. -/
  deadline : Nat := 0
  graceEnd : Nat := 0
  inGrace : Bool := false
  rmask : Nat := 0
  srAddr : Nat := 0
  srMode : Bool := false
  /-- Held input ranges are in force (R223), and one was written. -/
  hold : Bool := false
  heldLost : Bool := false
  /-- An aperture read was refused (R135). -/
  hostFault : Bool := false
  /-- Attempts ended by a class H fault, the unit last charged and the position it struck. -/
  hFaults : Nat := 0
  hUnit : Nat := 0xFFFFFF
  hPos : Nat := 0
  /-- The record of that fault. -/
  hRec : Option FaultRec := none
  /-- Waits for a move of its position at a boundary (R418). -/
  waitMove : Bool := false
  /-- Waits for its regions to reach PL0 (R443). -/
  waitWake : Bool := false
  /-- Units already counted in the history for this step (R427). -/
  counted : List Nat := []
  deriving DecidableEq, Repr

end Sys2Proof.Machine
end

