-- ==== Sys2Proof/Machine/StHub.lean ====
section
/-! DEFINITION. State of the hub engines: Ethernet ports, the cipher and the Hutch, Fyrrarel Transport and the collective
engine (R232 to R333). -/

namespace Sys2Proof.Machine

/-! ## Ethernet ports (R290 to R313) -/

/-- The states of a logical port (R294). -/
inductive LState where
  | off | disabled | cal | down | up
  deriving DecidableEq, Repr

/-- LP_STATUS.LSTATE. -/
def LState.code : LState → Nat
  | .off => 0 | .disabled => 1 | .cal => 2 | .down => 3 | .up => 4

/-- The pause watchdog of one priority (R308). -/
inductive PwdState where
  | normal | paused | broken
  deriving DecidableEq, Repr

/-- A frame in an egress queue: destination address to the last byte before the FCS; of an FT packet its connection, and its DSN if it is
a packet of a request; whether it has been held (R295). -/
structure TxFrame where
  data : List Byte
  tc : Nat
  ft : Option (Nat × Option Nat) := none
  held : Bool := false
  deriving DecidableEq, Repr

/-- A frame that the Dresser has formed and that waits for room in its egress queue (R310): an acknowledgement or a forwarded frame. -/
structure WaitFrame where
  frame : TxFrame
  inst : Option Nat
  deriving DecidableEq, Repr

/-- An FT frame in the receive buffer: its length and priority, its IPv6 source, CE mark and arrival beat, the FTH, and what
follows it. -/
structure FtRx where
  len : Nat
  tc : Nat
  src : Nat
  ce : Bool
  beat : Nat
  fth : List Byte
  body : List Byte
  deriving DecidableEq, Repr

/-- A meter as it runs (R303): rates in Mb/s, bucket sizes and contents in 1/8000 byte, and the time of the last fill in ns. -/
structure Meter where
  cir : Nat := 0
  pir : Nat := 0
  cbs : Nat := 64
  pbs : Nat := 64
  tc : Nat := 0
  tp : Nat := 0
  at_ : Nat := 0
  deriving DecidableEq, Repr

/-- One logical port. -/
structure LPort where
  st : LState := .off
  eqs : Tbl Nat (List TxFrame) := []
  deficit : Tbl Nat Nat := []
  /-- The egress queue visited last. -/
  last : Nat := 63
  /-- The system queue (R309). -/
  sysq : List TxFrame := []
  /-- Frames of the Dresser that wait for room in their egress queue (R310). -/
  wait : List WaitFrame := []
  pwd : Tbl Nat PwdState := []
  /-- Priorities for which a pause has been sent and not ended (R307). -/
  xoff : List Nat := []
  /-- Transmit stamps: sequenceId, messageType, ns (R313). -/
  stamps : List (Nat × Nat × Nat) := []
  rx : List FtRx := []
  /-- Corrected FEC symbols of the current millisecond (R315). -/
  fecMs : Nat := 0
  deriving DecidableEq, Repr

/-- One physical port: its lanes that calibrate and those that are locked and adapted for the current mode, and its meters. -/
structure EthPort where
  busy : Nat := 0
  lanes : Nat := 0
  meters : Tbl Nat Meter := []
  deriving DecidableEq, Repr

/-! ## The Hutch (R318 to R330) -/

/-- The states of a traffic-key slot (R323). -/
inductive SlotSt where
  | empty | loaded | bound | used
  deriving DecidableEq, Repr

/-- SLOT_STATE.STATE. -/
def SlotSt.code : SlotSt → Nat
  | .empty => 0 | .loaded => 1 | .bound => 2 | .used => 3

/-- One traffic-key slot: its key is 32 bytes, or none. -/
structure Slot where
  st : SlotSt := .empty
  key : List Byte := []
  walg : Nat := 0
  conn : Nat := 0
  deriving DecidableEq, Repr

/-- The key storage: KEKs by instance and traffic keys by absolute slot. -/
structure Hutch where
  keks : Tbl Nat (List Byte) := []
  slots : Tbl Nat Slot := []
  selfDone : Bool := false
  selfFail : Bool := false
  deriving DecidableEq, Repr

/-! ## Fyrrarel Transport (R256 to R287) -/

/-- The states of a connection (R263). -/
inductive ConnSt where
  | free | init | rts | drain | error
  deriving DecidableEq, Repr

/-- FTC_STATE.STATE. -/
def ConnSt.code : ConnSt → Nat
  | .free => 0 | .init => 1 | .rts => 2 | .drain => 3 | .error => 4

/-- The types of a work request (R265). -/
inductive Wrt where
  | send | write | writeImm | read | atomic
  deriving DecidableEq, Repr

/-- A transmission of an encrypted connection so far: the PSN of its F packet, its AAD and its ciphertext (R262). -/
structure TxState where
  psn0 : Nat := 0
  aad : List Byte := []
  ct : List Byte := []
  deriving DecidableEq, Repr

/-- A work request in flight: a send-queue entry that the Dresser has fetched (R265, R287), or a WRITE of the collective engine with its
segment and the byte ranges of it that are poisoned (R246), whose queue is 65,536 plus the connection. -/
structure WReq where
  q : Nat
  idx : Nat
  conn : Nat
  gen : Nat
  wrt : Wrt
  casop : Bool := false
  pad : Nat := 0
  /-- ARMED and not fired (R270): the trigger counter and value. -/
  armed : Option (Nat × Nat) := none
  sig : Bool := false
  len : Nat
  laddr : Nat
  wtag : Nat := 0
  roff : Nat := 0
  opnd : Nat := 0
  /-- MASK_ADDR, or CMPV of an ATOMIC. -/
  aux : Nat := 0
  started : Bool := false
  /-- DSN of its first packet, once started, and how many of its packets have been committed. -/
  dsn : Nat := 0
  sent : Nat := 0
  /-- Failed fragments, those that have drawn NAK_CHECK once, and the response bytes placed of a READ (segment, bytes). -/
  failed : List Nat := []
  naked : List Nat := []
  got : List (Nat × Nat) := []
  /-- An encrypted transmission that is only partly committed. -/
  tx : TxState := {}
  /-- A read of its source was discarded in the fabric and is never answered (R181). -/
  lost : Bool := false
  seg : Option (List Byte × List (Nat × Nat)) := none
  /-- The status it completes with, once known. -/
  done : Option Nat := none
  deriving DecidableEq, Repr

/-- A window table entry (R273), with what the fences of R276 and R277 need. -/
structure Win where
  v : Bool := false
  key : Nat := 0
  inst : Nat := 0
  base : Nat := 0
  len : Nat := 0
  rights : Nat := 0
  expiry : Nat := 2 ^ 64 - 1
  cntEn : Bool := false
  cnt : Nat := 0
  bind : Bool := false
  bconn : Nat := 0
  expired : Bool := false
  revoked : Option CmdRef := none
  /-- The command whose reply is not yet written: until then the window is not usable (R274). -/
  opening : Option CmdRef := none
  deriving DecidableEq, Repr

/-- What the classification of an access says (R275): its window and the copy of the entry that it took, or the SYN that refuses it. -/
inductive Verdict where
  | pass (n : Nat) (w : Win)
  | refuse (syn : Nat)
  deriving DecidableEq, Repr

/-- A received packet that waits: for the gap before it (R279), or for the tag of its transmission (R262). `moff` is the offset of
a READ_RESP within its segment; `body` is what follows the FTH, decrypted once `clear`; `win` is the verdict of its classification
(R275). -/
structure HeldPkt where
  dsn : Nat
  moff : Nat := 0
  psn : Nat
  opc : Nat
  flags : Nat
  pad : Nat
  check : Nat
  fth : List Byte
  body : List Byte
  beat : Nat
  clear : Bool := true
  win : Option Verdict := none
  deriving DecidableEq, Repr

/-- One packet of a READ segment as its responder keeps it: offset, BLK, CHECK and payload. -/
structure RespPkt where
  moff : Nat
  blk : Bool
  check : Nat
  data : List Byte
  deriving DecidableEq, Repr

/-- A response cache entry (R281): its DSN, OLD of an ATOMIC or the packets of a READ segment, and its transmission that goes on. -/
structure RCache where
  dsn : Nat
  atomic : Bool
  old : Nat := 0
  pkts : List RespPkt := []
  tx : TxState := {}
  deriving DecidableEq, Repr

/-- A packet that waits for a slice of its connection, other than the next of a request (R286): packet `k` of the response to `dsn`, or
packet `k` of a request sent again. -/
inductive OutPkt where
  | resp (dsn k : Nat)
  | retx (q idx k : Nat)
  deriving DecidableEq, Repr

/-- The message that the receiver is placing: its opcode and length, the bytes seen, the tag and offset of its F packet, the
receive entry that it consumed (queue, index, address, length), the instance address of its byte 0, its window's counter,
the bytes placed, and whether a block of it was poisoned. -/
structure RxMsg where
  opc : Nat
  mlen : Nat
  off : Nat := 0
  wtag : Nat := 0
  roff : Nat := 0
  entry : Option (Nat × Nat × Nat × Nat) := none
  base : Nat := 0
  cnt : Option Nat := none
  placed : Nat := 0
  bad : Bool := false
  deriving DecidableEq, Repr

/-- One connection. -/
structure Conn where
  st : ConnSt := .free
  inst : Nat := 0
  gen : Nat := 0
  sq : Nat := 0
  rq : Nat := 0
  scq : Nat := 0
  rcq : Nat := 0
  peerDev : Nat := 0
  peerConn : Nat := 0
  ip : Nat := 0
  pmtu : Nat := 1024
  tc : Nat := 0
  dscp : Nat := 0
  enc : Bool := false
  slot : Nat := 0
  txSalt : Nat := 0
  rxSalt : Nat := 0
  rxCnt : Option Nat := none
  pin : Bool := false
  lport : Nat := 0
  errStatus : Nat := 0
  /-- Transmit side: next PSN and DSN, the peer's CDSN and the DSNs of its SACK, those resent since the last NAK_SEQ,
  consecutive timeouts, and the DSN that a NAK_BUSY holds with its count. -/
  txPsn : Nat := 0
  txDsn : Nat := 0
  ackDsn : Nat := 0
  sack : List Nat := []
  resent : List Nat := []
  timeouts : Nat := 0
  rnr : Option (Nat × Nat) := none
  /-- Responses and retransmissions that wait for a slice, in their order. -/
  out : List OutPkt := []
  /-- The rate law (R284). -/
  flow : Flow := { rate := 0, alpha := 0 }
  rlMax : Nat := 0
  rnrWait : Bool := false
  /-- Receive side: the PSNs accepted (highest plus one, and those seen within 256), CDSN, and the expected DSN whose gap has
  been reported by NAK_SEQ. -/
  psnTop : Nat := 0
  psnSeen : List Nat := []
  cdsn : Nat := 0
  held : List HeldPkt := []
  /-- READ_RESP packets of encrypted transmissions that wait for their tag. -/
  rheld : List HeldPkt := []
  gapTold : Option Nat := none
  /-- Packets placed since the last ACK, received since it, and marked since it. -/
  placed : Nat := 0
  npkt : Nat := 0
  nce : Nat := 0
  rcache : List RCache := []
  msg : Option RxMsg := none
  /-- The FT_CONN_CLOSEs that reply when FREE is reached. -/
  closing : List CmdRef := []
  deriving DecidableEq, Repr

/-- The Dresser. -/
structure Dresser where
  conns : Tbl Nat Conn := []
  wins : Tbl Nat Win := []
  reqs : List WReq := []
  /-- Receive entries fetched and not consumed: queue, index, address, length. -/
  recvs : List (Nat × Nat × Nat × Nat) := []
  /-- Contexts in the cache, and those being fetched from hub SRAM (R286). -/
  cache : List Nat := []
  fetching : List Nat := []
  /-- The service order (R286): the instance served last with the slices left of its turn, and the connection each instance
  served last. -/
  turn : Nat := 63
  left : Nat := 0
  lastConn : Tbl Nat Nat := []
  /-- The number of the collective engine's next request. -/
  segNext : Nat := 0
  deriving DecidableEq, Repr

/-! ## Collectives (R232 to R252) -/

/-- A contribution to a tile of a round (R240). -/
structure Contrib where
  pos : Nat
  tile : Nat
  step : Nat
  ser : Nat
  /-- Which of the staged tiles of its tile and round it is (R236). -/
  slot : Nat
  final : Bool
  deriving DecidableEq, Repr

/-- A tile with its poison. -/
structure CTile where
  data : List Byte
  bad : Bool := false
  deriving DecidableEq, Repr

/-- A segment from a peer (R246): KIND 0 DATA, 2 ARRIVE. -/
structure Seg where
  step : Nat
  kind : Nat
  src : Nat
  first : Nat
  tiles : List CTile
  deriving DecidableEq, Repr

/-- One open round. -/
structure CRound where
  contribs : List Contrib := []
  /-- A contribution has come (R241). -/
  begun : Bool := false
  /-- HOST mode: COLL_RUN has been given. -/
  asked : Bool := false
  /-- HOST mode: a read of a source tile was discarded and is never answered (R181). -/
  unread : Bool := false
  closed : Bool := false
  /-- The buffer that the algorithm works on, by tile. -/
  buf : Tbl Nat CTile := []
  inbox : List Seg := []
  /-- Steps of the algorithm done, and whether the send of the next one has gone. -/
  cur : Nat := 0
  sentCur : Bool := false
  /-- ALLTOALL: rows by slot, slots written twice, ranks whose END has arrived. -/
  rows : Tbl Nat CTile := []
  dup : List Nat := []
  ends : List Nat := []
  /-- Result tiles placed, failed, and sent but never answered (R181). -/
  placed : List Nat := []
  failed : List Nat := []
  lost : List Nat := []
  /-- Result tiles that wait for a granule in FLUSHING (R344), with their pieces and flags. -/
  waitTiles : List (Nat × List (Nat × List Byte) × Nat) := []
  /-- The root's group send has gone (R185). -/
  groupSent : Bool := false
  /-- Result tiles whose delivery fails its check twice (R248): the environment's choice. -/
  corrupt : List Nat := []
  /-- Tiles whose sum fails its residue check twice (R415). -/
  badSums : List Nat := []
  flags : Nat := 0
  finished : Bool := false
  deriving DecidableEq, Repr

/-- A context slot. STATE: 0 FREE, 1 OPEN, 2 CLOSING. -/
structure Ctx where
  st : Nat := 0
  inst : Nat := 0
  gen : Nat := 0
  op : Nat := 0
  fmt : Nat := 0
  rop : Nat := 0
  we : Int := 0
  alg : Nat := 0
  flags : Nat := 0
  gctx : Nat := 0
  ndev : Nat := 1
  rank : Nat := 0
  root : Nat := 0
  t : Nat := 0
  s : Nat := 0
  ncont : Nat := 1
  nbufR : Nat := 1
  cq : Nat := 0
  ntile : Nat := 0
  nrtile : Nat := 0
  cgroup : Nat := 0
  timeout : Nat := 0
  rstride : Nat := 0
  rtab : Nat := 0
  stab : Nat := 0
  idx : Nat := 0
  maskAddr : Nat := 0
  mcgrp : Nat := 0
  ptab : List (Nat × Nat) := []
  /-- The staging blocks reserved, in the order of reservation. -/
  blocks : List Nat := []
  rnd : Nat := 0
  runs : Nat := 0
  rounds : Tbl Nat CRound := []
  /-- Rounds that completed after their timeout (R251). -/
  timedOut : List Nat := []
  closing : Option CmdRef := none
  deriving DecidableEq, Repr

end Sys2Proof.Machine
end

