-- ==== Sys2Proof/Machine/Blk.lean ====
section
/-! DEFINITION. The device: all its state but the queue of waiting commands. -/

namespace Sys2Proof.Machine

/-- A block move or host copy in progress (R157 to R161, R348). -/
structure Move where
  inst : Nat
  gen : Nat
  host : Bool
  toHost : Bool := false
  /-- Source and destination: a DPA, or an aperture offset for the host side. -/
  src : Nat
  dst : Nat
  len : Nat
  maskAddr : Nat
  nfrag : Nat
  /-- Fragments still to end, and those that failed. -/
  todo : List Nat
  failed : List Nat := []
  /-- Fragments whose carried check has mismatched once (R159). -/
  retried : List Nat := []
  /-- Fragments of which a packet was discarded: they are never answered (R181). -/
  lost : List Nat := []
  stopped : Bool := false
  job : Option (Nat × Nat) := none
  cmd : Option CmdRef := none
  deriving DecidableEq, Repr

/-- What the device sends out or drives. -/
inductive Out where
  /-- A read of host memory: its tag, PASID (none for the PF), address and length. -/
  | hostRead (tag : Nat) (pasid : Option Nat) (addr len : Nat)
  /-- A posted write to host memory. -/
  | hostWrite (pasid : Option Nat) (addr : Nat) (data : List Byte)
  /-- An MSI-X message of a function's vector. -/
  | msix (fn vec addr data : Nat)
  /-- A stream packet injected into the package fabric. -/
  | pkt (p : StreamPkt)
  /-- A stream packet that a link end sends or sends again; its CRC-32C on the sideband is that of its bytes (R177). -/
  | hop (link : Nat) (p : StreamPkt)
  /-- A basic packet on a package link end; its CRC-32C on the sideband is that of its bytes (R177). -/
  | basic (link : Nat) (p : BasicPkt)
  /-- A request of a link end for a resend of the failed packet. -/
  | resend (link : Nat)
  /-- A frame on a logical Ethernet port, from its destination address to the byte before the FCS. -/
  | frame (lport : Nat) (data : List Byte)
  /-- A frame or message given to Tutoby: logical port, frame, receive stamp. -/
  | toTutoby (lport : Nat) (data : List Byte) (stamp : Nat)
  /-- A read completion to the host: data, and whether it is poisoned or an Unsupported Request. -/
  | hostData (data : List Byte) (poison ur : Bool)
  /-- The value a register read returns. -/
  | regData (v : Nat)
  /-- A Sideboard report on the management port (R436), a Redfish event (R437), an MCTP answer (R477). -/
  | udp (data : List Byte)
  | redfish (messageId severity : String) (data : List Byte)
  /-- The reports that the Sideboard keeps, as a Redfish client retrieves them (R435). -/
  | reports (data : List Byte)
  | mctp (data : List Byte)
  /-- An uncorrectable internal error by AER on the PF (R434); a PM_PME message (R352). -/
  | aer
  | pme (fn : Nat)
  /-- A recall of the host's cached lines of a granule (R344). -/
  | recall (granule : Nat)
  /-- A pulse of TIME_PPS_OUT, its width in µs (R202). -/
  | pps (width : Nat)
  /-- A hub SRAM read of a connection context by the Dresser (R286). -/
  | ctxFetch (conn : Nat)
  deriving DecidableEq, Repr

/-- The device. -/
structure Blk where
  cores : Tbl Nat CoreSt := []
  /-- Tile buffers and accumulators of the physical cores that serve no position, by unit (R92). -/
  parked : Tbl Nat ParkedCore := []
  mem : Mem := {}
  regs : Tbl (Reg × Nat) Word := []
  mbox : Tbl Nat MBox := []
  hmbox : Tbl Nat MBox := []
  replies : List Reply := []
  /-- Commands accepted from each command queue that have not replied (R379): queue and command. -/
  accepted : List CmdRef := []
  /-- Commands that Tutoby has accepted and not yet executed, with their payloads, in order of acceptance. -/
  cmdq : List (CmdRef × List Byte) := []
  /-- The function served last by Tutoby's round robin (R379). -/
  cmdTurn : Nat := 63
  queues : Tbl Nat Queue := []
  fns : Tbl Nat Fn := []
  vecs : Tbl (Nat × Nat) Vec := []
  link : HostLink := {}
  hreads : Tbl Nat HReadRec := []
  hnext : Nat := 0
  owner : Tbl Nat Nat := []
  ins : Tbl Nat Inst := []
  bias : Tbl Nat Nat := []
  place : Tbl Nat Placement := []
  clus : Tbl Nat ClusterSt := []
  rel : RelSt := {}
  time : TimeSt := {}
  tts : Tbl Nat Timetable := []
  steps : Tbl Nat Step := []
  stepNext : Nat := 1
  moves : Tbl Nat Move := []
  moveNext : Nat := 0
  reqs : Tbl (Nat × Nat) ReqRec := []
  links : Tbl Nat LinkEnd := []
  /-- The stream packets inside the package. -/
  flights : List Flight := []
  /-- The round robin of each output and plane: the input granted last (R192). -/
  rr : Tbl Nat Nat := []
  /-- SENDs whose packet a mailbox has accepted, and whose sender has not been told: position and operation. -/
  sendAcc : List (Nat × Nat) := []
  /-- Control messages delivered to the control cores and the hub engines: the destination endpoint and the payload. -/
  ctrlIn : List (Nat × List Byte) := []
  /-- Packets placed so far of the MXMS tiles whose note is due: by destination, source and tile (R114). -/
  placedOf : Tbl (Nat × Nat × Nat) Nat := []
  /-- Stream packets that wait for a region to reach PL0 or for a granule to leave FLUSHING (R344, R443). -/
  waitPkts : List StreamPkt := []
  flows : Tbl (Nat × Nat × Nat) Flow := []
  disc : Disc := {}
  ports : Tbl Nat EthPort := []
  lports : Tbl Nat LPort := []
  hutch : Hutch := {}
  ft : Dresser := {}
  ctxs : Tbl Nat Ctx := []
  /-- HDM_BIAS_SET commands that wait for granules in FLUSHING. -/
  biasWait : List (CmdRef × Bool × List Nat) := []
  power : PowerSt := {}
  boot : BootSt := {}
  emu : EmuSt := {}
  /-- SMB_ALERT_N is asserted (R477). -/
  smbAlert : Bool := false
  out : List Out := []
  /-- The model's own counter of free values drawn (DESIGN CHOICE, log entry 3). -/
  fresh : Nat := 0
  deriving DecidableEq, Repr

end Sys2Proof.Machine
end

