-- ==== Sys2Proof/Machine/RegFields.lean ====
section
/-! DEFINITION. Names for the fields of the hardware registers: register, high bit, low bit. -/

namespace Sys2Proof.Machine

/-- A field of a register: bits [hi:lo]. -/
structure Fld where
  reg : Reg
  hi : Nat
  lo : Nat
  deriving DecidableEq, Repr

namespace F
def GLB_ID_VENDOR : Fld := ⟨.GLB_ID, 15, 0⟩
def GLB_ID_PART : Fld := ⟨.GLB_ID, 31, 16⟩
def GLB_STEPPING_STEPPING : Fld := ⟨.GLB_STEPPING, 7, 0⟩
def GLB_STATUS_STAGE : Fld := ⟨.GLB_STATUS, 3, 0⟩
def GLB_STATUS_READY : Fld := ⟨.GLB_STATUS, 4, 4⟩
def GLB_STATUS_FATAL : Fld := ⟨.GLB_STATUS, 5, 5⟩
def GLB_BOOT_ADDR_ADDR : Fld := ⟨.GLB_BOOT_ADDR, 63, 0⟩
def GLB_BOOT_LEN_LEN : Fld := ⟨.GLB_BOOT_LEN, 23, 0⟩
def GLB_BOOT_CTL_GO : Fld := ⟨.GLB_BOOT_CTL, 0, 0⟩
def GLB_BOOT_STATUS_STATE : Fld := ⟨.GLB_BOOT_STATUS, 2, 0⟩
def GLB_BOOT_STATUS_ERR : Fld := ⟨.GLB_BOOT_STATUS, 15, 8⟩
def GLB_BOOT_STATUS_ATTEMPTS : Fld := ⟨.GLB_BOOT_STATUS, 31, 16⟩
def GLB_FUSE_RB_MIN : Fld := ⟨.GLB_FUSE, 6, 0⟩
def GLB_FUSE_KEY_REVOKED : Fld := ⟨.GLB_FUSE, 11, 8⟩
def GLB_POSRST_POS : Fld := ⟨.GLB_POSRST, 13, 0⟩
def GLB_POSRST_GO : Fld := ⟨.GLB_POSRST, 31, 31⟩
def GLB_EVT_BOOT_FAIL : Fld := ⟨.GLB_EVT, 0, 0⟩
def GLB_EVT_TUTOBY_UP : Fld := ⟨.GLB_EVT, 1, 1⟩
def GLB_EVT_SVC_READY : Fld := ⟨.GLB_EVT, 2, 2⟩
def GLB_EVT_POS_RESET_DONE : Fld := ⟨.GLB_EVT, 3, 3⟩
def GLB_EVT_EN_BOOT_FAIL : Fld := ⟨.GLB_EVT_EN, 0, 0⟩
def GLB_EVT_EN_TUTOBY_UP : Fld := ⟨.GLB_EVT_EN, 1, 1⟩
def GLB_EVT_EN_SVC_READY : Fld := ⟨.GLB_EVT_EN, 2, 2⟩
def GLB_EVT_EN_POS_RESET_DONE : Fld := ⟨.GLB_EVT_EN, 3, 3⟩
def PWR_CTL_MAX_PL : Fld := ⟨.PWR_CTL, 2, 0⟩
def PWR_CTL_CAP_EN : Fld := ⟨.PWR_CTL, 3, 3⟩
def PWR_CTL_PORT_PWR : Fld := ⟨.PWR_CTL, 15, 8⟩
def PWR_STATUS_DEV_LEVEL : Fld := ⟨.PWR_STATUS, 2, 0⟩
def PWR_PD_ON0_ON : Fld := ⟨.PWR_PD_ON0, 63, 0⟩
def PWR_PD_ON1_ON : Fld := ⟨.PWR_PD_ON1, 15, 0⟩
def PWR_CAP_CAP_W : Fld := ⟨.PWR_CAP, 11, 0⟩
def PWR_THERM_THROT_C : Fld := ⟨.PWR_THERM, 7, 0⟩
def PWR_IN_VIN : Fld := ⟨.PWR_IN, 15, 0⟩
def PWR_IN_IIN : Fld := ⟨.PWR_IN, 31, 16⟩
def PWR_PAVG_P_AVG : Fld := ⟨.PWR_PAVG, 15, 0⟩
def PWR_PEAK_PEAK : Fld := ⟨.PWR_PEAK, 15, 0⟩
def PWR_HUB_TEMP_TEMP : Fld := ⟨.PWR_HUB_TEMP, 31, 0⟩
def PWR_CAPLIM_CAP : Fld := ⟨.PWR_CAPLIM, 10, 0⟩
def PWR_EVT_THROTTLE : Fld := ⟨.PWR_EVT, 0, 0⟩
def PWR_EVT_CAP_HIT : Fld := ⟨.PWR_EVT, 1, 1⟩
def PWR_EVT_THERM_HOT : Fld := ⟨.PWR_EVT, 2, 2⟩
def PWR_EVT_THERM_TRIP : Fld := ⟨.PWR_EVT, 3, 3⟩
def PWR_EVT_VIN_RANGE : Fld := ⟨.PWR_EVT, 4, 4⟩
def PWR_EVT_EN_THROTTLE : Fld := ⟨.PWR_EVT_EN, 0, 0⟩
def PWR_EVT_EN_CAP_HIT : Fld := ⟨.PWR_EVT_EN, 1, 1⟩
def PWR_EVT_EN_THERM_HOT : Fld := ⟨.PWR_EVT_EN, 2, 2⟩
def PWR_EVT_EN_THERM_TRIP : Fld := ⟨.PWR_EVT_EN, 3, 3⟩
def PWR_EVT_EN_VIN_RANGE : Fld := ⟨.PWR_EVT_EN, 4, 4⟩
def THROTTLE_CNT_COUNT : Fld := ⟨.THROTTLE_CNT, 31, 0⟩
def FREQ_TGT_MHZ : Fld := ⟨.FREQ_TGT, 10, 0⟩
def FREQ_NOW_MHZ : Fld := ⟨.FREQ_NOW, 10, 0⟩
def FREQ_NOW_CAP : Fld := ⟨.FREQ_NOW, 26, 16⟩
def REG_PWR_LEVEL : Fld := ⟨.REG_PWR, 2, 0⟩
def REG_PWR_TEMP : Fld := ⟨.REG_PWR, 15, 8⟩
def CLK_REF_PCIE_OK : Fld := ⟨.CLK_REF, 0, 0⟩
def CLK_REF_ETH_OK : Fld := ⟨.CLK_REF, 1, 1⟩
def CLK_REF_T10M_OK : Fld := ⟨.CLK_REF, 2, 2⟩
def CLK_REF_XTAL_OK : Fld := ⟨.CLK_REF, 3, 3⟩
def CLK_REF_ETH_INT : Fld := ⟨.CLK_REF, 4, 4⟩
def CLK_ETH_PPM_PPM : Fld := ⟨.CLK_ETH_PPM, 15, 0⟩
def CLK_LOCK_LOCK : Fld := ⟨.CLK_LOCK, 31, 0⟩
def CLK_EVT_REF_LOST : Fld := ⟨.CLK_EVT, 0, 0⟩
def CLK_EVT_REF_RESTORED : Fld := ⟨.CLK_EVT, 1, 1⟩
def CLK_EVT_PLL_UNLOCK : Fld := ⟨.CLK_EVT, 2, 2⟩
def CLK_EVT_EN_REF_LOST : Fld := ⟨.CLK_EVT_EN, 0, 0⟩
def CLK_EVT_EN_REF_RESTORED : Fld := ⟨.CLK_EVT_EN, 1, 1⟩
def CLK_EVT_EN_PLL_UNLOCK : Fld := ⟨.CLK_EVT_EN, 2, 2⟩
def PLL_UNLOCK_CNT_COUNT : Fld := ⟨.PLL_UNLOCK_CNT, 31, 0⟩
def MSIX_ADDR_ADDR : Fld := ⟨.MSIX_ADDR, 63, 0⟩
def MSIX_DATA_DATA : Fld := ⟨.MSIX_DATA, 31, 0⟩
def MSIX_CTL_MASK : Fld := ⟨.MSIX_CTL, 0, 0⟩
def PBA_PENDING : Fld := ⟨.PBA, 63, 0⟩
def IRQ_CAUSE_CAUSE : Fld := ⟨.IRQ_CAUSE, 12, 0⟩
def IRQ_CAUSE_EN_CAUSE : Fld := ⟨.IRQ_CAUSE_EN, 12, 0⟩
def IRQ_CAUSE_VEC_VEC : Fld := ⟨.IRQ_CAUSE_VEC, 10, 0⟩
def HL_STATUS_SPEED : Fld := ⟨.HL_STATUS, 2, 0⟩
def HL_STATUS_WIDTH : Fld := ⟨.HL_STATUS, 7, 3⟩
def HL_STATUS_CXL : Fld := ⟨.HL_STATUS, 8, 8⟩
def HL_STATUS_LPS : Fld := ⟨.HL_STATUS, 10, 9⟩
def HL_STATUS_DSTATE : Fld := ⟨.HL_STATUS, 12, 11⟩
def HL_LTR_LTR : Fld := ⟨.HL_LTR, 31, 0⟩
def HL_EVT_HL_DOWNTRAIN : Fld := ⟨.HL_EVT, 0, 0⟩
def HL_EVT_HL_RETRAIN : Fld := ⟨.HL_EVT, 1, 1⟩
def HL_EVT_HDM_BIAS_VIOL : Fld := ⟨.HL_EVT, 2, 2⟩
def HL_EVT_PEER_REFUSED : Fld := ⟨.HL_EVT, 3, 3⟩
def HL_EVT_EMU_WRITE_LOST : Fld := ⟨.HL_EVT, 4, 4⟩
def HL_EVT_EN_HL_DOWNTRAIN : Fld := ⟨.HL_EVT_EN, 0, 0⟩
def HL_EVT_EN_HL_RETRAIN : Fld := ⟨.HL_EVT_EN, 1, 1⟩
def HL_EVT_EN_HDM_BIAS_VIOL : Fld := ⟨.HL_EVT_EN, 2, 2⟩
def HL_EVT_EN_PEER_REFUSED : Fld := ⟨.HL_EVT_EN, 3, 3⟩
def HL_EVT_EN_EMU_WRITE_LOST : Fld := ⟨.HL_EVT_EN, 4, 4⟩
def HDM_VIOL_CNT_COUNT : Fld := ⟨.HDM_VIOL_CNT, 31, 0⟩
def PEER_REFUSED_CNT_COUNT : Fld := ⟨.PEER_REFUSED_CNT, 31, 0⟩
def HDM_VIOL_ADDR_OFFSET : Fld := ⟨.HDM_VIOL_ADDR, 34, 0⟩
def BIAS_BUSY_FLUSHING : Fld := ⟨.BIAS_BUSY, 19, 0⟩
def PEER_ALLOW_RID : Fld := ⟨.PEER_ALLOW, 15, 0⟩
def PEER_ALLOW_V : Fld := ⟨.PEER_ALLOW, 16, 16⟩
def HCE_STATUS_ACTIVE : Fld := ⟨.HCE_STATUS, 6, 0⟩
def HCE_RD_BYTES_COUNT : Fld := ⟨.HCE_RD_BYTES, 63, 0⟩
def HCE_WR_BYTES_COUNT : Fld := ⟨.HCE_WR_BYTES, 63, 0⟩
def MOD_CFG_CNT_THR : Fld := ⟨.MOD_CFG, 7, 0⟩
def MOD_CFG_TIMER_US : Fld := ⟨.MOD_CFG, 17, 8⟩
def MOD_STATUS_CNT : Fld := ⟨.MOD_STATUS, 7, 0⟩
def MOD_STATUS_TIMER_RUN : Fld := ⟨.MOD_STATUS, 8, 8⟩
def BIAS_SHARED : Fld := ⟨.BIAS, 31, 0⟩
def QUE_PF_BASE : Fld := ⟨.QUE_PF, 13, 0⟩
def QUE_PF_COUNT : Fld := ⟨.QUE_PF, 27, 16⟩
def QUE_STATUS_FREE : Fld := ⟨.QUE_STATUS, 14, 0⟩
def QUE_EVT_QUEUE_ERROR : Fld := ⟨.QUE_EVT, 0, 0⟩
def QUE_EVT_CQ_FULL : Fld := ⟨.QUE_EVT, 1, 1⟩
def QUE_EVT_CQ_DROPPED : Fld := ⟨.QUE_EVT, 2, 2⟩
def QUE_EVT_STALE_CPL : Fld := ⟨.QUE_EVT, 3, 3⟩
def QUE_EVT_CFG_BAD : Fld := ⟨.QUE_EVT, 4, 4⟩
def QUE_EVT_EN_QUEUE_ERROR : Fld := ⟨.QUE_EVT_EN, 0, 0⟩
def QUE_EVT_EN_CQ_FULL : Fld := ⟨.QUE_EVT_EN, 1, 1⟩
def QUE_EVT_EN_CQ_DROPPED : Fld := ⟨.QUE_EVT_EN, 2, 2⟩
def QUE_EVT_EN_STALE_CPL : Fld := ⟨.QUE_EVT_EN, 3, 3⟩
def QUE_EVT_EN_CFG_BAD : Fld := ⟨.QUE_EVT_EN, 4, 4⟩
def STALE_CPL_CNT_COUNT : Fld := ⟨.STALE_CPL_CNT, 31, 0⟩
def CQ_DROP_CNT_COUNT : Fld := ⟨.CQ_DROP_CNT, 31, 0⟩
def DB_IGNORED_CNT_COUNT : Fld := ⟨.DB_IGNORED_CNT, 31, 0⟩
def QUE_ERRQ_QUEUE : Fld := ⟨.QUE_ERRQ, 13, 0⟩
def QUE_ERRQ_VALID : Fld := ⟨.QUE_ERRQ, 31, 31⟩
def QUEI_BASE : Fld := ⟨.QUEI, 13, 0⟩
def QUEI_COUNT : Fld := ⟨.QUEI, 26, 16⟩
def DOORBELL_SLOT_ANY : Fld := ⟨.DOORBELL_SLOT, 63, 0⟩
def QBASE_BASE : Fld := ⟨.QBASE, 63, 0⟩
def QHEAD_ADDR_ADDR : Fld := ⟨.QHEAD_ADDR, 63, 0⟩
def QCFG_LOG2SZ : Fld := ⟨.QCFG, 4, 0⟩
def QCFG_TYPE : Fld := ⟨.QCFG, 7, 5⟩
def QCFG_CQ : Fld := ⟨.QCFG, 17, 8⟩
def QCFG_VEC : Fld := ⟨.QCFG, 28, 18⟩
def QCFG_IRQ_EN : Fld := ⟨.QCFG, 29, 29⟩
def QCTL_EN : Fld := ⟨.QCTL, 0, 0⟩
def QCTL_CLR_ERR : Fld := ⟨.QCTL, 1, 1⟩
def QSTATE_STATE : Fld := ⟨.QSTATE, 1, 0⟩
def QSTATE_DB_PEND : Fld := ⟨.QSTATE, 2, 2⟩
def QSTATE_FULL : Fld := ⟨.QSTATE, 3, 3⟩
def QSTATE_ERR_STATUS : Fld := ⟨.QSTATE, 31, 16⟩
def QERR_INDEX_INDEX : Fld := ⟨.QERR_INDEX, 15, 0⟩
def QERR_INDEX_VALID : Fld := ⟨.QERR_INDEX, 31, 31⟩
def QSCAN_SCAN : Fld := ⟨.QSCAN, 15, 0⟩
def QSCAN_L : Fld := ⟨.QSCAN, 16, 16⟩
def QHEAD_HEAD : Fld := ⟨.QHEAD, 15, 0⟩
def QHEAD_LAP : Fld := ⟨.QHEAD, 16, 16⟩
def CQ_CONS_CONS : Fld := ⟨.CQ_CONS, 16, 0⟩
def QDONE_COUNT : Fld := ⟨.QDONE, 31, 0⟩
def FAB_CTRL_STREAM_EN : Fld := ⟨.FAB_CTRL, 0, 0⟩
def FAB_CTRL_MARK_EN : Fld := ⟨.FAB_CTRL, 1, 1⟩
def FAB_CTRL_RL_EN : Fld := ⟨.FAB_CTRL, 2, 2⟩
def FAB_CTRL_FWD_EN : Fld := ⟨.FAB_CTRL, 3, 3⟩
def FAB_CTRL_CTRL_INST : Fld := ⟨.FAB_CTRL, 9, 4⟩
def FAB_CTRL_CTRL_INST_V : Fld := ⟨.FAB_CTRL, 10, 10⟩
def FAB_STATUS_READY : Fld := ⟨.FAB_STATUS, 0, 0⟩
def FAB_STATUS_DISC_BUSY : Fld := ⟨.FAB_STATUS, 1, 1⟩
def FAB_STATUS_BASIC_LINKS : Fld := ⟨.FAB_STATUS, 15, 8⟩
def FAB_STATUS_DOWN_LINKS : Fld := ⟨.FAB_STATUS, 23, 16⟩
def DEV_ID_DEVNUM : Fld := ⟨.DEV_ID, 11, 0⟩
def DEV_ID_VALID : Fld := ⟨.DEV_ID, 12, 12⟩
def DEV_ID_ORIGIN : Fld := ⟨.DEV_ID, 14, 13⟩
def FAB_UID_UID : Fld := ⟨.FAB_UID, 63, 0⟩
def REGION_OK_OK : Fld := ⟨.REGION_OK, 63, 0⟩
def MARK_THR_VC0_THR : Fld := ⟨.MARK_THR, 4, 0⟩
def MARK_THR_VC2_THR : Fld := ⟨.MARK_THR, 12, 8⟩
def RL_CFG_RL_PERIOD : Fld := ⟨.RL_CFG, 15, 0⟩
def RL_CFG_RL_G : Fld := ⟨.RL_CFG, 19, 16⟩
def RL_CFG_RL_AI : Fld := ⟨.RL_CFG, 27, 20⟩
def RL_MIN_RL_MIN : Fld := ⟨.RL_MIN, 7, 0⟩
def AGE_NOW_AGE_NOW : Fld := ⟨.AGE_NOW, 13, 0⟩
def FAB_EVT_FABRIC_LINK_RETRY : Fld := ⟨.FAB_EVT, 0, 0⟩
def FAB_EVT_FABRIC_LINK_FAILED : Fld := ⟨.FAB_EVT, 1, 1⟩
def FAB_EVT_FABRIC_DROP_INST : Fld := ⟨.FAB_EVT, 2, 2⟩
def FAB_EVT_FABRIC_DROP_ROUTE : Fld := ⟨.FAB_EVT, 3, 3⟩
def FAB_EVT_DISC_DONE : Fld := ⟨.FAB_EVT, 4, 4⟩
def FAB_EVT_DISC_CONFLICT : Fld := ⟨.FAB_EVT, 5, 5⟩
def FAB_EVT_DISC_OVERFLOW : Fld := ⟨.FAB_EVT, 6, 6⟩
def FAB_EVT_DISC_NEWLINK : Fld := ⟨.FAB_EVT, 7, 7⟩
def FAB_EVT_FWD_DROP : Fld := ⟨.FAB_EVT, 8, 8⟩
def FAB_EVT_EN_EN : Fld := ⟨.FAB_EVT_EN, 8, 0⟩
def DROP_INST_CNT_COUNT : Fld := ⟨.DROP_INST_CNT, 31, 0⟩
def DROP_ROUTE_CNT_COUNT : Fld := ⟨.DROP_ROUTE_CNT, 31, 0⟩
def DISC_CTRL_START : Fld := ⟨.DISC_CTRL, 0, 0⟩
def DISC_CTRL_QUIET : Fld := ⟨.DISC_CTRL, 31, 16⟩
def FWD_DROP_CNT_COUNT : Fld := ⟨.FWD_DROP_CNT, 31, 0⟩
def TELEM_CFG_QSAMPLE_NS : Fld := ⟨.TELEM_CFG, 15, 0⟩
def DEVRT_LPORT : Fld := ⟨.DEVRT, 5, 0⟩
def DEVRT_V : Fld := ⟨.DEVRT, 6, 6⟩
def DEVRT_HOPS : Fld := ⟨.DEVRT, 15, 8⟩
def DEVRT_CTRL_CONN : Fld := ⟨.DEVRT, 31, 16⟩
def NBR_UID_UID : Fld := ⟨.NBR_UID, 63, 0⟩
def NBR_INFO_DEVNUM : Fld := ⟨.NBR_INFO, 11, 0⟩
def NBR_INFO_DEVNUM_VALID : Fld := ⟨.NBR_INFO, 12, 12⟩
def NBR_INFO_PRESENT : Fld := ⟨.NBR_INFO, 13, 13⟩
def NBR_INFO_REMOTE_LPORT : Fld := ⟨.NBR_INFO, 19, 14⟩
def MCG_MASK : Fld := ⟨.MCG, 31, 0⟩
def HPKT_VC_COUNT : Fld := ⟨.HPKT_VC, 63, 0⟩
def HBYTE_VC_COUNT : Fld := ⟨.HBYTE_VC, 63, 0⟩
def HSTALL_COUNT : Fld := ⟨.HSTALL, 63, 0⟩
def HQDEPTH_DEPTH : Fld := ⟨.HQDEPTH, 31, 0⟩
def HQPEAK_PEAK : Fld := ⟨.HQPEAK, 31, 0⟩
def HLINKERR_CRC_ERR : Fld := ⟨.HLINKERR, 15, 0⟩
def HLINKERR_RETRY : Fld := ⟨.HLINKERR, 31, 16⟩
def HMARKS_COUNT : Fld := ⟨.HMARKS, 31, 0⟩
def HPORT_STATE_STATE : Fld := ⟨.HPORT_STATE, 1, 0⟩
def HPORT_STATE_PRESENT : Fld := ⟨.HPORT_STATE, 2, 2⟩
def PKT_VC_COUNT : Fld := ⟨.PKT_VC, 63, 0⟩
def BYTE_VC_COUNT : Fld := ⟨.BYTE_VC, 63, 0⟩
def STALL_COUNT : Fld := ⟨.STALL, 63, 0⟩
def QDEPTH_DEPTH : Fld := ⟨.QDEPTH, 31, 0⟩
def QPEAK_PEAK : Fld := ⟨.QPEAK, 31, 0⟩
def LINKERR_CRC_ERR : Fld := ⟨.LINKERR, 15, 0⟩
def LINKERR_RETRY : Fld := ⟨.LINKERR, 31, 16⟩
def MARKS_COUNT : Fld := ⟨.MARKS, 31, 0⟩
def PORT_STATE_STATE : Fld := ⟨.PORT_STATE, 1, 0⟩
def PORT_STATE_PRESENT : Fld := ⟨.PORT_STATE, 2, 2⟩
def TT_TIME_NS : Fld := ⟨.TT_TIME, 63, 0⟩
def TT_TIME_FRAC_FRAC : Fld := ⟨.TT_TIME_FRAC, 15, 0⟩
def TT_SET_NS : Fld := ⟨.TT_SET, 63, 0⟩
def TT_SRC_CFG_SRC : Fld := ⟨.TT_SRC_CFG, 1, 0⟩
def TT_SRC_CFG_USE_10M : Fld := ⟨.TT_SRC_CFG, 2, 2⟩
def TT_SRC_CFG_PTP_LPORT : Fld := ⟨.TT_SRC_CFG, 8, 3⟩
def TT_SRC_CFG_PTP_TX_EN : Fld := ⟨.TT_SRC_CFG, 9, 9⟩
def TT_SRC_CFG_DOMAIN : Fld := ⟨.TT_SRC_CFG, 17, 10⟩
def TT_SERVO_STEP_THR : Fld := ⟨.TT_SERVO, 15, 0⟩
def TT_SERVO_LOCK_THR : Fld := ⟨.TT_SERVO, 31, 16⟩
def TT_SLEW_SLEW_PPM : Fld := ⟨.TT_SLEW, 9, 0⟩
def TT_OFFSET_OFFSET : Fld := ⟨.TT_OFFSET, 31, 0⟩
def TT_RATE_RATE : Fld := ⟨.TT_RATE, 31, 0⟩
def TT_STATUS_TSTATE : Fld := ⟨.TT_STATUS, 2, 0⟩
def TT_STATUS_SRC_PRESENT : Fld := ⟨.TT_STATUS, 3, 3⟩
def TT_STATUS_HOLD_MS : Fld := ⟨.TT_STATUS, 31, 16⟩
def TT_PPS_CFG_OUT_EN : Fld := ⟨.TT_PPS_CFG, 0, 0⟩
def TT_PPS_CFG_OUT_WIDTH : Fld := ⟨.TT_PPS_CFG, 15, 8⟩
def TT_PPS_CFG_IN_DELAY : Fld := ⟨.TT_PPS_CFG, 31, 16⟩
def TT_BEAT_CFG_BEAT_Q : Fld := ⟨.TT_BEAT_CFG, 17, 0⟩
def TT_BEAT_EPOCH_EPOCH : Fld := ⟨.TT_BEAT_EPOCH, 63, 0⟩
def TT_BEAT_BEAT : Fld := ⟨.TT_BEAT, 63, 0⟩
def TT_EVT_TIME_LOCKED : Fld := ⟨.TT_EVT, 0, 0⟩
def TT_EVT_TIME_UNLOCK : Fld := ⟨.TT_EVT, 1, 1⟩
def TT_EVT_TIME_HOLDOVER : Fld := ⟨.TT_EVT, 2, 2⟩
def TT_EVT_TIME_LOST : Fld := ⟨.TT_EVT, 3, 3⟩
def TT_EVT_TIME_JUMP : Fld := ⟨.TT_EVT, 4, 4⟩
def TT_EVT_TIME_SET_REFUSED : Fld := ⟨.TT_EVT, 5, 5⟩
def TT_EVT_BEAT_CFG_BAD : Fld := ⟨.TT_EVT, 6, 6⟩
def TT_EVT_STEP_OVERRUN : Fld := ⟨.TT_EVT, 7, 7⟩
def TT_EVT_INPUT_LATE : Fld := ⟨.TT_EVT, 8, 8⟩
def TT_EVT_STEP_SKIPPED : Fld := ⟨.TT_EVT, 9, 9⟩
def TT_EVT_HELD_WRITE : Fld := ⟨.TT_EVT, 10, 10⟩
def TT_EVT_TEST_SLOT_SKIPPED : Fld := ⟨.TT_EVT, 11, 11⟩
def TT_EVT_TT_HALTED : Fld := ⟨.TT_EVT, 12, 12⟩
def TT_EVT_EN_EN : Fld := ⟨.TT_EVT_EN, 12, 0⟩
def TIME_JUMP_CNT_COUNT : Fld := ⟨.TIME_JUMP_CNT, 31, 0⟩
def TTI_STATE_STATE : Fld := ⟨.TTI_STATE, 2, 0⟩
def TTI_STATE_NGROUP : Fld := ⟨.TTI_STATE, 12, 8⟩
def TTI_STATE_HALT_STATUS : Fld := ⟨.TTI_STATE, 31, 16⟩
def TTI_B0_B0 : Fld := ⟨.TTI_B0, 63, 0⟩
def TTI_PERIOD_PERIOD : Fld := ⟨.TTI_PERIOD, 15, 0⟩
def TTI_PERIOD_NENTRY : Fld := ⟨.TTI_PERIOD, 28, 16⟩
def TTI_NSTEPS_NSTEPS : Fld := ⟨.TTI_NSTEPS, 63, 0⟩
def TTI_STEP_STEP : Fld := ⟨.TTI_STEP, 63, 0⟩
def TTI_SLACK_SLACK : Fld := ⟨.TTI_SLACK, 31, 0⟩
def TTI_STOP_BEAT_STOP : Fld := ⟨.TTI_STOP_BEAT, 63, 0⟩
def TTI_CNT_COUNT : Fld := ⟨.TTI_CNT, 31, 0⟩
def TTI_GRP_SSTATE : Fld := ⟨.TTI_GRP, 2, 0⟩
def TTI_GRP_ATTEMPT : Fld := ⟨.TTI_GRP, 5, 3⟩
def TTI_GRP_K : Fld := ⟨.TTI_GRP, 63, 16⟩
def FT_CTRL_EN : Fld := ⟨.FT_CTRL, 0, 0⟩
def FT_CTRL_RL_EN : Fld := ⟨.FT_CTRL, 1, 1⟩
def FT_CTRL_ECN_EN : Fld := ⟨.FT_CTRL, 2, 2⟩
def FT_UDP_UDP_PORT : Fld := ⟨.FT_UDP, 15, 0⟩
def FT_UDP_HOP_LIMIT : Fld := ⟨.FT_UDP, 23, 16⟩
def FT_RL_CFG_RL_PERIOD : Fld := ⟨.FT_RL_CFG, 15, 0⟩
def FT_RL_CFG_RL_G : Fld := ⟨.FT_RL_CFG, 19, 16⟩
def FT_RL_CFG_RL_AI : Fld := ⟨.FT_RL_CFG, 27, 20⟩
def FT_RL_MIN_RL_MIN : Fld := ⟨.FT_RL_MIN, 7, 0⟩
def FT_ACK_CFG_ACK_COAL : Fld := ⟨.FT_ACK_CFG, 7, 0⟩
def FT_ACK_CFG_ACK_DELAY : Fld := ⟨.FT_ACK_CFG, 31, 16⟩
def FT_RTO_CFG_RTO_BASE : Fld := ⟨.FT_RTO_CFG, 15, 0⟩
def FT_RTO_CFG_RTO_MAX : Fld := ⟨.FT_RTO_CFG, 31, 16⟩
def FT_RETRY_CFG_RETRY_LIM : Fld := ⟨.FT_RETRY_CFG, 3, 0⟩
def FT_RETRY_CFG_RNR_LIM : Fld := ⟨.FT_RETRY_CFG, 7, 4⟩
def FT_RETRY_CFG_RNR_DELAY : Fld := ⟨.FT_RETRY_CFG, 31, 16⟩
def FT_CFG_DRAIN_MS : Fld := ⟨.FT_CFG, 15, 0⟩
def FT_CFG_PIN_MAX : Fld := ⟨.FT_CFG, 29, 16⟩
def FT_STATUS_WR_INFLIGHT : Fld := ⟨.FT_STATUS, 17, 0⟩
def FT_STATUS_PINNED : Fld := ⟨.FT_STATUS, 31, 18⟩
def FT_WIN_USED_USED : Fld := ⟨.FT_WIN_USED, 20, 0⟩
def FT_HDR_CNT_COUNT : Fld := ⟨.FT_HDR_CNT, 63, 0⟩
def FT_CACHE_MISS_CNT_COUNT : Fld := ⟨.FT_CACHE_MISS_CNT, 63, 0⟩
def FT_EVT_FT_CONN_ERROR : Fld := ⟨.FT_EVT, 0, 0⟩
def FT_EVT_FT_WIN_REFUSED : Fld := ⟨.FT_EVT, 1, 1⟩
def FT_EVT_FT_DROP : Fld := ⟨.FT_EVT, 2, 2⟩
def FT_EVT_FT_REORDER_FULL : Fld := ⟨.FT_EVT, 3, 3⟩
def FT_EVT_EN_EN : Fld := ⟨.FT_EVT_EN, 3, 0⟩
def FT_DROP_HDR_CNT_COUNT : Fld := ⟨.FT_DROP_HDR_CNT, 31, 0⟩
def FT_DROP_CONN_CNT_COUNT : Fld := ⟨.FT_DROP_CONN_CNT, 31, 0⟩
def FT_DROP_SEQ_CNT_COUNT : Fld := ⟨.FT_DROP_SEQ_CNT, 31, 0⟩
def FT_CRC_ERR_CNT_COUNT : Fld := ⟨.FT_CRC_ERR_CNT, 31, 0⟩
def FT_DUP_CNT_COUNT : Fld := ⟨.FT_DUP_CNT, 31, 0⟩
def FT_RETX_CNT_COUNT : Fld := ⟨.FT_RETX_CNT, 31, 0⟩
def FT_TIMEOUT_CNT_COUNT : Fld := ⟨.FT_TIMEOUT_CNT, 31, 0⟩
def FT_WIN_REFUSED_CNT_COUNT : Fld := ⟨.FT_WIN_REFUSED_CNT, 31, 0⟩
def FT_WIN_EXPIRED_CNT_COUNT : Fld := ⟨.FT_WIN_EXPIRED_CNT, 31, 0⟩
def FT_CANCEL_LATE_CNT_COUNT : Fld := ⟨.FT_CANCEL_LATE_CNT, 31, 0⟩
def FT_REORDER_DROP_CNT_COUNT : Fld := ⟨.FT_REORDER_DROP_CNT, 31, 0⟩
def FT_RCNT_COUNT : Fld := ⟨.FT_RCNT, 31, 0⟩
def FTI_CFG_WEIGHT : Fld := ⟨.FTI_CFG, 7, 0⟩
def FTI_RCNT_BASE : Fld := ⟨.FTI_RCNT, 13, 0⟩
def FTI_RCNT_COUNT : Fld := ⟨.FTI_RCNT, 30, 16⟩
def FTI_INFLIGHT_WR : Fld := ⟨.FTI_INFLIGHT, 17, 0⟩
def FTI_WIN_USED : Fld := ⟨.FTI_WIN, 20, 0⟩
def FTC_STATE_STATE : Fld := ⟨.FTC_STATE, 2, 0⟩
def FTC_STATE_INST : Fld := ⟨.FTC_STATE, 8, 3⟩
def FTC_STATE_ENC : Fld := ⟨.FTC_STATE, 9, 9⟩
def FTC_STATE_LPORT : Fld := ⟨.FTC_STATE, 15, 10⟩
def FTC_STATE_ERR_STATUS : Fld := ⟨.FTC_STATE, 31, 16⟩
def FTC_PEER_PEER_DEV : Fld := ⟨.FTC_PEER, 11, 0⟩
def FTC_PEER_PEER_CONN : Fld := ⟨.FTC_PEER, 31, 16⟩
def FTC_RATE_R : Fld := ⟨.FTC_RATE, 15, 0⟩
def FTC_RATE_ALPHA : Fld := ⟨.FTC_RATE, 31, 16⟩
def FTC_TX_DSN_DSN : Fld := ⟨.FTC_TX_DSN, 31, 0⟩
def FTC_RX_CDSN_CDSN : Fld := ⟨.FTC_RX_CDSN, 31, 0⟩
def FTC_OUT_PKTS : Fld := ⟨.FTC_OUT, 8, 0⟩
def FTC_OUT_RCACHE : Fld := ⟨.FTC_OUT, 22, 16⟩
def FTC_RETX_COUNT : Fld := ⟨.FTC_RETX, 31, 0⟩
def PORT_CFG_BRK : Fld := ⟨.PORT_CFG, 1, 0⟩
def PORT_CFG_LRATE : Fld := ⟨.PORT_CFG, 2, 2⟩
def PORT_STATUS_LANE_LOCK : Fld := ⟨.PORT_STATUS, 7, 0⟩
def PORT_STATUS_CAL_BUSY : Fld := ⟨.PORT_STATUS, 8, 8⟩
def PORT_OVH_OVERHEAD : Fld := ⟨.PORT_OVH, 5, 0⟩
def PORT_HOLD_HOLD_MS : Fld := ⟨.PORT_HOLD, 7, 0⟩
def PORT_PWD_PWD_LIMIT : Fld := ⟨.PORT_PWD, 15, 0⟩
def PORT_PWD_PWD_ACT : Fld := ⟨.PORT_PWD, 16, 16⟩
def PORT_PWD_PWD_RECOVER : Fld := ⟨.PORT_PWD, 31, 24⟩
def PORT_FEC_THR_THR : Fld := ⟨.PORT_FEC_THR, 23, 0⟩
def PTP_LAT_TX_LAT : Fld := ⟨.PTP_LAT, 15, 0⟩
def PTP_LAT_RX_LAT : Fld := ⟨.PTP_LAT, 31, 16⟩
def PORT_EVT_MODE_REFUSED : Fld := ⟨.PORT_EVT, 0, 0⟩
def PORT_EVT_CAL_DONE : Fld := ⟨.PORT_EVT, 1, 1⟩
def PORT_EVT_EN_EN : Fld := ⟨.PORT_EVT_EN, 1, 0⟩
def LP_CFG_LP_EN : Fld := ⟨.LP_CFG, 0, 0⟩
def LP_CFG_PROMISC : Fld := ⟨.LP_CFG, 1, 1⟩
def LP_CFG_BCAST_EN : Fld := ⟨.LP_CFG, 2, 2⟩
def LP_CFG_FCM : Fld := ⟨.LP_CFG, 4, 3⟩
def LP_CFG_PCP_EN : Fld := ⟨.LP_CFG, 5, 5⟩
def LP_CFG_DEF_TC : Fld := ⟨.LP_CFG, 8, 6⟩
def LP_MAXFR_MAX_FRAME : Fld := ⟨.LP_MAXFR, 13, 0⟩
def LP_STATUS_LSTATE : Fld := ⟨.LP_STATUS, 2, 0⟩
def LP_STATUS_PAUSED : Fld := ⟨.LP_STATUS, 15, 8⟩
def LP_STATUS_BROKEN : Fld := ⟨.LP_STATUS, 23, 16⟩
def LP_THR_XOFF : Fld := ⟨.LP_THR, 15, 0⟩
def LP_THR_XON : Fld := ⟨.LP_THR, 31, 16⟩
def LP_PAUSE_PAUSE_TIME : Fld := ⟨.LP_PAUSE, 15, 0⟩
def LP_PAUSE_ECN_THR : Fld := ⟨.LP_PAUSE, 31, 16⟩
def LP_MAC_ADDR : Fld := ⟨.LP_MAC, 47, 0⟩
def LP_IP6_LO_ADDR : Fld := ⟨.LP_IP6_LO, 63, 0⟩
def LP_IP6_HI_ADDR : Fld := ⟨.LP_IP6_HI, 63, 0⟩
def UC_ADDR : Fld := ⟨.UC, 47, 0⟩
def UC_V : Fld := ⟨.UC, 48, 48⟩
def HASH_BINS : Fld := ⟨.HASH, 31, 0⟩
def DSCP_TC_TC : Fld := ⟨.DSCP_TC, 31, 0⟩
def METSEL_SYS_ENTRIES : Fld := ⟨.METSEL_SYS, 31, 0⟩
def LP_EVT_LINK_UP : Fld := ⟨.LP_EVT, 0, 0⟩
def LP_EVT_LINK_DOWN : Fld := ⟨.LP_EVT, 1, 1⟩
def LP_EVT_LINK_NOT_READY : Fld := ⟨.LP_EVT, 2, 2⟩
def LP_EVT_PAUSE_BROKEN : Fld := ⟨.LP_EVT, 3, 3⟩
def LP_EVT_PAUSE_RESTORED : Fld := ⟨.LP_EVT, 4, 4⟩
def LP_EVT_FEC_DEGRADED : Fld := ⟨.LP_EVT, 5, 5⟩
def LP_EVT_TS_OVF : Fld := ⟨.LP_EVT, 6, 6⟩
def LP_EVT_RX_NOBUF : Fld := ⟨.LP_EVT, 7, 7⟩
def LP_EVT_EN_EN : Fld := ⟨.LP_EVT_EN, 7, 0⟩
def PTP_TXTS_CTL_POP : Fld := ⟨.PTP_TXTS_CTL, 0, 0⟩
def PTP_TXTS_ID_SEQID : Fld := ⟨.PTP_TXTS_ID, 15, 0⟩
def PTP_TXTS_ID_MSGTYPE : Fld := ⟨.PTP_TXTS_ID, 19, 16⟩
def PTP_TXTS_ID_VALID : Fld := ⟨.PTP_TXTS_ID, 31, 31⟩
def PTP_TXTS_NS_NS : Fld := ⟨.PTP_TXTS_NS, 63, 0⟩
def RX_FRAMES_COUNT : Fld := ⟨.RX_FRAMES, 63, 0⟩
def RX_BYTES_COUNT : Fld := ⟨.RX_BYTES, 63, 0⟩
def TX_FRAMES_COUNT : Fld := ⟨.TX_FRAMES, 63, 0⟩
def TX_BYTES_COUNT : Fld := ⟨.TX_BYTES, 63, 0⟩
def RX_FCS_ERR_COUNT : Fld := ⟨.RX_FCS_ERR, 31, 0⟩
def RX_LEN_ERR_COUNT : Fld := ⟨.RX_LEN_ERR, 31, 0⟩
def RX_FILTER_DROP_COUNT : Fld := ⟨.RX_FILTER_DROP, 31, 0⟩
def RX_CSUM_DROP_COUNT : Fld := ⟨.RX_CSUM_DROP, 31, 0⟩
def RX_NOBUF_DROP_COUNT : Fld := ⟨.RX_NOBUF_DROP, 31, 0⟩
def RX_METER_DROP_COUNT : Fld := ⟨.RX_METER_DROP, 31, 0⟩
def TX_HELD_COUNT : Fld := ⟨.TX_HELD, 31, 0⟩
def TX_NOTREADY_DROP_COUNT : Fld := ⟨.TX_NOTREADY_DROP, 31, 0⟩
def TX_SHED_COUNT : Fld := ⟨.TX_SHED, 31, 0⟩
def TX_ECN_MARK_COUNT : Fld := ⟨.TX_ECN_MARK, 31, 0⟩
def PWD_BREAK_CNT_COUNT : Fld := ⟨.PWD_BREAK_CNT, 31, 0⟩
def PWD_IGNORED_COUNT : Fld := ⟨.PWD_IGNORED, 31, 0⟩
def FEC_CORR_CW_COUNT : Fld := ⟨.FEC_CORR_CW, 31, 0⟩
def FEC_UNCORR_CW_COUNT : Fld := ⟨.FEC_UNCORR_CW, 31, 0⟩
def FEC_SYM_ERR_COUNT : Fld := ⟨.FEC_SYM_ERR, 31, 0⟩
def PAUSE_RX_COUNT : Fld := ⟨.PAUSE_RX, 31, 0⟩
def PAUSE_TX_COUNT : Fld := ⟨.PAUSE_TX, 31, 0⟩
def METSEL_ENTRIES : Fld := ⟨.METSEL, 31, 0⟩
def EQ_CFG_TC : Fld := ⟨.EQ_CFG, 2, 0⟩
def EQ_CFG_INST : Fld := ⟨.EQ_CFG, 9, 4⟩
def EQ_CFG_V : Fld := ⟨.EQ_CFG, 10, 10⟩
def EQ_CFG_QUANTUM : Fld := ⟨.EQ_CFG, 31, 16⟩
def EQ_DEPTH_DEPTH : Fld := ⟨.EQ_DEPTH, 20, 0⟩
def MTR_CIR_CIR : Fld := ⟨.MTR_CIR, 23, 0⟩
def MTR_PIR_PIR : Fld := ⟨.MTR_PIR, 23, 0⟩
def MTR_BS_CBS : Fld := ⟨.MTR_BS, 15, 0⟩
def MTR_BS_PBS : Fld := ⟨.MTR_BS, 31, 16⟩
def MTR_CTL_EN : Fld := ⟨.MTR_CTL, 0, 0⟩
def MTR_CTL_GACT : Fld := ⟨.MTR_CTL, 2, 1⟩
def MTR_CTL_YACT : Fld := ⟨.MTR_CTL, 4, 3⟩
def MTR_CTL_RACT : Fld := ⟨.MTR_CTL, 6, 5⟩
def MTR_GREEN_COUNT : Fld := ⟨.MTR_GREEN, 31, 0⟩
def MTR_YELLOW_COUNT : Fld := ⟨.MTR_YELLOW, 31, 0⟩
def MTR_RED_COUNT : Fld := ⟨.MTR_RED, 31, 0⟩
def CIP_CTRL_EN : Fld := ⟨.CIP_CTRL, 0, 0⟩
def CIP_STATUS_SLOTS_LOADED : Fld := ⟨.CIP_STATUS, 12, 0⟩
def CIP_STATUS_KEKS_LOADED : Fld := ⟨.CIP_STATUS, 22, 16⟩
def CIP_STATUS_SELFTEST_DONE : Fld := ⟨.CIP_STATUS, 23, 23⟩
def CIP_STATUS_SELFTEST_FAIL : Fld := ⟨.CIP_STATUS, 24, 24⟩
def CIP_DRK_ID_ID : Fld := ⟨.CIP_DRK_ID, 63, 0⟩
def CIP_PIPE_BUSY_BUSY : Fld := ⟨.CIP_PIPE_BUSY, 15, 0⟩
def CIP_EVT_AUTH_FAIL : Fld := ⟨.CIP_EVT, 0, 0⟩
def CIP_EVT_UNWRAP_FAIL : Fld := ⟨.CIP_EVT, 1, 1⟩
def CIP_EVT_SELFTEST_ERR : Fld := ⟨.CIP_EVT, 2, 2⟩
def CIP_EVT_EN_EN : Fld := ⟨.CIP_EVT_EN, 2, 0⟩
def CIP_AUTH_FAIL_CNT_COUNT : Fld := ⟨.CIP_AUTH_FAIL_CNT, 31, 0⟩
def CIP_UNWRAP_FAIL_CNT_COUNT : Fld := ⟨.CIP_UNWRAP_FAIL_CNT, 31, 0⟩
def CIP_TX_BYTES_COUNT : Fld := ⟨.CIP_TX_BYTES, 63, 0⟩
def CIP_RX_BYTES_COUNT : Fld := ⟨.CIP_RX_BYTES, 63, 0⟩
def CIPI_KEK_LOADED : Fld := ⟨.CIPI_KEK, 0, 0⟩
def CIPI_SLOTS_BASE : Fld := ⟨.CIPI_SLOTS, 11, 0⟩
def CIPI_SLOTS_COUNT : Fld := ⟨.CIPI_SLOTS, 28, 16⟩
def SLOT_STATE_STATE : Fld := ⟨.SLOT_STATE, 1, 0⟩
def SLOT_STATE_INST : Fld := ⟨.SLOT_STATE, 7, 2⟩
def SLOT_STATE_WALG : Fld := ⟨.SLOT_STATE, 8, 8⟩
def SLOT_STATE_CONN : Fld := ⟨.SLOT_STATE, 31, 16⟩
def SLOT_AUTHF_COUNT : Fld := ⟨.SLOT_AUTHF, 31, 0⟩
def SLOT_LOADS_COUNT : Fld := ⟨.SLOT_LOADS, 31, 0⟩
def COL_CFG_XOVER : Fld := ⟨.COL_CFG, 4, 0⟩
def COL_CFG_RING_MIN : Fld := ⟨.COL_CFG, 15, 8⟩
def COL_STATUS_OPEN_CTX : Fld := ⟨.COL_STATUS, 10, 0⟩
def COL_STATUS_STAGE_FREE : Fld := ⟨.COL_STATUS, 30, 16⟩
def COL_EVT_COLL_PARTIAL : Fld := ⟨.COL_EVT, 0, 0⟩
def COL_EVT_COLL_TIMEOUT : Fld := ⟨.COL_EVT, 1, 1⟩
def COL_EVT_COLL_ABORTED : Fld := ⟨.COL_EVT, 2, 2⟩
def COL_EVT_COLL_OVF : Fld := ⟨.COL_EVT, 3, 3⟩
def COL_EVT_COLL_BADIDX : Fld := ⟨.COL_EVT, 4, 4⟩
def COL_EVT_EN_EN : Fld := ⟨.COL_EVT_EN, 4, 0⟩
def LATE_CONTRIB_CNT_COUNT : Fld := ⟨.LATE_CONTRIB_CNT, 31, 0⟩
def DUP_CONTRIB_CNT_COUNT : Fld := ⟨.DUP_CONTRIB_CNT, 31, 0⟩
def PEER_DROP_CNT_COUNT : Fld := ⟨.PEER_DROP_CNT, 31, 0⟩
def COLI_CFG_COLL_MODE : Fld := ⟨.COLI_CFG, 0, 0⟩
def COLI_STATUS_OPEN_CTX : Fld := ⟨.COLI_STATUS, 10, 0⟩
def COLC_STATE_STATE : Fld := ⟨.COLC_STATE, 1, 0⟩
def COLC_STATE_INST : Fld := ⟨.COLC_STATE, 7, 2⟩
def COLC_STATE_OP : Fld := ⟨.COLC_STATE, 10, 8⟩
def COLC_STATE_FMT : Fld := ⟨.COLC_STATE, 14, 11⟩
def COLC_STATE_ALGR : Fld := ⟨.COLC_STATE, 16, 15⟩
def COLC_GCTX_GCTX : Fld := ⟨.COLC_GCTX, 31, 0⟩
def COLC_RND_RND_LO : Fld := ⟨.COLC_RND, 63, 0⟩
def COLC_DONE_COUNT : Fld := ⟨.COLC_DONE, 63, 0⟩
def COLC_PARTIAL_COUNT : Fld := ⟨.COLC_PARTIAL, 31, 0⟩
def COLC_STAGE_BLOCKS : Fld := ⟨.COLC_STAGE, 14, 0⟩
def INS_CFG_FRZ_LIMIT : Fld := ⟨.INS_CFG, 15, 0⟩
def INS_STATUS_USED : Fld := ⟨.INS_STATUS, 6, 0⟩
def INS_STATUS_FREE_REGIONS : Fld := ⟨.INS_STATUS, 22, 16⟩
def INS_FREE_CONN_FREE : Fld := ⟨.INS_FREE_CONN, 20, 0⟩
def INS_FREE_WIN_FREE : Fld := ⟨.INS_FREE_WIN, 20, 0⟩
def INS_FREE_TTE_FREE : Fld := ⟨.INS_FREE_TTE, 20, 0⟩
def INS_FREE_COLL_FREE : Fld := ⟨.INS_FREE_COLL, 20, 0⟩
def INS_REGION_INST : Fld := ⟨.INS_REGION, 5, 0⟩
def INS_REGION_OWNED : Fld := ⟨.INS_REGION, 6, 6⟩
def INS_REGION_ZEROING : Fld := ⟨.INS_REGION, 7, 7⟩
def INSI_STATE_STATE : Fld := ⟨.INSI_STATE, 2, 0⟩
def INSI_STATE_VF : Fld := ⟨.INSI_STATE, 8, 3⟩
def INSI_STATE_NVEC : Fld := ⟨.INSI_STATE, 15, 9⟩
def INSI_STATE_GEN : Fld := ⟨.INSI_STATE, 31, 16⟩
def INSI_PASID_PASID : Fld := ⟨.INSI_PASID, 19, 0⟩
def INSI_HA_BASE_BASE : Fld := ⟨.INSI_HA_BASE, 63, 0⟩
def INSI_APER_LIMIT : Fld := ⟨.INSI_APER, 27, 0⟩
def INSI_LAT_DEF_LAT : Fld := ⟨.INSI_LAT_DEF, 31, 0⟩
def INSI_LAT_LAT : Fld := ⟨.INSI_LAT, 31, 0⟩
def INSI_CONN_LIMIT : Fld := ⟨.INSI_CONN, 16, 0⟩
def INSI_CONN_USED : Fld := ⟨.INSI_CONN, 48, 32⟩
def INSI_WIN_LIMIT : Fld := ⟨.INSI_WIN, 20, 0⟩
def INSI_WIN_USED : Fld := ⟨.INSI_WIN, 52, 32⟩
def INSI_TTE_LIMIT : Fld := ⟨.INSI_TTE, 16, 0⟩
def INSI_TTE_USED : Fld := ⟨.INSI_TTE, 48, 32⟩
def INSI_COLL_LIMIT : Fld := ⟨.INSI_COLL, 10, 0⟩
def INSI_COLL_USED : Fld := ⟨.INSI_COLL, 42, 32⟩
def INSI_MTR_BASE : Fld := ⟨.INSI_MTR, 8, 0⟩
def INSI_MTR_COUNT : Fld := ⟨.INSI_MTR, 25, 16⟩
def INSI_EQ_NEQ : Fld := ⟨.INSI_EQ, 5, 0⟩
def INSI_RMAP_ENTRY : Fld := ⟨.INSI_RMAP, 15, 0⟩
def INSI_EVT_RESET_DONE : Fld := ⟨.INSI_EVT, 0, 0⟩
def INSI_EVT_FREEZE_DONE : Fld := ⟨.INSI_EVT, 1, 1⟩
def INSI_EVT_FREEZE_CUT : Fld := ⟨.INSI_EVT, 2, 2⟩
def INSI_EVT_DIRTY_OUTSIDE : Fld := ⟨.INSI_EVT, 3, 3⟩
def INSI_EVT_GEN_DROP : Fld := ⟨.INSI_EVT, 4, 4⟩
def INSI_EVT_TAG_DROP : Fld := ⟨.INSI_EVT, 5, 5⟩
def INSI_EVT_EN_EN : Fld := ⟨.INSI_EVT_EN, 5, 0⟩
def INSI_GEN_DROP_CNT_COUNT : Fld := ⟨.INSI_GEN_DROP_CNT, 31, 0⟩
def INSI_TAG_DROP_CNT_COUNT : Fld := ⟨.INSI_TAG_DROP_CNT, 31, 0⟩
def INSI_DIRTY_ON : Fld := ⟨.INSI_DIRTY, 0, 0⟩
def INSI_DIRTY_ACTIVE_MAP : Fld := ⟨.INSI_DIRTY, 1, 1⟩
def INSI_DIRTY_OUTSIDE : Fld := ⟨.INSI_DIRTY, 2, 2⟩
def INSI_EPOCH_EPOCH : Fld := ⟨.INSI_EPOCH, 31, 0⟩
def INSI_RESET_CNT_COUNT : Fld := ⟨.INSI_RESET_CNT, 31, 0⟩
def REL_CFG_REPLAY_SAME : Fld := ⟨.REL_CFG, 1, 0⟩
def REL_CFG_MOVE_EN : Fld := ⟨.REL_CFG, 2, 2⟩
def REL_CFG_RETIRE_EN : Fld := ⟨.REL_CFG, 3, 3⟩
def REL_CFG_TEST_EN : Fld := ⟨.REL_CFG, 4, 4⟩
def REL_TEST_CFG_PERIOD_H : Fld := ⟨.REL_TEST_CFG, 7, 0⟩
def REL_TEST_CFG_DEADLINE_H : Fld := ⟨.REL_TEST_CFG, 15, 8⟩
def REL_HIST_CFG_EVT_THR : Fld := ⟨.REL_HIST_CFG, 3, 0⟩
def REL_HIST_CFG_WINDOW_D : Fld := ⟨.REL_HIST_CFG, 11, 4⟩
def REL_HIST_CFG_CE_THR : Fld := ⟨.REL_HIST_CFG, 31, 16⟩
def REL_STATUS_NOSPARE_CL : Fld := ⟨.REL_STATUS, 10, 0⟩
def REL_STATUS_SUSPECT : Fld := ⟨.REL_STATUS, 30, 16⟩
def REL_STATUS_FATAL : Fld := ⟨.REL_STATUS, 31, 31⟩
def REL_STATUS_RETIRED : Fld := ⟨.REL_STATUS, 46, 32⟩
def REL_STATUS_HIST_OK : Fld := ⟨.REL_STATUS, 47, 47⟩
def REL_STATUS_UNSERVED : Fld := ⟨.REL_STATUS, 62, 48⟩
def REL_FATAL_HUB_SRAM_UE : Fld := ⟨.REL_FATAL, 0, 0⟩
def REL_FATAL_CTRL_CORE : Fld := ⟨.REL_FATAL, 1, 1⟩
def REL_FATAL_FW_WATCHDOG : Fld := ⟨.REL_FATAL, 2, 2⟩
def REL_FATAL_THERM_TRIP : Fld := ⟨.REL_FATAL, 3, 3⟩
def REL_FATAL_AON_PARITY : Fld := ⟨.REL_FATAL, 4, 4⟩
def REL_FATAL_HUTCH : Fld := ⟨.REL_FATAL, 5, 5⟩
def REL_EVT_THREAD_FAULT : Fld := ⟨.REL_EVT, 0, 0⟩
def REL_EVT_REPLAY : Fld := ⟨.REL_EVT, 1, 1⟩
def REL_EVT_REPLAY_FAILED : Fld := ⟨.REL_EVT, 2, 2⟩
def REL_EVT_POS_SUSPECT : Fld := ⟨.REL_EVT, 3, 3⟩
def REL_EVT_PLACE_MOVED : Fld := ⟨.REL_EVT, 4, 4⟩
def REL_EVT_CORE_RETIRED : Fld := ⟨.REL_EVT, 5, 5⟩
def REL_EVT_RETIRE_ADVISED : Fld := ⟨.REL_EVT, 6, 6⟩
def REL_EVT_NO_SPARE : Fld := ⟨.REL_EVT, 7, 7⟩
def REL_EVT_POS_UNSERVED : Fld := ⟨.REL_EVT, 8, 8⟩
def REL_EVT_TEST_FAIL : Fld := ⟨.REL_EVT, 9, 9⟩
def REL_EVT_TEST_OVERDUE : Fld := ⟨.REL_EVT, 10, 10⟩
def REL_EVT_ECC_CE : Fld := ⟨.REL_EVT, 11, 11⟩
def REL_EVT_ECC_UE : Fld := ⟨.REL_EVT, 12, 12⟩
def REL_EVT_SCRUB_CHECK : Fld := ⟨.REL_EVT, 13, 13⟩
def REL_EVT_EPOCH_DROP : Fld := ⟨.REL_EVT, 14, 14⟩
def REL_EVT_HOST_APERTURE_FAULT : Fld := ⟨.REL_EVT, 15, 15⟩
def REL_EVT_REG_ACCESS_BAD : Fld := ⟨.REL_EVT, 16, 16⟩
def REL_EVT_HIST_WRITE_FAIL : Fld := ⟨.REL_EVT, 17, 17⟩
def REL_EVT_FATAL : Fld := ⟨.REL_EVT, 18, 18⟩
def REL_EVT_EN_EN : Fld := ⟨.REL_EVT_EN, 14, 0⟩
def REL_EVT_EN_EN1 : Fld := ⟨.REL_EVT_EN, 16, 15⟩
def REL_EVT_EN_EN2 : Fld := ⟨.REL_EVT_EN, 17, 17⟩
def REL_EVT_EN_EN3 : Fld := ⟨.REL_EVT_EN, 18, 18⟩
def REL_LOG_PROD_PROD : Fld := ⟨.REL_LOG_PROD, 31, 0⟩
def REL_LOG_CONS_CONS : Fld := ⟨.REL_LOG_CONS, 31, 0⟩
def REL_LOST_LOST_COUNT : Fld := ⟨.REL_LOST, 15, 0⟩
def REL_LOST_LOST_SEV : Fld := ⟨.REL_LOST, 18, 16⟩
def REL_PEND_DEPTH : Fld := ⟨.REL_PEND, 5, 0⟩
def REL_PEND_HSEV : Fld := ⟨.REL_PEND, 8, 6⟩
def REL_PEND_BUSY : Fld := ⟨.REL_PEND, 9, 9⟩
def REL_FORCE_INDEX : Fld := ⟨.REL_FORCE, 19, 0⟩
def REL_FORCE_ACTION : Fld := ⟨.REL_FORCE, 21, 20⟩
def REL_FORCE_GO : Fld := ⟨.REL_FORCE, 31, 31⟩
def REL_RPT_UDP_EN : Fld := ⟨.REL_RPT, 0, 0⟩
def REL_RPT_REDFISH_EN : Fld := ⟨.REL_RPT, 1, 1⟩
def REL_RPT_MIN_SEV : Fld := ⟨.REL_RPT, 4, 2⟩
def REL_RPT_UDP_PORT : Fld := ⟨.REL_RPT, 31, 16⟩
def REL_RPT_SENT : Fld := ⟨.REL_RPT, 63, 32⟩
def REL_HQ_UNIT_UNIT : Fld := ⟨.REL_HQ_UNIT, 23, 0⟩
def REL_HQ_RES_EVENTS : Fld := ⟨.REL_HQ_RES, 3, 0⟩
def REL_HQ_RES_VALID : Fld := ⟨.REL_HQ_RES, 4, 4⟩
def REL_HQ_RES_ADVISED : Fld := ⟨.REL_HQ_RES, 5, 5⟩
def REL_CNT_COUNT : Fld := ⟨.REL_CNT, 31, 0⟩
def REL_LOG_ENTRY : Fld := ⟨.REL_LOG, 63, 0⟩
def CL_PMAP_MAP : Fld := ⟨.CL_PMAP, 31, 0⟩
def CL_ROLE_ROLES : Fld := ⟨.CL_ROLE, 33, 0⟩
def CL_EPOCH_EPOCH : Fld := ⟨.CL_EPOCH, 15, 0⟩
def CL_FAULT_COUNT : Fld := ⟨.CL_FAULT, 31, 0⟩
def REL_CORE_AGE_H : Fld := ⟨.REL_CORE, 15, 0⟩
def REL_CORE_EVENTS : Fld := ⟨.REL_CORE, 19, 16⟩
def REL_CORE_DUE : Fld := ⟨.REL_CORE, 20, 20⟩
def REL_CORE_OVERDUE : Fld := ⟨.REL_CORE, 21, 21⟩
def REL_CORE_RETIRE_PEND : Fld := ⟨.REL_CORE, 22, 22⟩
def REL_CORE_SUSPECT : Fld := ⟨.REL_CORE, 23, 23⟩
def REL_CORE_TEST_PASS : Fld := ⟨.REL_CORE, 47, 32⟩
def HRM_DATA_DATA : Fld := ⟨.HRM_DATA, 31, 0⟩
def HRM_DATA_VALID : Fld := ⟨.HRM_DATA, 32, 32⟩
def HRM_DATA_END : Fld := ⟨.HRM_DATA, 33, 33⟩
def HRM_STATUS_PKTS : Fld := ⟨.HRM_STATUS, 9, 0⟩
def HRM_STATUS_DRAIN_WORDS : Fld := ⟨.HRM_STATUS, 24, 16⟩
def HRM_STATUS_BANK : Fld := ⟨.HRM_STATUS, 25, 25⟩
def HRM_NOTICES_COUNT : Fld := ⟨.HRM_NOTICES, 31, 0⟩
def MBXC_STATUS_PKTS : Fld := ⟨.MBXC_STATUS, 6, 0⟩
def MBXC_STATUS_FILL_WORDS : Fld := ⟨.MBXC_STATUS, 12, 7⟩
def MBXC_STATUS_DRAIN_WORDS : Fld := ⟨.MBXC_STATUS, 18, 13⟩
def BBR_WORD_WORD : Fld := ⟨.BBR_WORD, 31, 0⟩
def BBR_STATUS_BBR_VALID : Fld := ⟨.BBR_STATUS, 0, 0⟩
def BBR_STATUS_VBAT_OK : Fld := ⟨.BBR_STATUS, 1, 1⟩
def BBR_STATUS_VBAT : Fld := ⟨.BBR_STATUS, 15, 8⟩
def VMSIX_ADDR_ADDR : Fld := ⟨.VMSIX_ADDR, 63, 0⟩
def VMSIX_DATA_DATA : Fld := ⟨.VMSIX_DATA, 31, 0⟩
def VMSIX_CTL_MASK : Fld := ⟨.VMSIX_CTL, 0, 0⟩
def VPBA_PENDING : Fld := ⟨.VPBA, 63, 0⟩
def VMOD_CFG_CNT_THR : Fld := ⟨.VMOD_CFG, 7, 0⟩
def VMOD_CFG_TIMER_US : Fld := ⟨.VMOD_CFG, 17, 8⟩
def VMOD_STATUS_CNT : Fld := ⟨.VMOD_STATUS, 7, 0⟩
def VMOD_STATUS_TIMER_RUN : Fld := ⟨.VMOD_STATUS, 8, 8⟩
def VF_CAUSE_REPLY : Fld := ⟨.VF_CAUSE, 0, 0⟩
def VF_CAUSE_INST_EVT : Fld := ⟨.VF_CAUSE, 1, 1⟩
def VF_CAUSE_QUE : Fld := ⟨.VF_CAUSE, 2, 2⟩
def VF_CAUSE_EN_EN : Fld := ⟨.VF_CAUSE_EN, 2, 0⟩
def VF_CAUSE_VEC_VEC : Fld := ⟨.VF_CAUSE_VEC, 5, 0⟩
def VHRM_DATA_DATA : Fld := ⟨.VHRM_DATA, 31, 0⟩
def VHRM_DATA_VALID : Fld := ⟨.VHRM_DATA, 32, 32⟩
def VHRM_DATA_END : Fld := ⟨.VHRM_DATA, 33, 33⟩
def VHRM_STATUS_PKTS : Fld := ⟨.VHRM_STATUS, 9, 0⟩
def VHRM_STATUS_DRAIN_WORDS : Fld := ⟨.VHRM_STATUS, 24, 16⟩
def VHRM_STATUS_BANK : Fld := ⟨.VHRM_STATUS, 25, 25⟩
def VHRM_NOTICES_COUNT : Fld := ⟨.VHRM_NOTICES, 31, 0⟩
def VFS_ID_INST : Fld := ⟨.VFS_ID, 5, 0⟩
def VFS_ID_BOUND : Fld := ⟨.VFS_ID, 6, 6⟩
def VFS_ID_GEN : Fld := ⟨.VFS_ID, 31, 16⟩
def FTC_SEL_CONN : Fld := ⟨.FTC_SEL, 15, 0⟩
def EMU_STATUS_PENDING : Fld := ⟨.EMU_STATUS, 0, 0⟩
def EMU_STATUS_LOST : Fld := ⟨.EMU_STATUS, 1, 1⟩
def EMU_STATUS_FW_UP : Fld := ⟨.EMU_STATUS, 2, 2⟩
def EMU_STATUS_DEPTH : Fld := ⟨.EMU_STATUS, 24, 16⟩
def EMU_WR_SEQ_SEQ : Fld := ⟨.EMU_WR_SEQ, 31, 0⟩
def EMU_DONE_SEQ_SEQ : Fld := ⟨.EMU_DONE_SEQ, 31, 0⟩
def EMU_HEARTBEAT_COUNT : Fld := ⟨.EMU_HEARTBEAT, 31, 0⟩
def EMU_FW_VER_VER : Fld := ⟨.EMU_FW_VER, 31, 0⟩
def EMU_FW_BUILD_BUILD : Fld := ⟨.EMU_FW_BUILD, 31, 0⟩
def EMU_ROLLBACK_MIN_RB : Fld := ⟨.EMU_ROLLBACK_MIN, 31, 0⟩
def EMU_API_VER_VER : Fld := ⟨.EMU_API_VER, 31, 0⟩
def EMU_DRV_VER_VER : Fld := ⟨.EMU_DRV_VER, 31, 0⟩
def EMU_SCRATCH_VALUE : Fld := ⟨.EMU_SCRATCH, 31, 0⟩
end F

end Sys2Proof.Machine
end

