-- ==== Sys2Proof/Machine/RegTable.lean ====
section
/-! DEFINITION. The register maps (R31, R198 to R200, R230, R231, R254, R255, R288, R289, R315 to R317, R332, R333, R356 to
R360, R388, R389, R409, R410, R438, R439, R459 to R462): for each register its offset, width, array strides and fields with
their access type and reset value. -/

namespace Sys2Proof.Machine

/-- The access types of R22, an RW/H field by its class of R23; a counter that saturates is countSat (R25). -/
inductive FieldAcc where
  | rw | ro | status | count | countSat | control | w1c | w1s | rc | wo
  deriving DecidableEq, Repr

/-- One field: bits [hi:lo], its access type and its reset value. -/
structure FieldInfo where
  hi : Nat
  lo : Nat
  acc : FieldAcc
  reset : Nat
  deriving DecidableEq, Repr

/-- One register or register array: byte offset of its first element (VF registers from 2^32, PF BAR2 from 2^33), width in
bits, strides and counts of its dimensions, outermost first, and its fields. Bits in no field are RSVD. -/
structure RegInfo where
  reg : Reg
  base : Nat
  width : Nat
  dims : List (Nat × Nat)
  fields : List FieldInfo
  deriving DecidableEq, Repr

/-- Part 0 of the register map. -/
def regTable0 : List RegInfo := [
  { reg := .GLB_ID, base := 0x0, width := 32, dims := [], fields := [⟨15, 0, .ro, 7823⟩, ⟨31, 16, .ro, 3848⟩] },
  { reg := .GLB_STEPPING, base := 0x4, width := 32, dims := [], fields := [⟨7, 0, .ro, 0⟩] },
  { reg := .GLB_STATUS, base := 0x8, width := 32, dims := [], fields := [⟨3, 0, .ro, 0⟩, ⟨4, 4, .ro, 0⟩, ⟨5, 5, .ro, 0⟩] },
  { reg := .GLB_BOOT_ADDR, base := 0x10, width := 64, dims := [], fields := [⟨63, 0, .rw, 0⟩] },
  { reg := .GLB_BOOT_LEN, base := 0x18, width := 32, dims := [], fields := [⟨23, 0, .rw, 0⟩] },
  { reg := .GLB_BOOT_CTL, base := 0x1C, width := 32, dims := [], fields := [⟨0, 0, .w1s, 0⟩] },
  { reg := .GLB_BOOT_STATUS, base := 0x20, width := 32, dims := [], fields := [⟨2, 0, .ro, 0⟩, ⟨15, 8, .ro, 0⟩, ⟨31, 16, .ro, 0⟩] },
  { reg := .GLB_FUSE, base := 0x24, width := 32, dims := [], fields := [⟨6, 0, .ro, 0⟩, ⟨11, 8, .ro, 0⟩] },
  { reg := .GLB_POSRST, base := 0x28, width := 32, dims := [], fields := [⟨13, 0, .rw, 0⟩, ⟨31, 31, .w1s, 0⟩] },
  { reg := .GLB_EVT, base := 0x40, width := 32, dims := [], fields := [⟨0, 0, .w1c, 0⟩, ⟨1, 1, .w1c, 0⟩, ⟨2, 2, .w1c, 0⟩, ⟨3, 3, .w1c, 0⟩] },
  { reg := .GLB_EVT_EN, base := 0x44, width := 32, dims := [], fields := [⟨0, 0, .rw, 0⟩, ⟨1, 1, .rw, 0⟩, ⟨2, 2, .rw, 0⟩, ⟨3, 3, .rw, 0⟩] },
  { reg := .PWR_CTL, base := 0x10000, width := 32, dims := [], fields := [⟨2, 0, .rw, 2⟩, ⟨3, 3, .rw, 1⟩, ⟨15, 8, .rw, 0⟩] },
  { reg := .PWR_STATUS, base := 0x10004, width := 32, dims := [], fields := [⟨2, 0, .ro, 0⟩] },
  { reg := .PWR_PD_ON0, base := 0x10008, width := 64, dims := [], fields := [⟨63, 0, .ro, 0⟩] },
  { reg := .PWR_PD_ON1, base := 0x10010, width := 32, dims := [], fields := [⟨15, 0, .ro, 0⟩] },
  { reg := .PWR_CAP, base := 0x10018, width := 32, dims := [], fields := [⟨11, 0, .rw, 3000⟩] },
  { reg := .PWR_THERM, base := 0x1001C, width := 32, dims := [], fields := [⟨7, 0, .rw, 95⟩] },
  { reg := .PWR_IN, base := 0x10020, width := 32, dims := [], fields := [⟨15, 0, .ro, 0⟩, ⟨31, 16, .ro, 0⟩] },
  { reg := .PWR_PAVG, base := 0x10024, width := 32, dims := [], fields := [⟨15, 0, .ro, 0⟩] },
  { reg := .PWR_PEAK, base := 0x10028, width := 32, dims := [], fields := [⟨15, 0, .rc, 0⟩] },
  { reg := .PWR_HUB_TEMP, base := 0x1002C, width := 32, dims := [], fields := [⟨31, 0, .ro, 0⟩] },
  { reg := .PWR_CAPLIM, base := 0x10030, width := 32, dims := [], fields := [⟨10, 0, .ro, 1600⟩] },
  { reg := .PWR_EVT, base := 0x10040, width := 32, dims := [], fields := [⟨0, 0, .w1c, 0⟩, ⟨1, 1, .w1c, 0⟩, ⟨2, 2, .w1c, 0⟩, ⟨3, 3, .w1c, 0⟩, ⟨4, 4, .w1c, 0⟩] },
  { reg := .PWR_EVT_EN, base := 0x10044, width := 32, dims := [], fields := [⟨0, 0, .rw, 0⟩, ⟨1, 1, .rw, 0⟩, ⟨2, 2, .rw, 0⟩, ⟨3, 3, .rw, 0⟩, ⟨4, 4, .rw, 0⟩] }]

/-- Part 1 of the register map. -/
def regTable1 : List RegInfo := [
  { reg := .THROTTLE_CNT, base := 0x10048, width := 32, dims := [], fields := [⟨31, 0, .countSat, 0⟩] },
  { reg := .FREQ_TGT, base := 0x11000, width := 32, dims := [(16, 64)], fields := [⟨10, 0, .rw, 1600⟩] },
  { reg := .FREQ_NOW, base := 0x11004, width := 32, dims := [(16, 64)], fields := [⟨10, 0, .ro, 1600⟩, ⟨26, 16, .ro, 1600⟩] },
  { reg := .REG_PWR, base := 0x11008, width := 32, dims := [(16, 64)], fields := [⟨2, 0, .ro, 7⟩, ⟨15, 8, .ro, 0⟩] },
  { reg := .CLK_REF, base := 0x20000, width := 32, dims := [], fields := [⟨0, 0, .ro, 0⟩, ⟨1, 1, .ro, 0⟩, ⟨2, 2, .ro, 0⟩, ⟨3, 3, .ro, 0⟩, ⟨4, 4, .ro, 0⟩] },
  { reg := .CLK_ETH_PPM, base := 0x20004, width := 32, dims := [], fields := [⟨15, 0, .ro, 0⟩] },
  { reg := .CLK_LOCK, base := 0x20010, width := 32, dims := [(4, 10)], fields := [⟨31, 0, .ro, 0⟩] },
  { reg := .CLK_EVT, base := 0x20040, width := 32, dims := [], fields := [⟨0, 0, .w1c, 0⟩, ⟨1, 1, .w1c, 0⟩, ⟨2, 2, .w1c, 0⟩] },
  { reg := .CLK_EVT_EN, base := 0x20044, width := 32, dims := [], fields := [⟨0, 0, .rw, 0⟩, ⟨1, 1, .rw, 0⟩, ⟨2, 2, .rw, 0⟩] },
  { reg := .PLL_UNLOCK_CNT, base := 0x20048, width := 32, dims := [], fields := [⟨31, 0, .countSat, 0⟩] },
  { reg := .MSIX_ADDR, base := 0x100000, width := 64, dims := [(16, 2048)], fields := [⟨63, 0, .rw, 0⟩] },
  { reg := .MSIX_DATA, base := 0x100008, width := 32, dims := [(16, 2048)], fields := [⟨31, 0, .rw, 0⟩] },
  { reg := .MSIX_CTL, base := 0x10000C, width := 32, dims := [(16, 2048)], fields := [⟨0, 0, .rw, 1⟩] },
  { reg := .PBA, base := 0x108000, width := 64, dims := [(8, 32)], fields := [⟨63, 0, .ro, 0⟩] },
  { reg := .IRQ_CAUSE, base := 0x110000, width := 32, dims := [], fields := [⟨12, 0, .w1c, 0⟩] },
  { reg := .IRQ_CAUSE_EN, base := 0x110004, width := 32, dims := [], fields := [⟨12, 0, .rw, 0⟩] },
  { reg := .IRQ_CAUSE_VEC, base := 0x110100, width := 32, dims := [(4, 13)], fields := [⟨10, 0, .rw, 0⟩] },
  { reg := .HL_STATUS, base := 0x110200, width := 32, dims := [], fields := [⟨2, 0, .ro, 0⟩, ⟨7, 3, .ro, 0⟩, ⟨8, 8, .ro, 0⟩, ⟨10, 9, .ro, 0⟩, ⟨12, 11, .ro, 0⟩] },
  { reg := .HL_LTR, base := 0x110204, width := 32, dims := [], fields := [⟨31, 0, .ro, 4294967295⟩] },
  { reg := .HL_EVT, base := 0x110240, width := 32, dims := [], fields := [⟨0, 0, .w1c, 0⟩, ⟨1, 1, .w1c, 0⟩, ⟨2, 2, .w1c, 0⟩, ⟨3, 3, .w1c, 0⟩, ⟨4, 4, .w1c, 0⟩] },
  { reg := .HL_EVT_EN, base := 0x110244, width := 32, dims := [], fields := [⟨0, 0, .rw, 0⟩, ⟨1, 1, .rw, 0⟩, ⟨2, 2, .rw, 0⟩, ⟨3, 3, .rw, 0⟩, ⟨4, 4, .rw, 0⟩] },
  { reg := .HDM_VIOL_CNT, base := 0x110248, width := 32, dims := [], fields := [⟨31, 0, .countSat, 0⟩] },
  { reg := .PEER_REFUSED_CNT, base := 0x11024C, width := 32, dims := [], fields := [⟨31, 0, .countSat, 0⟩] },
  { reg := .HDM_VIOL_ADDR, base := 0x110250, width := 64, dims := [], fields := [⟨34, 0, .ro, 0⟩] }]

/-- Part 2 of the register map. -/
def regTable2 : List RegInfo := [
  { reg := .BIAS_BUSY, base := 0x110280, width := 32, dims := [], fields := [⟨19, 0, .ro, 0⟩] },
  { reg := .PEER_ALLOW, base := 0x110300, width := 32, dims := [(4, 16)], fields := [⟨15, 0, .rw, 0⟩, ⟨16, 16, .rw, 0⟩] },
  { reg := .HCE_STATUS, base := 0x110400, width := 32, dims := [], fields := [⟨6, 0, .ro, 0⟩] },
  { reg := .HCE_RD_BYTES, base := 0x110408, width := 64, dims := [], fields := [⟨63, 0, .count, 0⟩] },
  { reg := .HCE_WR_BYTES, base := 0x110410, width := 64, dims := [], fields := [⟨63, 0, .count, 0⟩] },
  { reg := .MOD_CFG, base := 0x120000, width := 32, dims := [(8, 2048)], fields := [⟨7, 0, .rw, 1⟩, ⟨17, 8, .rw, 0⟩] },
  { reg := .MOD_STATUS, base := 0x120004, width := 32, dims := [(8, 2048)], fields := [⟨7, 0, .ro, 0⟩, ⟨8, 8, .ro, 0⟩] },
  { reg := .BIAS, base := 0x140000, width := 32, dims := [(4, 16384)], fields := [⟨31, 0, .ro, 0⟩] },
  { reg := .QUE_PF, base := 0x200000, width := 32, dims := [], fields := [⟨13, 0, .rw, 0⟩, ⟨27, 16, .rw, 64⟩] },
  { reg := .QUE_STATUS, base := 0x200004, width := 32, dims := [], fields := [⟨14, 0, .ro, 16320⟩] },
  { reg := .QUE_EVT, base := 0x200040, width := 32, dims := [], fields := [⟨0, 0, .w1c, 0⟩, ⟨1, 1, .w1c, 0⟩, ⟨2, 2, .w1c, 0⟩, ⟨3, 3, .w1c, 0⟩, ⟨4, 4, .w1c, 0⟩] },
  { reg := .QUE_EVT_EN, base := 0x200044, width := 32, dims := [], fields := [⟨0, 0, .rw, 0⟩, ⟨1, 1, .rw, 0⟩, ⟨2, 2, .rw, 0⟩, ⟨3, 3, .rw, 0⟩, ⟨4, 4, .rw, 0⟩] },
  { reg := .STALE_CPL_CNT, base := 0x200048, width := 32, dims := [], fields := [⟨31, 0, .countSat, 0⟩] },
  { reg := .CQ_DROP_CNT, base := 0x20004C, width := 32, dims := [], fields := [⟨31, 0, .countSat, 0⟩] },
  { reg := .DB_IGNORED_CNT, base := 0x200050, width := 32, dims := [], fields := [⟨31, 0, .countSat, 0⟩] },
  { reg := .QUE_ERRQ, base := 0x200058, width := 32, dims := [], fields := [⟨13, 0, .ro, 0⟩, ⟨31, 31, .ro, 0⟩] },
  { reg := .QUEI, base := 0x201000, width := 32, dims := [(4, 64)], fields := [⟨13, 0, .ro, 0⟩, ⟨26, 16, .ro, 0⟩] },
  { reg := .DOORBELL_SLOT, base := 0x210000, width := 64, dims := [(8, 16384)], fields := [⟨63, 0, .wo, 0⟩] },
  { reg := .QBASE, base := 0x300000, width := 64, dims := [(64, 16384)], fields := [⟨63, 0, .rw, 0⟩] },
  { reg := .QHEAD_ADDR, base := 0x300008, width := 64, dims := [(64, 16384)], fields := [⟨63, 0, .rw, 0⟩] },
  { reg := .QCFG, base := 0x300010, width := 32, dims := [(64, 16384)], fields := [⟨4, 0, .rw, 0⟩, ⟨7, 5, .rw, 0⟩, ⟨17, 8, .rw, 0⟩, ⟨28, 18, .rw, 0⟩, ⟨29, 29, .rw, 0⟩] },
  { reg := .QCTL, base := 0x300014, width := 32, dims := [(64, 16384)], fields := [⟨0, 0, .control, 0⟩, ⟨1, 1, .w1s, 0⟩] },
  { reg := .QSTATE, base := 0x300018, width := 32, dims := [(64, 16384)], fields := [⟨1, 0, .ro, 0⟩, ⟨2, 2, .ro, 0⟩, ⟨3, 3, .ro, 0⟩, ⟨31, 16, .ro, 0⟩] },
  { reg := .QERR_INDEX, base := 0x30001C, width := 32, dims := [(64, 16384)], fields := [⟨15, 0, .ro, 0⟩, ⟨31, 31, .ro, 0⟩] }]

/-- Part 3 of the register map. -/
def regTable3 : List RegInfo := [
  { reg := .QSCAN, base := 0x300020, width := 32, dims := [(64, 16384)], fields := [⟨15, 0, .status, 0⟩, ⟨16, 16, .status, 1⟩] },
  { reg := .QHEAD, base := 0x300024, width := 32, dims := [(64, 16384)], fields := [⟨15, 0, .ro, 0⟩, ⟨16, 16, .ro, 0⟩] },
  { reg := .CQ_CONS, base := 0x300028, width := 32, dims := [(64, 16384)], fields := [⟨16, 0, .rw, 0⟩] },
  { reg := .QDONE, base := 0x30002C, width := 32, dims := [(64, 16384)], fields := [⟨31, 0, .count, 0⟩] },
  { reg := .FAB_CTRL, base := 0x1000000, width := 32, dims := [], fields := [⟨0, 0, .rw, 0⟩, ⟨1, 1, .rw, 1⟩, ⟨2, 2, .rw, 1⟩, ⟨3, 3, .rw, 0⟩, ⟨9, 4, .rw, 0⟩, ⟨10, 10, .rw, 0⟩] },
  { reg := .FAB_STATUS, base := 0x1000004, width := 32, dims := [], fields := [⟨0, 0, .ro, 0⟩, ⟨1, 1, .ro, 0⟩, ⟨15, 8, .ro, 0⟩, ⟨23, 16, .ro, 0⟩] },
  { reg := .DEV_ID, base := 0x1000008, width := 32, dims := [], fields := [⟨11, 0, .status, 0⟩, ⟨12, 12, .status, 0⟩, ⟨14, 13, .status, 0⟩] },
  { reg := .FAB_UID, base := 0x1000010, width := 64, dims := [], fields := [⟨63, 0, .ro, 0⟩] },
  { reg := .REGION_OK, base := 0x1000018, width := 64, dims := [], fields := [⟨63, 0, .rw, 18446744073709551615⟩] },
  { reg := .MARK_THR, base := 0x1000020, width := 32, dims := [], fields := [⟨4, 0, .rw, 4⟩, ⟨12, 8, .rw, 12⟩] },
  { reg := .RL_CFG, base := 0x1000024, width := 32, dims := [], fields := [⟨15, 0, .rw, 1000⟩, ⟨19, 16, .rw, 4⟩, ⟨27, 20, .rw, 16⟩] },
  { reg := .RL_MIN, base := 0x1000028, width := 32, dims := [], fields := [⟨7, 0, .rw, 4⟩] },
  { reg := .AGE_NOW, base := 0x1000030, width := 32, dims := [], fields := [⟨13, 0, .ro, 0⟩] },
  { reg := .FAB_EVT, base := 0x1000040, width := 32, dims := [], fields := [⟨0, 0, .w1c, 0⟩, ⟨1, 1, .w1c, 0⟩, ⟨2, 2, .w1c, 0⟩, ⟨3, 3, .w1c, 0⟩, ⟨4, 4, .w1c, 0⟩, ⟨5, 5, .w1c, 0⟩, ⟨6, 6, .w1c, 0⟩, ⟨7, 7, .w1c, 0⟩, ⟨8, 8, .w1c, 0⟩] },
  { reg := .FAB_EVT_EN, base := 0x1000044, width := 32, dims := [], fields := [⟨8, 0, .rw, 0⟩] },
  { reg := .DROP_INST_CNT, base := 0x1000048, width := 32, dims := [], fields := [⟨31, 0, .countSat, 0⟩] },
  { reg := .DROP_ROUTE_CNT, base := 0x100004C, width := 32, dims := [], fields := [⟨31, 0, .countSat, 0⟩] },
  { reg := .DISC_CTRL, base := 0x1000050, width := 32, dims := [], fields := [⟨0, 0, .w1s, 0⟩, ⟨31, 16, .rw, 50⟩] },
  { reg := .FWD_DROP_CNT, base := 0x1000054, width := 32, dims := [], fields := [⟨31, 0, .countSat, 0⟩] },
  { reg := .TELEM_CFG, base := 0x1000058, width := 32, dims := [], fields := [⟨15, 0, .rw, 1000⟩] },
  { reg := .DEVRT, base := 0x1008000, width := 32, dims := [(4, 4096)], fields := [⟨5, 0, .rw, 0⟩, ⟨6, 6, .rw, 0⟩, ⟨15, 8, .rw, 0⟩, ⟨31, 16, .rw, 0⟩] },
  { reg := .NBR_UID, base := 0x1010000, width := 64, dims := [(16, 64)], fields := [⟨63, 0, .ro, 0⟩] },
  { reg := .NBR_INFO, base := 0x1010008, width := 32, dims := [(16, 64)], fields := [⟨11, 0, .ro, 0⟩, ⟨12, 12, .ro, 0⟩, ⟨13, 13, .ro, 0⟩, ⟨19, 14, .ro, 0⟩] },
  { reg := .MCG, base := 0x1020000, width := 32, dims := [(512, 256), (4, 128)], fields := [⟨31, 0, .rw, 0⟩] }]

/-- Part 4 of the register map. -/
def regTable4 : List RegInfo := [
  { reg := .HPKT_VC, base := 0x13F0000, width := 64, dims := [(256, 4), (8, 4)], fields := [⟨63, 0, .count, 0⟩] },
  { reg := .HBYTE_VC, base := 0x13F0020, width := 64, dims := [(256, 4), (8, 4)], fields := [⟨63, 0, .count, 0⟩] },
  { reg := .HSTALL, base := 0x13F0040, width := 64, dims := [(256, 4)], fields := [⟨63, 0, .count, 0⟩] },
  { reg := .HQDEPTH, base := 0x13F0048, width := 32, dims := [(256, 4)], fields := [⟨31, 0, .ro, 0⟩] },
  { reg := .HQPEAK, base := 0x13F004C, width := 32, dims := [(256, 4)], fields := [⟨31, 0, .rc, 0⟩] },
  { reg := .HLINKERR, base := 0x13F0050, width := 32, dims := [(256, 4)], fields := [⟨15, 0, .countSat, 0⟩, ⟨31, 16, .countSat, 0⟩] },
  { reg := .HMARKS, base := 0x13F0054, width := 32, dims := [(256, 4)], fields := [⟨31, 0, .count, 0⟩] },
  { reg := .HPORT_STATE, base := 0x13F0058, width := 32, dims := [(256, 4)], fields := [⟨1, 0, .ro, 0⟩, ⟨2, 2, .ro, 0⟩] },
  { reg := .PKT_VC, base := 0x1400000, width := 64, dims := [(65536, 64), (256, 21), (8, 4)], fields := [⟨63, 0, .count, 0⟩] },
  { reg := .BYTE_VC, base := 0x1400020, width := 64, dims := [(65536, 64), (256, 21), (8, 4)], fields := [⟨63, 0, .count, 0⟩] },
  { reg := .STALL, base := 0x1400040, width := 64, dims := [(65536, 64), (256, 21)], fields := [⟨63, 0, .count, 0⟩] },
  { reg := .QDEPTH, base := 0x1400048, width := 32, dims := [(65536, 64), (256, 21)], fields := [⟨31, 0, .ro, 0⟩] },
  { reg := .QPEAK, base := 0x140004C, width := 32, dims := [(65536, 64), (256, 21)], fields := [⟨31, 0, .rc, 0⟩] },
  { reg := .LINKERR, base := 0x1400050, width := 32, dims := [(65536, 64), (256, 21)], fields := [⟨15, 0, .countSat, 0⟩, ⟨31, 16, .countSat, 0⟩] },
  { reg := .MARKS, base := 0x1400054, width := 32, dims := [(65536, 64), (256, 21)], fields := [⟨31, 0, .count, 0⟩] },
  { reg := .PORT_STATE, base := 0x1400058, width := 32, dims := [(65536, 64), (256, 21)], fields := [⟨1, 0, .ro, 0⟩, ⟨2, 2, .ro, 0⟩] },
  { reg := .TT_TIME, base := 0x1800000, width := 64, dims := [], fields := [⟨63, 0, .ro, 0⟩] },
  { reg := .TT_TIME_FRAC, base := 0x1800008, width := 32, dims := [], fields := [⟨15, 0, .ro, 0⟩] },
  { reg := .TT_SET, base := 0x1800010, width := 64, dims := [], fields := [⟨63, 0, .wo, 0⟩] },
  { reg := .TT_SRC_CFG, base := 0x1800018, width := 32, dims := [], fields := [⟨1, 0, .rw, 0⟩, ⟨2, 2, .rw, 0⟩, ⟨8, 3, .rw, 0⟩, ⟨9, 9, .rw, 0⟩, ⟨17, 10, .rw, 0⟩] },
  { reg := .TT_SERVO, base := 0x180001C, width := 32, dims := [], fields := [⟨15, 0, .rw, 1000⟩, ⟨31, 16, .rw, 8⟩] },
  { reg := .TT_SLEW, base := 0x1800020, width := 32, dims := [], fields := [⟨9, 0, .rw, 100⟩] },
  { reg := .TT_OFFSET, base := 0x1800024, width := 32, dims := [], fields := [⟨31, 0, .ro, 0⟩] },
  { reg := .TT_RATE, base := 0x1800028, width := 32, dims := [], fields := [⟨31, 0, .ro, 0⟩] }]

/-- Part 5 of the register map. -/
def regTable5 : List RegInfo := [
  { reg := .TT_STATUS, base := 0x180002C, width := 32, dims := [], fields := [⟨2, 0, .ro, 0⟩, ⟨3, 3, .ro, 0⟩, ⟨31, 16, .ro, 0⟩] },
  { reg := .TT_PPS_CFG, base := 0x1800030, width := 32, dims := [], fields := [⟨0, 0, .rw, 0⟩, ⟨15, 8, .rw, 100⟩, ⟨31, 16, .rw, 0⟩] },
  { reg := .TT_BEAT_CFG, base := 0x1800040, width := 32, dims := [], fields := [⟨17, 0, .rw, 4⟩] },
  { reg := .TT_BEAT_EPOCH, base := 0x1800048, width := 64, dims := [], fields := [⟨63, 0, .rw, 0⟩] },
  { reg := .TT_BEAT, base := 0x1800050, width := 64, dims := [], fields := [⟨63, 0, .ro, 0⟩] },
  { reg := .TT_EVT, base := 0x1800060, width := 32, dims := [], fields := [⟨0, 0, .w1c, 0⟩, ⟨1, 1, .w1c, 0⟩, ⟨2, 2, .w1c, 0⟩, ⟨3, 3, .w1c, 0⟩, ⟨4, 4, .w1c, 0⟩, ⟨5, 5, .w1c, 0⟩, ⟨6, 6, .w1c, 0⟩, ⟨7, 7, .w1c, 0⟩, ⟨8, 8, .w1c, 0⟩, ⟨9, 9, .w1c, 0⟩, ⟨10, 10, .w1c, 0⟩, ⟨11, 11, .w1c, 0⟩, ⟨12, 12, .w1c, 0⟩] },
  { reg := .TT_EVT_EN, base := 0x1800064, width := 32, dims := [], fields := [⟨12, 0, .rw, 0⟩] },
  { reg := .TIME_JUMP_CNT, base := 0x1800068, width := 32, dims := [], fields := [⟨31, 0, .countSat, 0⟩] },
  { reg := .TTI_STATE, base := 0x1900000, width := 32, dims := [(4096, 64)], fields := [⟨2, 0, .ro, 0⟩, ⟨12, 8, .ro, 0⟩, ⟨31, 16, .ro, 0⟩] },
  { reg := .TTI_B0, base := 0x1900008, width := 64, dims := [(4096, 64)], fields := [⟨63, 0, .ro, 0⟩] },
  { reg := .TTI_PERIOD, base := 0x1900010, width := 32, dims := [(4096, 64)], fields := [⟨15, 0, .ro, 0⟩, ⟨28, 16, .ro, 0⟩] },
  { reg := .TTI_NSTEPS, base := 0x1900018, width := 64, dims := [(4096, 64)], fields := [⟨63, 0, .ro, 0⟩] },
  { reg := .TTI_STEP, base := 0x1900020, width := 64, dims := [(4096, 64)], fields := [⟨63, 0, .ro, 0⟩] },
  { reg := .TTI_SLACK, base := 0x1900028, width := 32, dims := [(4096, 64)], fields := [⟨31, 0, .ro, 4294967295⟩] },
  { reg := .TTI_STOP_BEAT, base := 0x1900030, width := 64, dims := [(4096, 64)], fields := [⟨63, 0, .ro, 18446744073709551615⟩] },
  { reg := .TTI_CNT, base := 0x1900040, width := 32, dims := [(4096, 64), (4, 9)], fields := [⟨31, 0, .countSat, 0⟩] },
  { reg := .TTI_GRP, base := 0x1900100, width := 64, dims := [(4096, 64), (8, 16)], fields := [⟨2, 0, .ro, 0⟩, ⟨5, 3, .ro, 0⟩, ⟨63, 16, .ro, 0⟩] },
  { reg := .FT_CTRL, base := 0x2000000, width := 32, dims := [], fields := [⟨0, 0, .rw, 0⟩, ⟨1, 1, .rw, 1⟩, ⟨2, 2, .rw, 1⟩] },
  { reg := .FT_UDP, base := 0x2000004, width := 32, dims := [], fields := [⟨15, 0, .rw, 61212⟩, ⟨23, 16, .rw, 64⟩] },
  { reg := .FT_RL_CFG, base := 0x2000008, width := 32, dims := [], fields := [⟨15, 0, .rw, 4000⟩, ⟨19, 16, .rw, 4⟩, ⟨27, 20, .rw, 8⟩] },
  { reg := .FT_RL_MIN, base := 0x200000C, width := 32, dims := [], fields := [⟨7, 0, .rw, 4⟩] },
  { reg := .FT_ACK_CFG, base := 0x2000010, width := 32, dims := [], fields := [⟨7, 0, .rw, 4⟩, ⟨31, 16, .rw, 1000⟩] },
  { reg := .FT_RTO_CFG, base := 0x2000014, width := 32, dims := [], fields := [⟨15, 0, .rw, 20⟩, ⟨31, 16, .rw, 2000⟩] },
  { reg := .FT_RETRY_CFG, base := 0x2000018, width := 32, dims := [], fields := [⟨3, 0, .rw, 7⟩, ⟨7, 4, .rw, 7⟩, ⟨31, 16, .rw, 10⟩] }]

/-- Part 6 of the register map. -/
def regTable6 : List RegInfo := [
  { reg := .FT_CFG, base := 0x200001C, width := 32, dims := [], fields := [⟨15, 0, .rw, 10⟩, ⟨29, 16, .rw, 4096⟩] },
  { reg := .FT_STATUS, base := 0x2000020, width := 32, dims := [], fields := [⟨17, 0, .ro, 0⟩, ⟨31, 18, .ro, 0⟩] },
  { reg := .FT_WIN_USED, base := 0x2000024, width := 32, dims := [], fields := [⟨20, 0, .ro, 0⟩] },
  { reg := .FT_HDR_CNT, base := 0x2000028, width := 64, dims := [], fields := [⟨63, 0, .count, 0⟩] },
  { reg := .FT_CACHE_MISS_CNT, base := 0x2000030, width := 64, dims := [], fields := [⟨63, 0, .count, 0⟩] },
  { reg := .FT_EVT, base := 0x2000040, width := 32, dims := [], fields := [⟨0, 0, .w1c, 0⟩, ⟨1, 1, .w1c, 0⟩, ⟨2, 2, .w1c, 0⟩, ⟨3, 3, .w1c, 0⟩] },
  { reg := .FT_EVT_EN, base := 0x2000044, width := 32, dims := [], fields := [⟨3, 0, .rw, 0⟩] },
  { reg := .FT_DROP_HDR_CNT, base := 0x2000048, width := 32, dims := [], fields := [⟨31, 0, .countSat, 0⟩] },
  { reg := .FT_DROP_CONN_CNT, base := 0x200004C, width := 32, dims := [], fields := [⟨31, 0, .countSat, 0⟩] },
  { reg := .FT_DROP_SEQ_CNT, base := 0x2000050, width := 32, dims := [], fields := [⟨31, 0, .countSat, 0⟩] },
  { reg := .FT_CRC_ERR_CNT, base := 0x2000054, width := 32, dims := [], fields := [⟨31, 0, .countSat, 0⟩] },
  { reg := .FT_DUP_CNT, base := 0x2000058, width := 32, dims := [], fields := [⟨31, 0, .countSat, 0⟩] },
  { reg := .FT_RETX_CNT, base := 0x200005C, width := 32, dims := [], fields := [⟨31, 0, .countSat, 0⟩] },
  { reg := .FT_TIMEOUT_CNT, base := 0x2000060, width := 32, dims := [], fields := [⟨31, 0, .countSat, 0⟩] },
  { reg := .FT_WIN_REFUSED_CNT, base := 0x2000064, width := 32, dims := [], fields := [⟨31, 0, .countSat, 0⟩] },
  { reg := .FT_WIN_EXPIRED_CNT, base := 0x2000068, width := 32, dims := [], fields := [⟨31, 0, .countSat, 0⟩] },
  { reg := .FT_CANCEL_LATE_CNT, base := 0x200006C, width := 32, dims := [], fields := [⟨31, 0, .countSat, 0⟩] },
  { reg := .FT_REORDER_DROP_CNT, base := 0x2000070, width := 32, dims := [], fields := [⟨31, 0, .countSat, 0⟩] },
  { reg := .FT_RCNT, base := 0x2010000, width := 32, dims := [(4, 16384)], fields := [⟨31, 0, .count, 0⟩] },
  { reg := .FTI_CFG, base := 0x2100000, width := 32, dims := [(4096, 64)], fields := [⟨7, 0, .rw, 1⟩] },
  { reg := .FTI_RCNT, base := 0x2100004, width := 32, dims := [(4096, 64)], fields := [⟨13, 0, .ro, 0⟩, ⟨30, 16, .ro, 0⟩] },
  { reg := .FTI_INFLIGHT, base := 0x2100008, width := 32, dims := [(4096, 64)], fields := [⟨17, 0, .ro, 0⟩] },
  { reg := .FTI_WIN, base := 0x210000C, width := 32, dims := [(4096, 64)], fields := [⟨20, 0, .ro, 0⟩] },
  { reg := .FTC_STATE, base := 0x2200000, width := 32, dims := [(32, 65536)], fields := [⟨2, 0, .ro, 0⟩, ⟨8, 3, .ro, 0⟩, ⟨9, 9, .ro, 0⟩, ⟨15, 10, .ro, 0⟩, ⟨31, 16, .ro, 0⟩] }]

/-- Part 7 of the register map. -/
def regTable7 : List RegInfo := [
  { reg := .FTC_PEER, base := 0x2200004, width := 32, dims := [(32, 65536)], fields := [⟨11, 0, .ro, 0⟩, ⟨31, 16, .ro, 0⟩] },
  { reg := .FTC_RATE, base := 0x2200008, width := 32, dims := [(32, 65536)], fields := [⟨15, 0, .ro, 0⟩, ⟨31, 16, .ro, 0⟩] },
  { reg := .FTC_TX_DSN, base := 0x220000C, width := 32, dims := [(32, 65536)], fields := [⟨31, 0, .ro, 0⟩] },
  { reg := .FTC_RX_CDSN, base := 0x2200010, width := 32, dims := [(32, 65536)], fields := [⟨31, 0, .ro, 0⟩] },
  { reg := .FTC_OUT, base := 0x2200014, width := 32, dims := [(32, 65536)], fields := [⟨8, 0, .ro, 0⟩, ⟨22, 16, .ro, 0⟩] },
  { reg := .FTC_RETX, base := 0x2200018, width := 32, dims := [(32, 65536)], fields := [⟨31, 0, .countSat, 0⟩] },
  { reg := .PORT_CFG, base := 0x2800000, width := 32, dims := [(65536, 8)], fields := [⟨1, 0, .rw, 0⟩, ⟨2, 2, .rw, 0⟩] },
  { reg := .PORT_STATUS, base := 0x2800004, width := 32, dims := [(65536, 8)], fields := [⟨7, 0, .ro, 0⟩, ⟨8, 8, .ro, 0⟩] },
  { reg := .PORT_OVH, base := 0x2800008, width := 32, dims := [(65536, 8)], fields := [⟨5, 0, .rw, 20⟩] },
  { reg := .PORT_HOLD, base := 0x280000C, width := 32, dims := [(65536, 8)], fields := [⟨7, 0, .rw, 10⟩] },
  { reg := .PORT_PWD, base := 0x2800010, width := 32, dims := [(65536, 8)], fields := [⟨15, 0, .rw, 100⟩, ⟨16, 16, .rw, 0⟩, ⟨31, 24, .rw, 100⟩] },
  { reg := .PORT_FEC_THR, base := 0x2800014, width := 32, dims := [(65536, 8)], fields := [⟨23, 0, .rw, 16000⟩] },
  { reg := .PTP_LAT, base := 0x2800018, width := 32, dims := [(65536, 8)], fields := [⟨15, 0, .rw, 0⟩, ⟨31, 16, .rw, 0⟩] },
  { reg := .PORT_EVT, base := 0x2800040, width := 32, dims := [(65536, 8)], fields := [⟨0, 0, .w1c, 0⟩, ⟨1, 1, .w1c, 0⟩] },
  { reg := .PORT_EVT_EN, base := 0x2800044, width := 32, dims := [(65536, 8)], fields := [⟨1, 0, .rw, 0⟩] },
  { reg := .LP_CFG, base := 0x2801000, width := 32, dims := [(65536, 8), (2048, 8)], fields := [⟨0, 0, .rw, 0⟩, ⟨1, 1, .rw, 0⟩, ⟨2, 2, .rw, 1⟩, ⟨4, 3, .rw, 0⟩, ⟨5, 5, .rw, 0⟩, ⟨8, 6, .rw, 0⟩] },
  { reg := .LP_MAXFR, base := 0x2801004, width := 32, dims := [(65536, 8), (2048, 8)], fields := [⟨13, 0, .rw, 9216⟩] },
  { reg := .LP_STATUS, base := 0x2801008, width := 32, dims := [(65536, 8), (2048, 8)], fields := [⟨2, 0, .ro, 0⟩, ⟨15, 8, .ro, 0⟩, ⟨23, 16, .ro, 0⟩] },
  { reg := .LP_THR, base := 0x280100C, width := 32, dims := [(65536, 8), (2048, 8)], fields := [⟨15, 0, .rw, 256⟩, ⟨31, 16, .rw, 128⟩] },
  { reg := .LP_PAUSE, base := 0x2801010, width := 32, dims := [(65536, 8), (2048, 8)], fields := [⟨15, 0, .rw, 65535⟩, ⟨31, 16, .rw, 128⟩] },
  { reg := .LP_MAC, base := 0x2801018, width := 64, dims := [(65536, 8), (2048, 8)], fields := [⟨47, 0, .rw, 0⟩] },
  { reg := .LP_IP6_LO, base := 0x2801020, width := 64, dims := [(65536, 8), (2048, 8)], fields := [⟨63, 0, .rw, 0⟩] },
  { reg := .LP_IP6_HI, base := 0x2801028, width := 64, dims := [(65536, 8), (2048, 8)], fields := [⟨63, 0, .rw, 0⟩] },
  { reg := .UC, base := 0x2801030, width := 64, dims := [(65536, 8), (2048, 8), (8, 7)], fields := [⟨47, 0, .rw, 0⟩, ⟨48, 48, .rw, 0⟩] }]

/-- Part 8 of the register map. -/
def regTable8 : List RegInfo := [
  { reg := .HASH, base := 0x2801080, width := 32, dims := [(65536, 8), (2048, 8), (4, 16)], fields := [⟨31, 0, .rw, 0⟩] },
  { reg := .DSCP_TC, base := 0x28010C0, width := 32, dims := [(65536, 8), (2048, 8), (4, 8)],
    fields := [⟨2, 0, .rw, 0⟩, ⟨6, 4, .rw, 0⟩, ⟨10, 8, .rw, 0⟩, ⟨14, 12, .rw, 0⟩, ⟨18, 16, .rw, 0⟩, ⟨22, 20, .rw, 0⟩, ⟨26, 24, .rw, 0⟩, ⟨30, 28, .rw, 0⟩] },
  { reg := .METSEL_SYS, base := 0x28010E0, width := 32, dims := [(65536, 8), (2048, 8), (4, 4)],
    fields := [⟨8, 0, .rw, 0⟩, ⟨15, 15, .rw, 0⟩, ⟨24, 16, .rw, 0⟩, ⟨31, 31, .rw, 0⟩] },
  { reg := .LP_EVT, base := 0x28010F0, width := 32, dims := [(65536, 8), (2048, 8)], fields := [⟨0, 0, .w1c, 0⟩, ⟨1, 1, .w1c, 0⟩, ⟨2, 2, .w1c, 0⟩, ⟨3, 3, .w1c, 0⟩, ⟨4, 4, .w1c, 0⟩, ⟨5, 5, .w1c, 0⟩, ⟨6, 6, .w1c, 0⟩, ⟨7, 7, .w1c, 0⟩] },
  { reg := .LP_EVT_EN, base := 0x28010F4, width := 32, dims := [(65536, 8), (2048, 8)], fields := [⟨7, 0, .rw, 0⟩] },
  { reg := .PTP_TXTS_CTL, base := 0x28010F8, width := 32, dims := [(65536, 8), (2048, 8)], fields := [⟨0, 0, .w1s, 0⟩] },
  { reg := .PTP_TXTS_ID, base := 0x28010FC, width := 32, dims := [(65536, 8), (2048, 8)], fields := [⟨15, 0, .ro, 0⟩, ⟨19, 16, .ro, 0⟩, ⟨31, 31, .ro, 0⟩] },
  { reg := .PTP_TXTS_NS, base := 0x2801100, width := 64, dims := [(65536, 8), (2048, 8)], fields := [⟨63, 0, .ro, 0⟩] },
  { reg := .RX_FRAMES, base := 0x2801108, width := 64, dims := [(65536, 8), (2048, 8)], fields := [⟨63, 0, .count, 0⟩] },
  { reg := .RX_BYTES, base := 0x2801110, width := 64, dims := [(65536, 8), (2048, 8)], fields := [⟨63, 0, .count, 0⟩] },
  { reg := .TX_FRAMES, base := 0x2801118, width := 64, dims := [(65536, 8), (2048, 8)], fields := [⟨63, 0, .count, 0⟩] },
  { reg := .TX_BYTES, base := 0x2801120, width := 64, dims := [(65536, 8), (2048, 8)], fields := [⟨63, 0, .count, 0⟩] },
  { reg := .RX_FCS_ERR, base := 0x2801128, width := 32, dims := [(65536, 8), (2048, 8)], fields := [⟨31, 0, .countSat, 0⟩] },
  { reg := .RX_LEN_ERR, base := 0x280112C, width := 32, dims := [(65536, 8), (2048, 8)], fields := [⟨31, 0, .countSat, 0⟩] },
  { reg := .RX_FILTER_DROP, base := 0x2801130, width := 32, dims := [(65536, 8), (2048, 8)], fields := [⟨31, 0, .countSat, 0⟩] },
  { reg := .RX_CSUM_DROP, base := 0x2801134, width := 32, dims := [(65536, 8), (2048, 8)], fields := [⟨31, 0, .countSat, 0⟩] },
  { reg := .RX_NOBUF_DROP, base := 0x2801138, width := 32, dims := [(65536, 8), (2048, 8)], fields := [⟨31, 0, .countSat, 0⟩] },
  { reg := .RX_METER_DROP, base := 0x280113C, width := 32, dims := [(65536, 8), (2048, 8)], fields := [⟨31, 0, .countSat, 0⟩] },
  { reg := .TX_HELD, base := 0x2801140, width := 32, dims := [(65536, 8), (2048, 8)], fields := [⟨31, 0, .countSat, 0⟩] },
  { reg := .TX_NOTREADY_DROP, base := 0x2801144, width := 32, dims := [(65536, 8), (2048, 8)], fields := [⟨31, 0, .countSat, 0⟩] },
  { reg := .TX_SHED, base := 0x2801148, width := 32, dims := [(65536, 8), (2048, 8)], fields := [⟨31, 0, .countSat, 0⟩] },
  { reg := .TX_ECN_MARK, base := 0x280114C, width := 32, dims := [(65536, 8), (2048, 8)], fields := [⟨31, 0, .countSat, 0⟩] },
  { reg := .PWD_BREAK_CNT, base := 0x2801150, width := 32, dims := [(65536, 8), (2048, 8)], fields := [⟨31, 0, .countSat, 0⟩] },
  { reg := .PWD_IGNORED, base := 0x2801154, width := 32, dims := [(65536, 8), (2048, 8)], fields := [⟨31, 0, .countSat, 0⟩] }]

/-- Part 9 of the register map. -/
def regTable9 : List RegInfo := [
  { reg := .FEC_CORR_CW, base := 0x2801158, width := 32, dims := [(65536, 8), (2048, 8)], fields := [⟨31, 0, .countSat, 0⟩] },
  { reg := .FEC_UNCORR_CW, base := 0x280115C, width := 32, dims := [(65536, 8), (2048, 8)], fields := [⟨31, 0, .countSat, 0⟩] },
  { reg := .FEC_SYM_ERR, base := 0x2801160, width := 32, dims := [(65536, 8), (2048, 8)], fields := [⟨31, 0, .countSat, 0⟩] },
  { reg := .PAUSE_RX, base := 0x2801180, width := 32, dims := [(65536, 8), (2048, 8), (4, 8)], fields := [⟨31, 0, .countSat, 0⟩] },
  { reg := .PAUSE_TX, base := 0x28011A0, width := 32, dims := [(65536, 8), (2048, 8), (4, 8)], fields := [⟨31, 0, .countSat, 0⟩] },
  { reg := .METSEL, base := 0x2801400, width := 32, dims := [(65536, 8), (2048, 8), (4, 256)],
    fields := [⟨8, 0, .rw, 0⟩, ⟨15, 15, .rw, 0⟩, ⟨24, 16, .rw, 0⟩, ⟨31, 31, .rw, 0⟩] },
  { reg := .EQ_CFG, base := 0x2805000, width := 32, dims := [(65536, 8), (256, 8), (4, 64)], fields := [⟨2, 0, .rw, 0⟩, ⟨9, 4, .rw, 0⟩, ⟨10, 10, .rw, 0⟩, ⟨31, 16, .rw, 9216⟩] },
  { reg := .EQ_DEPTH, base := 0x2805800, width := 32, dims := [(65536, 8), (256, 8), (4, 64)], fields := [⟨20, 0, .ro, 0⟩] },
  { reg := .MTR_CIR, base := 0x2808000, width := 32, dims := [(65536, 8), (32, 512)], fields := [⟨23, 0, .rw, 0⟩] },
  { reg := .MTR_PIR, base := 0x2808004, width := 32, dims := [(65536, 8), (32, 512)], fields := [⟨23, 0, .rw, 0⟩] },
  { reg := .MTR_BS, base := 0x2808008, width := 32, dims := [(65536, 8), (32, 512)], fields := [⟨15, 0, .rw, 0⟩, ⟨31, 16, .rw, 0⟩] },
  { reg := .MTR_CTL, base := 0x280800C, width := 32, dims := [(65536, 8), (32, 512)], fields := [⟨0, 0, .rw, 0⟩, ⟨2, 1, .rw, 0⟩, ⟨4, 3, .rw, 1⟩, ⟨6, 5, .rw, 2⟩] },
  { reg := .MTR_GREEN, base := 0x2808010, width := 32, dims := [(65536, 8), (32, 512)], fields := [⟨31, 0, .countSat, 0⟩] },
  { reg := .MTR_YELLOW, base := 0x2808014, width := 32, dims := [(65536, 8), (32, 512)], fields := [⟨31, 0, .countSat, 0⟩] },
  { reg := .MTR_RED, base := 0x2808018, width := 32, dims := [(65536, 8), (32, 512)], fields := [⟨31, 0, .countSat, 0⟩] },
  { reg := .CIP_CTRL, base := 0x3000000, width := 32, dims := [], fields := [⟨0, 0, .rw, 0⟩] },
  { reg := .CIP_STATUS, base := 0x3000004, width := 32, dims := [], fields := [⟨12, 0, .ro, 0⟩, ⟨22, 16, .ro, 0⟩, ⟨23, 23, .ro, 0⟩, ⟨24, 24, .ro, 0⟩] },
  { reg := .CIP_DRK_ID, base := 0x3000008, width := 64, dims := [], fields := [⟨63, 0, .ro, 0⟩] },
  { reg := .CIP_PIPE_BUSY, base := 0x3000010, width := 32, dims := [], fields := [⟨15, 0, .ro, 0⟩] },
  { reg := .CIP_EVT, base := 0x3000040, width := 32, dims := [], fields := [⟨0, 0, .w1c, 0⟩, ⟨1, 1, .w1c, 0⟩, ⟨2, 2, .w1c, 0⟩] },
  { reg := .CIP_EVT_EN, base := 0x3000044, width := 32, dims := [], fields := [⟨2, 0, .rw, 0⟩] },
  { reg := .CIP_AUTH_FAIL_CNT, base := 0x3000048, width := 32, dims := [], fields := [⟨31, 0, .countSat, 0⟩] },
  { reg := .CIP_UNWRAP_FAIL_CNT, base := 0x300004C, width := 32, dims := [], fields := [⟨31, 0, .countSat, 0⟩] },
  { reg := .CIP_TX_BYTES, base := 0x3000050, width := 64, dims := [], fields := [⟨63, 0, .count, 0⟩] }]

/-- Part 10 of the register map. -/
def regTable10 : List RegInfo := [
  { reg := .CIP_RX_BYTES, base := 0x3000058, width := 64, dims := [], fields := [⟨63, 0, .count, 0⟩] },
  { reg := .CIPI_KEK, base := 0x3100000, width := 32, dims := [(4096, 64)], fields := [⟨0, 0, .ro, 0⟩] },
  { reg := .CIPI_SLOTS, base := 0x3100004, width := 32, dims := [(4096, 64)], fields := [⟨11, 0, .ro, 0⟩, ⟨28, 16, .ro, 0⟩] },
  { reg := .SLOT_STATE, base := 0x3180000, width := 32, dims := [(16, 4096)], fields := [⟨1, 0, .ro, 0⟩, ⟨7, 2, .ro, 0⟩, ⟨8, 8, .ro, 0⟩, ⟨31, 16, .ro, 0⟩] },
  { reg := .SLOT_AUTHF, base := 0x3180004, width := 32, dims := [(16, 4096)], fields := [⟨31, 0, .countSat, 0⟩] },
  { reg := .SLOT_LOADS, base := 0x3180008, width := 32, dims := [(16, 4096)], fields := [⟨31, 0, .countSat, 0⟩] },
  { reg := .COL_CFG, base := 0x3200000, width := 32, dims := [], fields := [⟨4, 0, .rw, 16⟩, ⟨15, 8, .rw, 16⟩] },
  { reg := .COL_STATUS, base := 0x3200004, width := 32, dims := [], fields := [⟨10, 0, .ro, 0⟩, ⟨30, 16, .ro, 16384⟩] },
  { reg := .COL_EVT, base := 0x3200040, width := 32, dims := [], fields := [⟨0, 0, .w1c, 0⟩, ⟨1, 1, .w1c, 0⟩, ⟨2, 2, .w1c, 0⟩, ⟨3, 3, .w1c, 0⟩, ⟨4, 4, .w1c, 0⟩] },
  { reg := .COL_EVT_EN, base := 0x3200044, width := 32, dims := [], fields := [⟨4, 0, .rw, 0⟩] },
  { reg := .LATE_CONTRIB_CNT, base := 0x3200048, width := 32, dims := [], fields := [⟨31, 0, .countSat, 0⟩] },
  { reg := .DUP_CONTRIB_CNT, base := 0x320004C, width := 32, dims := [], fields := [⟨31, 0, .countSat, 0⟩] },
  { reg := .PEER_DROP_CNT, base := 0x3200050, width := 32, dims := [], fields := [⟨31, 0, .countSat, 0⟩] },
  { reg := .COLI_CFG, base := 0x3300000, width := 32, dims := [(4096, 64)], fields := [⟨0, 0, .rw, 0⟩] },
  { reg := .COLI_STATUS, base := 0x3300004, width := 32, dims := [(4096, 64)], fields := [⟨10, 0, .ro, 0⟩] },
  { reg := .COLC_STATE, base := 0x3380000, width := 32, dims := [(64, 1024)], fields := [⟨1, 0, .ro, 0⟩, ⟨7, 2, .ro, 0⟩, ⟨10, 8, .ro, 0⟩, ⟨14, 11, .ro, 0⟩, ⟨16, 15, .ro, 0⟩] },
  { reg := .COLC_GCTX, base := 0x3380004, width := 32, dims := [(64, 1024)], fields := [⟨31, 0, .ro, 0⟩] },
  { reg := .COLC_RND, base := 0x3380008, width := 64, dims := [(64, 1024)], fields := [⟨63, 0, .ro, 0⟩] },
  { reg := .COLC_DONE, base := 0x3380010, width := 64, dims := [(64, 1024)], fields := [⟨63, 0, .count, 0⟩] },
  { reg := .COLC_PARTIAL, base := 0x3380018, width := 32, dims := [(64, 1024)], fields := [⟨31, 0, .countSat, 0⟩] },
  { reg := .COLC_STAGE, base := 0x338001C, width := 32, dims := [(64, 1024)], fields := [⟨14, 0, .ro, 0⟩] },
  { reg := .INS_CFG, base := 0x3400000, width := 32, dims := [], fields := [⟨15, 0, .rw, 100⟩] },
  { reg := .INS_STATUS, base := 0x3400004, width := 32, dims := [], fields := [⟨6, 0, .ro, 0⟩, ⟨22, 16, .ro, 64⟩] },
  { reg := .INS_FREE_CONN, base := 0x3400008, width := 32, dims := [], fields := [⟨20, 0, .ro, 65536⟩] }]

/-- Part 11 of the register map. -/
def regTable11 : List RegInfo := [
  { reg := .INS_FREE_WIN, base := 0x340000C, width := 32, dims := [], fields := [⟨20, 0, .ro, 1048576⟩] },
  { reg := .INS_FREE_TTE, base := 0x3400010, width := 32, dims := [], fields := [⟨20, 0, .ro, 65536⟩] },
  { reg := .INS_FREE_COLL, base := 0x3400014, width := 32, dims := [], fields := [⟨20, 0, .ro, 1024⟩] },
  { reg := .INS_REGION, base := 0x3400100, width := 32, dims := [(4, 64)], fields := [⟨5, 0, .ro, 0⟩, ⟨6, 6, .ro, 0⟩, ⟨7, 7, .ro, 0⟩] },
  { reg := .INSI_STATE, base := 0x3500000, width := 32, dims := [(4096, 64)], fields := [⟨2, 0, .ro, 0⟩, ⟨8, 3, .ro, 0⟩, ⟨15, 9, .ro, 0⟩, ⟨31, 16, .ro, 0⟩] },
  { reg := .INSI_PASID, base := 0x3500004, width := 32, dims := [(4096, 64)], fields := [⟨19, 0, .ro, 0⟩] },
  { reg := .INSI_HA_BASE, base := 0x3500008, width := 64, dims := [(4096, 64)], fields := [⟨63, 0, .ro, 0⟩] },
  { reg := .INSI_APER, base := 0x3500010, width := 32, dims := [(4096, 64)], fields := [⟨27, 0, .ro, 0⟩] },
  { reg := .INSI_LAT_DEF, base := 0x3500014, width := 32, dims := [(4096, 64)], fields := [⟨31, 0, .ro, 0⟩] },
  { reg := .INSI_LAT, base := 0x3500018, width := 32, dims := [(4096, 64)], fields := [⟨31, 0, .ro, 0⟩] },
  { reg := .INSI_CONN, base := 0x3500020, width := 64, dims := [(4096, 64)], fields := [⟨16, 0, .ro, 0⟩, ⟨48, 32, .ro, 0⟩] },
  { reg := .INSI_WIN, base := 0x3500028, width := 64, dims := [(4096, 64)], fields := [⟨20, 0, .ro, 0⟩, ⟨52, 32, .ro, 0⟩] },
  { reg := .INSI_TTE, base := 0x3500030, width := 64, dims := [(4096, 64)], fields := [⟨16, 0, .ro, 0⟩, ⟨48, 32, .ro, 0⟩] },
  { reg := .INSI_COLL, base := 0x3500038, width := 64, dims := [(4096, 64)], fields := [⟨10, 0, .ro, 0⟩, ⟨42, 32, .ro, 0⟩] },
  { reg := .INSI_MTR, base := 0x3500040, width := 32, dims := [(4096, 64)], fields := [⟨8, 0, .ro, 0⟩, ⟨25, 16, .ro, 0⟩] },
  { reg := .INSI_EQ, base := 0x3500044, width := 32, dims := [(4096, 64)], fields := [⟨5, 0, .ro, 0⟩] },
  { reg := .INSI_RMAP, base := 0x3500100, width := 32, dims := [(4096, 64), (4, 64)], fields := [⟨15, 0, .ro, 0⟩] },
  { reg := .INSI_EVT, base := 0x3500200, width := 32, dims := [(4096, 64)], fields := [⟨0, 0, .w1c, 0⟩, ⟨1, 1, .w1c, 0⟩, ⟨2, 2, .w1c, 0⟩, ⟨3, 3, .w1c, 0⟩, ⟨4, 4, .w1c, 0⟩, ⟨5, 5, .w1c, 0⟩] },
  { reg := .INSI_EVT_EN, base := 0x3500204, width := 32, dims := [(4096, 64)], fields := [⟨5, 0, .rw, 0⟩] },
  { reg := .INSI_GEN_DROP_CNT, base := 0x3500208, width := 32, dims := [(4096, 64)], fields := [⟨31, 0, .countSat, 0⟩] },
  { reg := .INSI_TAG_DROP_CNT, base := 0x350020C, width := 32, dims := [(4096, 64)], fields := [⟨31, 0, .countSat, 0⟩] },
  { reg := .INSI_DIRTY, base := 0x3500210, width := 32, dims := [(4096, 64)], fields := [⟨0, 0, .ro, 0⟩, ⟨1, 1, .ro, 0⟩, ⟨2, 2, .ro, 0⟩] },
  { reg := .INSI_EPOCH, base := 0x3500214, width := 32, dims := [(4096, 64)], fields := [⟨31, 0, .ro, 0⟩] },
  { reg := .INSI_RESET_CNT, base := 0x3500218, width := 32, dims := [(4096, 64)], fields := [⟨31, 0, .countSat, 0⟩] }]

/-- Part 12 of the register map. -/
def regTable12 : List RegInfo := [
  { reg := .REL_CFG, base := 0x3600000, width := 32, dims := [], fields := [⟨1, 0, .rw, 2⟩, ⟨2, 2, .rw, 1⟩, ⟨3, 3, .rw, 1⟩, ⟨4, 4, .rw, 1⟩] },
  { reg := .REL_TEST_CFG, base := 0x3600004, width := 32, dims := [], fields := [⟨7, 0, .rw, 24⟩, ⟨15, 8, .rw, 72⟩] },
  { reg := .REL_HIST_CFG, base := 0x3600008, width := 32, dims := [], fields := [⟨3, 0, .rw, 3⟩, ⟨11, 4, .rw, 30⟩, ⟨31, 16, .rw, 64⟩] },
  { reg := .REL_STATUS, base := 0x3600010, width := 64, dims := [], fields := [⟨10, 0, .ro, 0⟩, ⟨30, 16, .ro, 0⟩, ⟨31, 31, .ro, 0⟩, ⟨46, 32, .ro, 0⟩, ⟨47, 47, .ro, 0⟩, ⟨62, 48, .ro, 0⟩] },
  { reg := .REL_FATAL, base := 0x3600018, width := 32, dims := [], fields := [⟨0, 0, .ro, 0⟩, ⟨1, 1, .ro, 0⟩, ⟨2, 2, .ro, 0⟩, ⟨3, 3, .ro, 0⟩, ⟨4, 4, .ro, 0⟩, ⟨5, 5, .ro, 0⟩] },
  { reg := .REL_EVT, base := 0x3600040, width := 32, dims := [], fields := [⟨0, 0, .w1c, 0⟩, ⟨1, 1, .w1c, 0⟩, ⟨2, 2, .w1c, 0⟩, ⟨3, 3, .w1c, 0⟩, ⟨4, 4, .w1c, 0⟩, ⟨5, 5, .w1c, 0⟩, ⟨6, 6, .w1c, 0⟩, ⟨7, 7, .w1c, 0⟩, ⟨8, 8, .w1c, 0⟩, ⟨9, 9, .w1c, 0⟩, ⟨10, 10, .w1c, 0⟩, ⟨11, 11, .w1c, 0⟩, ⟨12, 12, .w1c, 0⟩, ⟨13, 13, .w1c, 0⟩, ⟨14, 14, .w1c, 0⟩, ⟨15, 15, .w1c, 0⟩, ⟨16, 16, .w1c, 0⟩, ⟨17, 17, .w1c, 0⟩, ⟨18, 18, .w1c, 0⟩] },
  { reg := .REL_EVT_EN, base := 0x3600044, width := 32, dims := [], fields := [⟨14, 0, .rw, 0⟩, ⟨16, 15, .ro, 3⟩, ⟨17, 17, .rw, 0⟩, ⟨18, 18, .ro, 1⟩] },
  { reg := .REL_LOG_PROD, base := 0x3600048, width := 32, dims := [], fields := [⟨31, 0, .ro, 0⟩] },
  { reg := .REL_LOG_CONS, base := 0x360004C, width := 32, dims := [], fields := [⟨31, 0, .rw, 0⟩] },
  { reg := .REL_LOST, base := 0x3600050, width := 32, dims := [], fields := [⟨15, 0, .countSat, 0⟩, ⟨18, 16, .status, 0⟩] },
  { reg := .REL_PEND, base := 0x3600054, width := 32, dims := [], fields := [⟨5, 0, .ro, 0⟩, ⟨8, 6, .ro, 0⟩, ⟨9, 9, .ro, 0⟩] },
  { reg := .REL_FORCE, base := 0x3600080, width := 32, dims := [], fields := [⟨19, 0, .rw, 0⟩, ⟨21, 20, .rw, 0⟩, ⟨31, 31, .w1s, 0⟩] },
  { reg := .REL_RPT, base := 0x3600088, width := 64, dims := [], fields := [⟨0, 0, .ro, 0⟩, ⟨1, 1, .ro, 0⟩, ⟨4, 2, .ro, 0⟩, ⟨31, 16, .ro, 61213⟩, ⟨63, 32, .ro, 0⟩] },
  { reg := .REL_HQ_UNIT, base := 0x3600090, width := 32, dims := [], fields := [⟨23, 0, .rw, 0⟩] },
  { reg := .REL_HQ_RES, base := 0x3600094, width := 32, dims := [], fields := [⟨3, 0, .ro, 0⟩, ⟨4, 4, .ro, 0⟩, ⟨5, 5, .ro, 0⟩] },
  { reg := .REL_CNT, base := 0x3600100, width := 32, dims := [(4, 11)], fields := [⟨31, 0, .countSat, 0⟩] },
  { reg := .REL_LOG, base := 0x3601000, width := 64, dims := [(32, 64), (8, 4)], fields := [⟨63, 0, .ro, 0⟩] },
  { reg := .CL_PMAP, base := 0x3700000, width := 32, dims := [(64, 1024), (4, 4)], fields := [⟨31, 0, .ro, 0⟩] },
  { reg := .CL_ROLE, base := 0x3700010, width := 64, dims := [(64, 1024)], fields := [⟨33, 0, .ro, 0⟩] },
  { reg := .CL_EPOCH, base := 0x3700018, width := 32, dims := [(64, 1024)], fields := [⟨15, 0, .ro, 0⟩] },
  { reg := .CL_FAULT, base := 0x370001C, width := 32, dims := [(64, 1024)], fields := [⟨31, 0, .countSat, 0⟩] },
  { reg := .REL_CORE, base := 0x3740000, width := 64, dims := [(8, 17408)], fields := [⟨15, 0, .ro, 0⟩, ⟨19, 16, .ro, 0⟩, ⟨20, 20, .ro, 0⟩, ⟨21, 21, .ro, 0⟩, ⟨22, 22, .ro, 0⟩, ⟨23, 23, .ro, 0⟩, ⟨47, 32, .ro, 0⟩] },
  { reg := .HRM_DATA, base := 0x3800000, width := 64, dims := [], fields := [⟨31, 0, .rc, 0⟩, ⟨32, 32, .rc, 0⟩, ⟨33, 33, .rc, 0⟩] },
  { reg := .HRM_STATUS, base := 0x3800008, width := 32, dims := [], fields := [⟨9, 0, .ro, 0⟩, ⟨24, 16, .ro, 0⟩, ⟨25, 25, .ro, 0⟩] }]

/-- Part 13 of the register map. -/
def regTable13 : List RegInfo := [
  { reg := .HRM_NOTICES, base := 0x380000C, width := 32, dims := [], fields := [⟨31, 0, .count, 0⟩] },
  { reg := .MBXC_STATUS, base := 0x3900000, width := 32, dims := [(4, 16384)], fields := [⟨6, 0, .ro, 0⟩, ⟨12, 7, .ro, 0⟩, ⟨18, 13, .ro, 0⟩] },
  { reg := .BBR_WORD, base := 0x3F00000, width := 32, dims := [(4, 256)], fields := [⟨31, 0, .rw, 0⟩] },
  { reg := .BBR_STATUS, base := 0x3F00800, width := 32, dims := [], fields := [⟨0, 0, .ro, 0⟩, ⟨1, 1, .ro, 0⟩, ⟨15, 8, .ro, 0⟩] },
  { reg := .VMSIX_ADDR, base := 0x100110000, width := 64, dims := [(1048576, 63), (16, 64)], fields := [⟨63, 0, .rw, 0⟩] },
  { reg := .VMSIX_DATA, base := 0x100110008, width := 32, dims := [(1048576, 63), (16, 64)], fields := [⟨31, 0, .rw, 0⟩] },
  { reg := .VMSIX_CTL, base := 0x10011000C, width := 32, dims := [(1048576, 63), (16, 64)], fields := [⟨0, 0, .rw, 1⟩] },
  { reg := .VPBA, base := 0x100110400, width := 64, dims := [(1048576, 63)], fields := [⟨63, 0, .ro, 0⟩] },
  { reg := .VMOD_CFG, base := 0x100110800, width := 32, dims := [(1048576, 63), (8, 64)], fields := [⟨7, 0, .rw, 1⟩, ⟨17, 8, .rw, 0⟩] },
  { reg := .VMOD_STATUS, base := 0x100110804, width := 32, dims := [(1048576, 63), (8, 64)], fields := [⟨7, 0, .ro, 0⟩, ⟨8, 8, .ro, 0⟩] },
  { reg := .VF_CAUSE, base := 0x100110C00, width := 32, dims := [(1048576, 63)], fields := [⟨0, 0, .w1c, 0⟩, ⟨1, 1, .w1c, 0⟩, ⟨2, 2, .w1c, 0⟩] },
  { reg := .VF_CAUSE_EN, base := 0x100110C04, width := 32, dims := [(1048576, 63)], fields := [⟨2, 0, .rw, 0⟩] },
  { reg := .VF_CAUSE_VEC, base := 0x100110C08, width := 32, dims := [(1048576, 63), (4, 3)], fields := [⟨5, 0, .rw, 0⟩] },
  { reg := .VHRM_DATA, base := 0x100130000, width := 64, dims := [(1048576, 63)], fields := [⟨31, 0, .rc, 0⟩, ⟨32, 32, .rc, 0⟩, ⟨33, 33, .rc, 0⟩] },
  { reg := .VHRM_STATUS, base := 0x100130008, width := 32, dims := [(1048576, 63)], fields := [⟨9, 0, .ro, 0⟩, ⟨24, 16, .ro, 0⟩, ⟨25, 25, .ro, 0⟩] },
  { reg := .VHRM_NOTICES, base := 0x10013000C, width := 32, dims := [(1048576, 63)], fields := [⟨31, 0, .count, 0⟩] },
  { reg := .VFS_ID, base := 0x100140000, width := 32, dims := [(1048576, 63)], fields := [⟨5, 0, .ro, 0⟩, ⟨6, 6, .ro, 0⟩, ⟨31, 16, .ro, 0⟩] },
  { reg := .FTC_SEL, base := 0x100145000, width := 32, dims := [(1048576, 63)], fields := [⟨15, 0, .rw, 0⟩] },
  { reg := .EMU_STATUS, base := 0x200000000, width := 32, dims := [], fields := [⟨0, 0, .ro, 0⟩, ⟨1, 1, .w1c, 0⟩, ⟨2, 2, .ro, 0⟩, ⟨24, 16, .ro, 0⟩] },
  { reg := .EMU_WR_SEQ, base := 0x200000004, width := 32, dims := [], fields := [⟨31, 0, .ro, 0⟩] },
  { reg := .EMU_DONE_SEQ, base := 0x200000008, width := 32, dims := [], fields := [⟨31, 0, .ro, 0⟩] },
  { reg := .EMU_HEARTBEAT, base := 0x20000000C, width := 32, dims := [], fields := [⟨31, 0, .ro, 0⟩] },
  { reg := .EMU_FW_VER, base := 0x200001000, width := 32, dims := [], fields := [⟨31, 0, .ro, 0⟩] },
  { reg := .EMU_FW_BUILD, base := 0x200001004, width := 32, dims := [], fields := [⟨31, 0, .ro, 0⟩] }]

/-- Part 14 of the register map. -/
def regTable14 : List RegInfo := [
  { reg := .EMU_ROLLBACK_MIN, base := 0x200001008, width := 32, dims := [], fields := [⟨31, 0, .ro, 0⟩] },
  { reg := .EMU_API_VER, base := 0x20000100C, width := 32, dims := [], fields := [⟨31, 0, .ro, 0⟩] },
  { reg := .EMU_DRV_VER, base := 0x200001010, width := 32, dims := [], fields := [⟨31, 0, .rw, 0⟩] },
  { reg := .EMU_SCRATCH, base := 0x200001040, width := 32, dims := [(4, 16)], fields := [⟨31, 0, .rw, 0⟩] }]

/-- The whole register map. -/
def regTable : List RegInfo :=
  regTable0 ++ regTable1 ++ regTable2 ++ regTable3 ++ regTable4 ++ regTable5 ++ regTable6 ++ regTable7 ++ regTable8 ++ regTable9 ++ regTable10 ++ regTable11 ++ regTable12 ++ regTable13 ++ regTable14

end Sys2Proof.Machine
end

