-- ==== Sys2Proof/Machine/RegOps.lean ====
section
/-! DEFINITION. Reading and writing the stored fields of hardware registers (R21 to R25). -/

namespace Sys2Proof.Machine

/-- The map entry of a register. -/
def regInfo (r : Reg) : RegInfo :=
  (regTable.find? (fun i => i.reg == r)).getD { reg := r, base := 0, width := 32, dims := [], fields := [] }

/-- Elements of a register array. -/
def RegInfo.count (i : RegInfo) : Nat := i.dims.foldl (fun n d => n * d.2) 1

/-- The byte offset of element `i` of a register array, the innermost dimension counting fastest. -/
def dimOffset : List (Nat × Nat) → Nat → Nat
  | [], _ => 0
  | (st, n) :: t, i =>
    let inner := t.foldl (fun m d => m * d.2) 1
    i / inner % n * st + dimOffset t (i % inner)

/-- The byte address of a register (BAR as in RegInfo). -/
def regAddr (r : Reg) (i : Nat) : Nat := (regInfo r).base + dimOffset (regInfo r).dims i

/-- The value of a register after power-on reset (R21). A fused field reads its constant of Config; a battery-backed word and
the fields of the Tutoby image are 0 until they are written (DESIGN CHOICE, log entry 5); DSCP_TC[k] holds k in every field (R301). -/
def regReset (r : Reg) (i : Nat) : Word :=
  match r with
  | .LP_MAC => (Config.macBase + BitVec.ofNat 48 i).zeroExtend 64
  | .DSCP_TC => BitVec.ofNat 64 (i % 8 * 0x11111111)
  | .GLB_POSRST => 0
  | _ => BitVec.ofNat 64 ((regInfo r).fields.foldl (fun n f => n + f.reset * 2 ^ f.lo) 0)

/-- The stored value of a register. -/
def Blk.reg (s : Blk) (r : Reg) (i : Nat := 0) : Word := tblGet (regReset r i) (r, i) s.regs

/-- Store a register. -/
def Blk.setReg (s : Blk) (r : Reg) (i : Nat) (v : Word) : Blk := { s with regs := tblSet (r, i) v s.regs }

/-- A stored field. -/
def Blk.getF (s : Blk) (f : Fld) (i : Nat := 0) : Nat := bits (s.reg f.reg i).toNat f.hi f.lo

/-- Store a field. -/
def Blk.setF (s : Blk) (f : Fld) (i v : Nat) : Blk :=
  s.setReg f.reg i (BitVec.ofNat 64 (putBits (s.reg f.reg i).toNat f.hi f.lo v))

/-- Is a one-bit field 1? -/
def Blk.flag (s : Blk) (f : Fld) (i : Nat := 0) : Bool := s.getF f i != 0

/-- The access type of the field that holds bit `b` of a register; none for RSVD. -/
def accAt (r : Reg) (b : Nat) : Option FieldInfo :=
  (regInfo r).fields.find? (fun f => decide (f.lo ≤ b) && decide (b ≤ f.hi))

/-- A counter field counts `n`: it wraps, or saturates where its description says so (R25). -/
def Blk.countBy (s : Blk) (f : Fld) (i n : Nat) : Blk :=
  let w := f.hi + 1 - f.lo
  let v := s.getF f i + n
  let sat : Bool := match accAt f.reg f.lo with
    | some x => x.acc == .countSat
    | none => false
  s.setF f i (if sat then min v (2 ^ w - 1) else v % 2 ^ w)

/-- A counter counts one. -/
def Blk.count (s : Blk) (f : Fld) (i : Nat := 0) : Blk := s.countBy f i 1

/-- Set bit `b` of a stored register. -/
def Blk.setBit (s : Blk) (r : Reg) (i b : Nat) : Blk := s.setReg r i (s.reg r i ||| (BitVec.ofNat 64 (2 ^ b)))

/-- A clock domain locks or loses lock (CLK_LOCK, R450, R461; DEDUCED, log entry 37). -/
def Blk.setLock (s : Blk) (d : Nat) (on : Bool) : Blk :=
  let v := (s.reg .CLK_LOCK (d / 32)).toNat
  s.setReg .CLK_LOCK (d / 32) (BitVec.ofNat 64 (putBits v (d % 32) (d % 32) (if on then 1 else 0)))

/-- Bit `b` of a stored register. -/
def Blk.bitR (s : Blk) (r : Reg) (i b : Nat) : Bool := (s.reg r i).toNat.testBit b

end Sys2Proof.Machine
end

