-- ==== Sys2Proof/Machine/Ops.lean ====
section
/-! DEFINITION. The shared operations of the device: status codes, errors and the log's capture, interrupt requests, host
writes, completions and replies. -/

namespace Sys2Proof.Machine

/-! ## Status codes (R383) -/

/-- The status codes. -/
inductive Status where
  | ok | okLate | partialFail | badDesc | badOpcode | noResource | genStale | tooLate | authFail | noTime | hostFault
  | lockBusy | lockSelf | lockNotHeld | badLock | abandoned | aborted | cancelled | flushed | stopped | timeJump
  | linkNotReady | retryExceeded | rnrExceeded | remoteAccess | windowExpired | remoteInvalid
  | overrun | inputLate | stepSkipped | depFailed | stepFailed | replayLost | threadFault
  deriving DecidableEq, Repr

/-- The 16-bit code of a status. -/
def Status.code : Status → Nat
  | .ok => 0x0000 | .okLate => 0x0001 | .partialFail => 0x0002 | .badDesc => 0x0100 | .badOpcode => 0x0101
  | .noResource => 0x0102 | .genStale => 0x0103 | .tooLate => 0x0104 | .authFail => 0x0105 | .noTime => 0x0106
  | .hostFault => 0x0107 | .lockBusy => 0x0200 | .lockSelf => 0x0201 | .lockNotHeld => 0x0202 | .badLock => 0x0203
  | .abandoned => 0x0204 | .aborted => 0x0300 | .cancelled => 0x0301 | .flushed => 0x0302 | .stopped => 0x0303
  | .timeJump => 0x0304 | .linkNotReady => 0x0400 | .retryExceeded => 0x0401 | .rnrExceeded => 0x0402
  | .remoteAccess => 0x0403 | .windowExpired => 0x0404 | .remoteInvalid => 0x0405 | .overrun => 0x0500
  | .inputLate => 0x0501 | .stepSkipped => 0x0502 | .depFailed => 0x0503 | .stepFailed => 0x0504
  | .replayLost => 0x0505 | .threadFault => 0x0506

/-! ## Output and free values -/

/-- Send one thing out of the device. -/
def Blk.emit (s : Blk) (o : Out) : Blk := { s with out := s.out ++ [o] }

/-- Draw the next free value's number. -/
def Blk.drawFree (s : Blk) : Blk := { s with fresh := s.fresh + 1 }
/-- `n` free values have been drawn. -/
def Blk.drawN (s : Blk) (n : Nat) : Blk := { s with fresh := s.fresh + n }

/-! ## Instances and functions -/

/-- One instance. -/
def Blk.inst (s : Blk) (i : Nat) : Inst := tblGet {} i s.ins
def Blk.setInst (s : Blk) (i : Nat) (x : Inst) : Blk := { s with ins := tblSet i x s.ins }
def Blk.modInst (s : Blk) (i : Nat) (f : Inst → Inst) : Blk := s.setInst i (f (s.inst i))

/-- The instance that owns a region, if one does (R14). -/
def Blk.ownerOf (s : Blk) (r : Nat) : Option Nat := tblFind r s.owner

/-- The function of an instance: its bound VF, else the PF (R391). -/
def Blk.fnOfInst (s : Blk) (i : Nat) : Nat := (s.inst i).vf

/-- One PCIe function's state. -/
def Blk.fn (s : Blk) (f : Nat) : Fn := tblGet {} f s.fns
def Blk.modFn (s : Blk) (f : Nat) (g : Fn → Fn) : Blk := { s with fns := tblSet f (g (s.fn f)) s.fns }

/-- The instance that a VF is bound to. -/
def Blk.instOfVf (s : Blk) (v : Nat) : Option Nat :=
  (s.ins.find? (fun p => p.2.vf == v && p.2.st != .free && decide (v ≠ 0))).map (·.1)

/-! ## MSI-X (R349 to R352) -/

/-- One vector. -/
def Blk.vec (s : Blk) (f v : Nat) : Vec := tblGet {} (f, v) s.vecs
def Blk.modVec (s : Blk) (f v : Nat) (g : Vec → Vec) : Blk := { s with vecs := tblSet (f, v) (g (s.vec f v)) s.vecs }

/-- The per-vector mask bit of the MSI-X table. -/
def Blk.vecMasked (s : Blk) (f v : Nat) : Bool :=
  if f = 0 then s.flag F.MSIX_CTL_MASK v else s.flag F.VMSIX_CTL_MASK ((f - 1) * 64 + v)

/-- The address and data of a vector's message. -/
def Blk.vecMsg (s : Blk) (f v : Nat) : Nat × Nat :=
  if f = 0 then ((s.reg .MSIX_ADDR v).toNat, (s.reg .MSIX_DATA v).toNat)
  else ((s.reg .VMSIX_ADDR ((f - 1) * 64 + v)).toNat, (s.reg .VMSIX_DATA ((f - 1) * 64 + v)).toNat)

/-- May the function's vector send (R352)? -/
def Blk.vecOpen (s : Blk) (f v : Nat) : Bool := (s.fn f).msixEn && !(s.fn f).fnMask && !(s.vecMasked f v)

/-- Set PME_Status and signal PM_PME and WAKE_N when PME is enabled (R352). -/
def Blk.signalPme (s : Blk) (f : Nat) : Blk :=
  let s1 := s.modFn f (fun x => { x with pmeStatus := true, wake := x.wake || x.pmeEn })
  if (s.fn f).pmeEn then s1.emit (.pme f) else s1

/-- Send a vector's message, by the state of its function and of the link (R352). -/
def Blk.sendMsi (s : Blk) (f v : Nat) : Blk :=
  if (s.fn f).d3 then (s.modVec f v (fun x => { x with pba := true })).signalPme f
  else if !(s.vecOpen f v) then s.modVec f v (fun x => { x with pba := true })
  else if s.link.active && s.link.lps == .l0 then
    let m := s.vecMsg f v
    (s.modVec f v (fun x => { x with pba := false })).emit (.msix f v m.1 m.2)
  else if s.link.waitL0.contains (f, v) then s
  else { s with link := { s.link with waitL0 := s.link.waitL0 ++ [(f, v)] } }

/-- A vector's count or timer has been reached: deliver (R351). -/
def Blk.deliverVec (s : Blk) (f v : Nat) : Blk :=
  (s.modVec f v (fun x => { x with cnt := 0, timerRun := false })).sendMsi f v

/-- The moderation settings of a vector: CNT_THR with 0 as 1, TIMER_US up to 1,000 (R351). -/
def Blk.modCfg (s : Blk) (f v : Nat) : Nat × Nat :=
  let c := if f = 0 then s.getF F.MOD_CFG_CNT_THR v else s.getF F.VMOD_CFG_CNT_THR ((f - 1) * 64 + v)
  let t := if f = 0 then s.getF F.MOD_CFG_TIMER_US v else s.getF F.VMOD_CFG_TIMER_US ((f - 1) * 64 + v)
  (max c 1, min t 1000)

/-- A request to a vector (R351). -/
def Blk.request (s : Blk) (f v : Nat) : Blk :=
  let c := s.modCfg f v
  let s1 := s.modVec f v (fun x => { x with cnt := x.cnt + 1, timerRun := true, thr := c.1, timerUs := c.2 })
  if (s1.vec f v).cnt ≥ c.1 ∨ c.2 = 0 then s1.deliverVec f v else s1

/-- Latch a cause of the PF and raise its request when the cause is enabled (R350, R359; DESIGN CHOICE, log entry 42). -/
def Blk.latch (s : Blk) (c : Nat) : Blk :=
  let s1 := s.setBit .IRQ_CAUSE 0 c
  if s.bitR .IRQ_CAUSE_EN 0 c then s1.request 0 (s.getF F.IRQ_CAUSE_VEC_VEC c) else s1

/-- Latch a cause of a VF (R360). -/
def Blk.latchVf (s : Blk) (v c : Nat) : Blk :=
  let s1 := s.setBit .VF_CAUSE (v - 1) c
  if s.bitR .VF_CAUSE_EN (v - 1) c then s1.request v (s.getF F.VF_CAUSE_VEC_VEC ((v - 1) * 3 + c)) else s1

/-! ## Errors (R431 to R438) -/

/-- Source codes of R433. -/
inductive Src where
  | glb | pwr | clk | hl | que | fab | tt | ft | eth | cip | col | ins | rel
  deriving DecidableEq, Repr

/-- The SRC byte of a log entry. -/
def Src.code : Src → Nat
  | .glb => 1 | .pwr => 2 | .clk => 3 | .hl => 4 | .que => 5 | .fab => 6 | .tt => 7 | .ft => 8 | .eth => 9
  | .cip => 10 | .col => 11 | .ins => 12 | .rel => 13

/-- The event register, its enable register and the PF cause of a source. -/
def Src.regs : Src → Reg × Reg × Option Nat
  | .glb => (.GLB_EVT, .GLB_EVT_EN, some 9)
  | .pwr => (.PWR_EVT, .PWR_EVT_EN, some 9)
  | .clk => (.CLK_EVT, .CLK_EVT_EN, some 9)
  | .hl => (.HL_EVT, .HL_EVT_EN, some 11)
  | .que => (.QUE_EVT, .QUE_EVT_EN, some 1)
  | .fab => (.FAB_EVT, .FAB_EVT_EN, some 2)
  | .tt => (.TT_EVT, .TT_EVT_EN, some 3)
  | .ft => (.FT_EVT, .FT_EVT_EN, some 5)
  | .eth => (.PORT_EVT, .PORT_EVT_EN, some 6)
  | .cip => (.CIP_EVT, .CIP_EVT_EN, some 7)
  | .col => (.COL_EVT, .COL_EVT_EN, some 4)
  | .ins => (.INSI_EVT, .INSI_EVT_EN, some 10)
  | .rel => (.REL_EVT, .REL_EVT_EN, none)

/-- What an error concerns: instance, unit, INFO0 and INFO1 of R433. -/
structure Info where
  inst : Nat := 0xFF
  unit : Nat := 0xFFFFFF
  info0 : Nat := 0
  info1 : Nat := 0
  /-- The event is one of a logical port's LP_EVT. -/
  lp : Bool := false
  deriving DecidableEq, Repr

/-- The 32 bytes of a log entry (R433). -/
def ErrItem.bytes (e : ErrItem) : List Byte :=
  toLe 4 e.seq ++ toLe 1 e.sev ++ toLe 1 e.src ++ toLe 1 e.bit ++ toLe 1 e.inst ++ toLe 4 e.unit ++ toLe 4 e.info0 ++
    toLe 8 e.time ++ toLe 8 e.info1

/-- The 32 bytes of a log entry with each field big-endian (R436). -/
def ErrItem.beBytes (e : ErrItem) : List Byte :=
  toBe 4 e.seq ++ toBe 1 e.sev ++ toBe 1 e.src ++ toBe 1 e.bit ++ toBe 1 e.inst ++ toBe 4 e.unit ++ toBe 4 e.info0 ++
    toBe 8 e.time ++ toBe 8 e.info1

/-- The mnemonics of the events of a source, by bit number (R199, R230, R254, R288, R315, R316, R332, R358, R388, R410, R438, R459 to R461);
those of LP_EVT where `lp`. -/
def eventNames (src : Nat) (lp : Bool) : List String :=
  match src with
  | 1 => ["BOOT_FAIL", "TUTOBY_UP", "SVC_READY", "POS_RESET_DONE"]
  | 2 => ["THROTTLE", "CAP_HIT", "THERM_HOT", "THERM_TRIP", "VIN_RANGE"]
  | 3 => ["REF_LOST", "REF_RESTORED", "PLL_UNLOCK"]
  | 4 => ["HL_DOWNTRAIN", "HL_RETRAIN", "HDM_BIAS_VIOL", "PEER_REFUSED", "EMU_WRITE_LOST"]
  | 5 => ["QUEUE_ERROR", "CQ_FULL", "CQ_DROPPED", "STALE_CPL", "CFG_BAD"]
  | 6 => ["FABRIC_LINK_RETRY", "FABRIC_LINK_FAILED", "FABRIC_DROP_INST", "FABRIC_DROP_ROUTE", "DISC_DONE", "DISC_CONFLICT", "DISC_OVERFLOW",
      "DISC_NEWLINK", "FWD_DROP"]
  | 7 => ["TIME_LOCKED", "TIME_UNLOCK", "TIME_HOLDOVER", "TIME_LOST", "TIME_JUMP", "TIME_SET_REFUSED", "BEAT_CFG_BAD", "STEP_OVERRUN",
      "INPUT_LATE", "STEP_SKIPPED", "HELD_WRITE", "TEST_SLOT_SKIPPED", "TT_HALTED"]
  | 8 => ["FT_CONN_ERROR", "FT_WIN_REFUSED", "FT_DROP", "FT_REORDER_FULL"]
  | 9 => if lp then ["LINK_UP", "LINK_DOWN", "LINK_NOT_READY", "PAUSE_BROKEN", "PAUSE_RESTORED", "FEC_DEGRADED", "TS_OVF", "RX_NOBUF"]
      else ["MODE_REFUSED", "CAL_DONE"]
  | 10 => ["AUTH_FAIL", "UNWRAP_FAIL", "SELFTEST_ERR"]
  | 11 => ["COLL_PARTIAL", "COLL_TIMEOUT", "COLL_ABORTED", "COLL_OVF", "COLL_BADIDX"]
  | 12 => ["RESET_DONE", "FREEZE_DONE", "FREEZE_CUT", "DIRTY_OUTSIDE", "GEN_DROP", "TAG_DROP"]
  | _ => ["THREAD_FAULT", "REPLAY", "REPLAY_FAILED", "POS_SUSPECT", "PLACE_MOVED", "CORE_RETIRED", "RETIRE_ADVISED", "NO_SPARE", "POS_UNSERVED",
      "TEST_FAIL", "TEST_OVERDUE", "ECC_CE", "ECC_UE", "SCRUB_CHECK", "EPOCH_DROP", "HOST_APERTURE_FAULT", "REG_ACCESS_BAD", "HIST_WRITE_FAIL",
      "FATAL"]

/-- The MessageId of an entry's Redfish event, and its Severity (R437). -/
def ErrItem.messageId (e : ErrItem) : String := "HokuorFR8.1.0." ++ (eventNames e.src e.lp).getD e.bit ""
def ErrItem.severity (e : ErrItem) : String := if e.sev ≤ 1 then "OK" else if e.sev = 2 then "Warning" else "Critical"

/-- The DEVNUM that a report carries (R436). -/
def Blk.rptDev (s : Blk) : Nat := if s.flag F.DEV_ID_VALID then s.getF F.DEV_ID_DEVNUM else 0xFFFF

/-- The UDP payload of a Sideboard report (R436): KIND 0 an entry, 1 a heartbeat. -/
def Blk.rptBytes (s : Blk) (kind : Nat) (entry : List Byte) : List Byte :=
  toBe 4 0x46525231 ++ toBe 1 1 ++ toBe 1 kind ++ toBe 2 56 ++ toBe 8 Config.fabUid.toNat ++ toBe 2 s.rptDev ++
    toBe 2 s.rel.rptSeq ++ toBe 4 0 ++ entry

/-- The Sideboard reports an entry, or its heartbeat where there is none (R435 to R437): kept among the last 256, sent by UDP and pushed by
Redfish to every subscriber where they are on. -/
def Blk.report (s : Blk) (e : Option ErrItem) : Blk :=
  let kind := if e.isSome then 0 else 1
  let entry := match e with
    | some x => x.beBytes
    | none => List.replicate 32 0
  let b := s.rptBytes kind entry
  let r := s.rel
  let s1 := { s with rel := { r with
    reports := (r.reports ++ [b]).drop (r.reports.length + 1 - 256),
    rptSeq := (r.rptSeq + 1) % 2 ^ 16,
    sent := (r.sent + b2n (r.udpEn || (r.redfishEn && kind == 0))) % 2 ^ 32 } }
  let s2 := if r.udpEn then s1.emit (.udp b) else s1
  match e with
  | some x => if r.redfishEn then r.subs.foldl (fun t _ => t.emit (.redfish x.messageId x.severity entry)) s2 else s2
  | none => s2

/-- The Sideboard receives an entry and reports it when its severity is MIN_SEV or above, or when it is a REL event (R435). -/
def Blk.toSideboard (s : Blk) (e : ErrItem) : Blk :=
  if e.sev ≥ s.rel.minSev ∨ e.src = Src.rel.code then s.report (some e) else s

/-- An error lost to a full queue or a full log (R432, R433). -/
def Blk.lostErr (s : Blk) (sev : Nat) : Blk :=
  (s.count F.REL_LOST_LOST_COUNT).setF F.REL_LOST_LOST_SEV 0 (max sev (s.getF F.REL_LOST_LOST_SEV))

/-- The entry of an error detected now (R433). -/
def Blk.mkErr (s : Blk) (sev : Nat) (src : Src) (bit : Nat) (i : Info) : ErrItem :=
  { seq := s.rel.seq, sev := sev, src := src.code, bit := bit, inst := i.inst,
    unit := i.unit, info0 := i.info0, time := s.time.ns, info1 := i.info1, lp := i.lp }

/-- Capture an error: it takes the next SEQ and enters the pending queue (R432). After a FATAL error it goes to the
Sideboard only (R434). -/
def Blk.capture (s : Blk) (sev : Nat) (src : Src) (bit : Nat) (i : Info) : Blk :=
  let e := s.mkErr sev src bit i
  let s1 := { s with rel := { s.rel with seq := (s.rel.seq + 1) % 2 ^ 32 } }
  if s.rel.fatal then s1.toSideboard e
  else if s.rel.pend.length ≥ 32 then s1.lostErr sev
  else { s1 with rel := { s1.rel with pend := s1.rel.pend ++ [e] } }

/-- Put an error behind those of a higher severity, and behind those of its severity and of no higher source code. -/
def insErr (e : ErrItem) : List ErrItem → List ErrItem
  | [] => [e]
  | x :: t => if x.sev < e.sev ∨ (x.sev = e.sev ∧ e.src < x.src) then e :: x :: t else x :: insErr e t

/-- What `f` captures it captures in one cycle: by severity, then by source code (R432; DEDUCED, log entry 94). -/
def Blk.inCycle (f : Blk → Blk) (s : Blk) : Blk :=
  let t := f s
  let n := s.rel.pend.length
  let new := t.rel.pend.drop n
  { t with rel := { t.rel with
    pend := t.rel.pend.take n ++ List.zipWith (fun e x => { e with seq := x.seq }) (new.foldl (fun l e => insErr e l) []) new } }

/-- Set an event bit of a source. An enabled bit that goes from 0 to 1 latches the source's cause (R350); an enabled event is
captured for the host error log (NOTICE, R431). -/
def Blk.event (s : Blk) (src : Src) (idx bit : Nat) (i : Info := {}) : Blk :=
  let (evt, en, cause) := src.regs
  let was := s.bitR evt idx bit
  let on := s.bitR en idx bit
  let s1 := s.setBit evt idx bit
  let s2 := match cause with
    | some c => if on && !was then s1.latch c else s1
    | none => s1
  if on then s2.capture 0 src bit i else s2

/-- An event of a logical port (LP_EVT), whose cause is ETH. -/
def Blk.lpEvent (s : Blk) (idx bit : Nat) : Blk :=
  let i : Info := { info0 := idx / 8 + idx % 8 * 8, lp := true }
  let was := s.bitR .LP_EVT idx bit
  let on := s.bitR .LP_EVT_EN idx bit
  let s1 := s.setBit .LP_EVT idx bit
  let s2 := if on && !was then s1.latch 6 else s1
  if on then s2.capture 0 .eth bit i else s2

/-- The severities of the REL events (R438). -/
def relSev (bit : Nat) : Nat :=
  if bit ∈ [1, 3, 4, 5, 9] then 2
  else if bit ∈ [2, 8, 12, 13, 15] then 3
  else if bit = 11 then 1
  else if bit = 18 then 4
  else 0

/-- Bits of REL_EVT by name. -/
def relThreadFault : Nat := 0
def relReplay : Nat := 1
def relReplayFailed : Nat := 2
def relPosSuspect : Nat := 3
def relPlaceMoved : Nat := 4
def relCoreRetired : Nat := 5
def relRetireAdvised : Nat := 6
def relNoSpare : Nat := 7
def relPosUnserved : Nat := 8
def relTestFail : Nat := 9
def relTestOverdue : Nat := 10
def relEccCe : Nat := 11
def relEccUe : Nat := 12
def relScrubCheck : Nat := 13
def relEpochDrop : Nat := 14
def relHostAper : Nat := 15
def relRegBad : Nat := 16
def relHistFail : Nat := 17
def relFatal : Nat := 18

/-- Raise a REL event (R438): an enabled one is captured, bits 15, 16 and 18 always are; the others reach only the Sideboard
(R435). -/
def Blk.relEvent (s : Blk) (bit : Nat) (i : Info := {}) : Blk :=
  let s1 := s.setBit .REL_EVT 0 bit
  if s.bitR .REL_EVT_EN 0 bit ∨ bit ∈ [15, 16, 18] then s1.capture (relSev bit) .rel bit i
  else s1.toSideboard (s.mkErr (relSev bit) .rel bit i)

/-- Events of an instance (INSI_EVT): any bit set latches INST_EVT of the bound VF (R410). -/
def Blk.insEvent (s : Blk) (inst bit : Nat) : Blk :=
  let s1 := s.event .ins inst bit { inst := inst }
  let v := (s.inst inst).vf
  if v ≠ 0 then s1.latchVf v 1 else s1

/-! ## Host writes (R135, R141, R403) -/

/-- Mark a host page of an instance whose dirty logging is on, and write the bitmap's word first (R403). -/
def Blk.markPage (s : Blk) (i page : Nat) : Blk :=
  let x := s.inst i
  if page < x.logPages then
    let pages := if x.pages.contains page then x.pages else page :: x.pages
    let base := if x.activeMap then x.hmapB else x.hmapA
    let word := page / 64
    let v := pages.foldl (fun n p => if p / 64 = word then n + 2 ^ (p % 64) else n) 0
    (s.setInst i { x with pages := pages }).emit (.hostWrite none (base + 8 * word) (toLe 8 v))
  else (s.setInst i { x with outside := true }).insEvent i 3

/-- A posted write to host memory, for an instance or for the PF. -/
def Blk.hostWrite (s : Blk) (i : Option Nat) (addr : Nat) (data : List Byte) : Blk :=
  match i with
  | none => s.emit (.hostWrite none addr data)
  | some i =>
    let x := s.inst i
    let s1 := if x.dirtyOn ∧ data ≠ [] then
        let first := addr / 4096
        let last := (addr + data.length - 1) / 4096
        forL (List.range (last + 1 - first)) (fun k t =>
          let p := (first + k) * 4096
          if p < x.logBase then (t.modInst i (fun y => { y with outside := true })).insEvent i 3
          else t.markPage i ((p - x.logBase) / 4096)) s
      else s
    s1.emit (.hostWrite (some x.pasid) addr data)

/-! ## Queues (R361 to R376) -/

/-- One queue's private state. -/
def Blk.queue (s : Blk) (q : Nat) : Queue := tblGet {} q s.queues
def Blk.setQueue (s : Blk) (q : Nat) (x : Queue) : Blk := { s with queues := tblSet q x s.queues }
def Blk.modQueue (s : Blk) (q : Nat) (f : Queue → Queue) : Blk := s.setQueue q (f (s.queue q))

/-- Who owns a queue: an instance with the base of its range, the PF with the base of QUE_PF, or no one (R361). -/
inductive QOwner where
  | pf (base : Nat)
  | inst (i base : Nat)
  | none
  deriving DecidableEq, Repr

/-- The owner of a global queue number. -/
def Blk.qOwner (s : Blk) (q : Nat) : QOwner :=
  let b := s.getF F.QUE_PF_BASE
  let c := s.getF F.QUE_PF_COUNT
  match s.ins.find? (fun p => p.2.st != .free && decide (p.2.qBase ≤ q) && decide (q < p.2.qBase + p.2.qCount)) with
  | some p => .inst p.1 p.2.qBase
  | none => if b ≤ q ∧ q < b + c then .pf b else .none

/-- The instance of a queue, if it belongs to one. -/
def QOwner.inst? : QOwner → Option Nat
  | .inst i _ => some i
  | _ => Option.none
def QOwner.base : QOwner → Nat
  | .inst _ b => b
  | .pf b => b
  | .none => 0

/-- Entries of a queue. -/
def Blk.qSize (s : Blk) (q : Nat) : Nat := 2 ^ s.getF F.QCFG_LOG2SZ q

/-- QCFG.TYPE by name (R362). -/
def qtJob : Nat := 1
def qtFtSend : Nat := 2
def qtFtRecv : Nat := 3
def qtCpl : Nat := 4
def qtCmd : Nat := 5

/-- The number a queue has within its owner. -/
def Blk.qLocal (s : Blk) (q : Nat) : Nat := q - (s.qOwner q).base

/-- Entries written and not consumed (R376). -/
def Blk.cqUsed (s : Blk) (q : Nat) : Nat :=
  ((s.queue q).prod + 2 ^ 17 - s.getF F.CQ_CONS_CONS q % 2 ^ 17) % 2 ^ 17
def Blk.cqFull (s : Blk) (q : Nat) : Bool := s.cqUsed q == s.qSize q

/-- The current generation of an instance. -/
def Blk.genOf (s : Blk) (i : Nat) : Nat := (s.inst i).gen

/-- A result of an old generation is discarded (R397): a completion entry counts in STALE_CPL_CNT, any other result in
INSI_GEN_DROP_CNT. -/
def Blk.genDrop (s : Blk) (i : Nat) (cpl : Bool) : Blk :=
  let s1 := if cpl then (s.count F.STALE_CPL_CNT_COUNT).event .que 0 3 { inst := i } else s.count F.INSI_GEN_DROP_CNT_COUNT i
  s1.insEvent i 4

/-- A completion that is dropped (R376). -/
def Blk.cqDrop (s : Blk) (i : Nat) : Blk := (s.count F.CQ_DROP_CNT_COUNT).event .que 0 2 { inst := i }

/-- Write one completion entry to a queue that has space: 32 bytes at once with PHASE, then the interrupt request (R350,
R373, R376). -/
def Blk.writeCpl (s : Blk) (q : Nat) (c : Cpl) : Blk :=
  let own := s.qOwner q
  let n := s.qSize q
  let x := s.queue q
  let phase := b2n ((x.prod / n) % 2 == 0)
  let data := BitVec.ofNat 8 phase :: c.data.drop 1
  let s1 := s.hostWrite own.inst? ((s.reg .QBASE q).toNat + 32 * (x.prod % n)) data
  let s2 := s1.modQueue q (fun y => { y with prod := (y.prod + 1) % 2 ^ 17 })
  let s3 := if s2.cqFull q then (s2.modQueue q (fun y => { y with full := true })).event .que 0 1 { inst := c.inst } else s2
  if s.flag F.QCFG_IRQ_EN q then
    let f := match own with
      | .inst i _ => s.fnOfInst i
      | _ => 0
    s3.request f (s.getF F.QCFG_VEC q)
  else s3

/-- A completion for a CPL queue (R376): refused for an old generation or a queue that is not ACTIVE, held while the queue is
full or its function in D3hot (DESIGN CHOICE, log entry 53). -/
def Blk.postCpl (s : Blk) (q : Nat) (c : Cpl) : Blk :=
  let own := s.qOwner q
  let x := s.queue q
  let f := match own with
    | .inst i _ => s.fnOfInst i
    | _ => 0
  if own.inst? = some c.inst ∧ s.genOf c.inst ≠ c.gen then s.genDrop c.inst true
  else if s.getF F.QCFG_TYPE q ≠ qtCpl ∨ x.st ≠ .active then s.cqDrop c.inst
  else if (s.fn f).d3 then
    (s.modFn f (fun y => { y with heldCpl := y.heldCpl ++ [(q, c)] })).signalPme f
  else if x.held ≠ [] ∨ s.cqFull q then
    if !c.fetched ∧ (x.held.filter (fun h => !h.fetched)).length ≥ 256 then s.cqDrop c.inst
    else s.modQueue q (fun y => { y with held := y.held ++ [c] })
  else s.writeCpl q c

/-- Write the held completions of a queue as space allows (R376). -/
def Blk.drainHeld (fuel : Nat) (s : Blk) (q : Nat) : Blk :=
  match fuel with
  | 0 => s
  | k + 1 =>
    let x := s.queue q
    match x.held with
    | [] => s
    | c :: t =>
      if s.cqFull q then s
      else
        let s1 := s.setQueue q { x with held := t }
        let s2 := if s.genOf c.inst ≠ c.gen ∧ (s.qOwner q).inst? = some c.inst then s1.genDrop c.inst true else s1.writeCpl q c
        Blk.drainHeld k s2 q

/-- The 32 bytes of a completion entry with PHASE 0 (R373): CTYPE, STATUS, QID, IDX and the type-specific bytes. -/
def cplBytes (ctype status qid idx : Nat) (rest : List Byte) : List Byte :=
  toLe 1 0 ++ toLe 1 ctype ++ toLe 2 status ++ toLe 2 qid ++ toLe 2 idx ++ slice rest 0 24

/-! ## Replies (R381) -/

/-- One function's reply mailbox. -/
def Blk.hmb (s : Blk) (f : Nat) : MBox := tblGet {} f s.hmbox

/-- A command's reply: words 0 to 2 and its results; it waits for CMD_REPLY. A reply of a command of an old generation is
discarded (R397). -/
def Blk.reply (s : Blk) (c : CmdRef) (st : Status) (results : List Nat) : Blk :=
  if c.inst ≠ 0xFF ∧ s.genOf c.inst ≠ c.gen ∧ c.opcode ≠ 0x12 ∧ c.opcode ≠ 0x10 ∧ c.opcode ≠ 0x11 ∧ st ≠ .aborted then
    { s.genDrop c.inst false with accepted := s.accepted.erase c }
  else
    let w0 := st.code + c.opcode * 2 ^ 16
    let w2 := s.qLocal c.q + c.idx * 2 ^ 16
    { s with replies := s.replies ++ [{ ref := c, words := [w0, c.seq, w2] ++ results }] }

end Sys2Proof.Machine
end

