-- ==== Sys2Proof/Machine/Rel.lean ====
section
/-! DEFINITION. Units, their history, placement and its changes (R416 to R430). -/

namespace Sys2Proof.Machine

/-! ## Placement (R10, R91, R92, R418 to R422) -/

/-- The placement of a cluster (region · 16 + cluster). -/
def Blk.pl (s : Blk) (g : Nat) : Placement := tblGet {} g s.place
def Blk.setPl (s : Blk) (g : Nat) (p : Placement) : Blk := { s with place := tblSet g p s.place }

/-- The physical core that serves a position of the cluster, if one does: Pk for Lk after power-on reset (R10). -/
def Placement.core (p : Placement) (k : Nat) : Option Nat := tblGet (some k) k p.pmap
/-- The role of a physical core: P16 is SPARE after power-on reset (R91). -/
def Placement.role (p : Placement) (c : Nat) : Role := tblGet (if c = 16 then .spare else .serving) c p.roles
/-- The lowest-numbered SPARE core. -/
def Placement.spare (p : Placement) : Option Nat := (List.range 17).find? (fun c => p.role c == .spare)
/-- The position that a physical core serves. -/
def Placement.posOf (p : Placement) (c : Nat) : Option Nat := (List.range 16).find? (fun k => p.core k == some c)
def Placement.setRole (p : Placement) (c : Nat) (r : Role) : Placement := { p with roles := tblSet c r p.roles }

def Blk.cl (s : Blk) (g : Nat) : ClusterSt := tblGet {} g s.clus
def Blk.modCl (s : Blk) (g : Nat) (f : ClusterSt → ClusterSt) : Blk := { s with clus := tblSet g (f (s.cl g)) s.clus }

/-- The current placement epoch of a cluster. -/
def Blk.epoch (s : Blk) (g : Nat) : Nat := (s.pl g).epoch.toNat

/-! ## Units (R416) -/

/-- UNIT of a physical core, a drawer, a package link end, an Ethernet lane and a hub block. -/
def unitCore (g p : Nat) : Nat := 17 * g + p
def unitDrawer (pos : Nat) : Nat := 0x100000 + pos
def unitLink (e : Nat) : Nat := 0x200000 + e
def unitLane (l : Nat) : Nat := 0x300000 + l
def unitHub (h : Nat) : Nat := 0x400000 + h
/-- Is the unit a physical core? -/
def isCoreUnit (u : Nat) : Bool := decide (u < 0x100000)

/-- The history of a unit. -/
def Blk.hist (s : Blk) (u : Nat) : UnitHist := tblGet {} u s.rel.hist
def Blk.modHist (s : Blk) (u : Nat) (f : UnitHist → UnitHist) : Blk :=
  { s with rel := { s.rel with hist := tblSet u (f (s.hist u)) s.rel.hist } }

/-- The Sideboard's time in seconds: the counting battery-backed words when they are valid, else the run time (R429). -/
def Blk.sideSeconds (s : Blk) : Nat :=
  if s.boot.bbrValid then (s.reg .BBR_WORD 40).toNat + (s.reg .BBR_WORD 41).toNat * 2 ^ 32 else s.time.uptime / 1000000000

/-- The Sideboard is to write a unit's history to flash (R429). -/
def Blk.unsave (s : Blk) (u : Nat) : Blk := { s with rel := { s.rel with unsaved := s.rel.unsaved ++ [(u, s.sideSeconds)] } }

/-- EVT_THR and WINDOW_D with 0 read as 1 (R438). -/
def Blk.evtThr (s : Blk) : Nat := max 1 (s.getF F.REL_HIST_CFG_EVT_THR)
def Blk.windowS (s : Blk) : Nat := max 1 (s.getF F.REL_HIST_CFG_WINDOW_D) * 86400

/-- Events of a unit within the window. -/
def Blk.eventsIn (s : Blk) (u : Nat) : Nat :=
  ((s.hist u).events.filter (fun t => decide (s.sideSeconds ≤ t + s.windowS))).length

/-- A cluster is left with no SPARE core: NO_SPARE once (R420). -/
def Blk.checkSpare (s : Blk) (g : Nat) : Blk :=
  if (s.pl g).spare.isSome then s.modCl g (fun c => { c with noSpareRaised := false })
  else if (s.cl g).noSpareRaised then s
  else (s.modCl g (fun c => { c with noSpareRaised := true })).relEvent relNoSpare { unit := unitCore g 16 }

/-- A physical core is retired (R420, R428): a SPARE or UNDER_TEST core leaves service at once; a serving one keeps serving
until a move is possible. The SUSPECT mark of a core whose test ends so goes (R419). -/
def Blk.retireCore (s : Blk) (g p : Nat) : Blk :=
  let pl := s.pl g
  let s1 := match pl.posOf p with
    | some k =>
      ((s.setPl g (pl.setRole p .retired)).modHist (unitCore g p) (fun h => { h with retirePend := true })).modCl g
        (fun c => { c with waiting := if c.waiting.contains k then c.waiting else c.waiting ++ [k] })
    | none => (s.setPl g (pl.setRole p .retired)).modHist (unitCore g p) (fun h =>
      { h with suspect := false, failedOnce := false, returning := false })
  ((s1.unsave (unitCore g p)).relEvent relCoreRetired { unit := unitCore g p }).checkSpare g

/-- Record a history event against a unit (R427) and judge the unit (R428). -/
def Blk.histEvent (s : Blk) (u : Nat) : Blk :=
  let t := s.sideSeconds
  let s1 := s.modHist u (fun h => { h with events := (t :: h.events).take 16 })
  let s2 := s1.unsave u
  if s2.eventsIn u ≥ s2.evtThr then
    if isCoreUnit u then
      let g := u / 17
      let p := u % 17
      if (s2.pl g).role p = .retired then s2
      else if s2.flag F.REL_CFG_RETIRE_EN then s2.retireCore g p
      else (s2.modHist u (fun h => { h with advised := true })).relEvent relRetireAdvised { unit := u }
    else (s2.modHist u (fun h => { h with advised := true })).relEvent relRetireAdvised { unit := u }
  else s2

/-- Counters of REL + 0x100 by index (R438). -/
def relCntCe : Nat := 0
def relCntUe : Nat := 1
def relCntScrub : Nat := 2
def relCntResidue : Nat := 3
def relCntParity : Nat := 4
def relCntReplay : Nat := 5
def relCntEpochDrop : Nat := 6
def relCntTestRun : Nat := 7
def relCntTestFail : Nat := 8
def relCntOverdue : Nat := 9
def relCntDiscardRsp : Nat := 10

/-- A residue or parity check fails in a hub block (R415, R416): 0 the Dresser, 1 the collective engine, 2 the cipher engine. -/
def Blk.hubFault (s : Blk) (h : Nat) : Blk :=
  (s.count F.REL_CNT_COUNT (if h = 1 then relCntResidue else relCntParity)).histEvent (unitHub h)

/-- The unit that holds a memory word: its drawer, or hub SRAM. -/
def unitOfDpa (a : Nat) : Nat := if dpaKind a = .sram then unitDrawer (posOfDpa a) else unitHub 9

/-- FATAL causes by bit of REL_FATAL (R434). -/
def fatalHubSram : Nat := 0
def fatalCtrlCore : Nat := 1
def fatalWatchdog : Nat := 2
def fatalTherm : Nat := 3
def fatalAon : Nat := 4
def fatalHutch : Nat := 5

/-- A FATAL error (R434): its entry is the last that the log receives, when there is room; logging, steps and commands stop;
an uncorrectable internal error is signalled by AER. -/
def Blk.fatal (s : Blk) (cause : Nat) (i : Info := {}) : Blk :=
  let s1 := s.setBit .REL_FATAL 0 cause
  if s.rel.fatal then s1
  else
    let e := s.mkErr 4 .rel relFatal i
    let s2 := (s1.setBit .REL_EVT 0 relFatal).setBit .REL_STATUS 0 31
    let full := decide ((s2.rel.prod + 2 ^ 32 - s2.getF F.REL_LOG_CONS_CONS) % 2 ^ 32 ≥ 64)
    let r := s2.rel
    let s3 := if full then ({ s2 with rel := { r with seq := (r.seq + 1) % 2 ^ 32, fatal := true } }).lostErr 4
      else { s2 with rel := { r with seq := (r.seq + 1) % 2 ^ 32, fatal := true,
                                     log := tblSet (r.prod % 64) e.bytes r.log, prod := (r.prod + 1) % 2 ^ 32 } }
    let s4 := if full then s3 else s3.latch 8
    -- pending errors go to the Sideboard only
    let s5 := { s4 with rel := { s4.rel with pend := [], handling := [] } }
    let s6 := (s4.rel.pend ++ s4.rel.handling.map (·.1)).foldl (fun t x => t.toSideboard x) s5
    (s6.toSideboard e).emit .aer

/-- A read or the scrubber finds an uncorrectable word (R150): logged, counted, one history event of its unit; in the Tutoby
range or the queue and descriptor caches of hub SRAM it is FATAL (R434). -/
def Blk.eccUe (s : Blk) (a : Nat) : Blk :=
  let u := unitOfDpa a
  let s1 := ((s.count F.REL_CNT_COUNT relCntUe).relEvent relEccUe { unit := u, info1 := a }).histEvent u
  if 0x10_0800_0000 ≤ a ∧ a ≤ 0x10_0BFF_FFFF then s1.fatal fatalHubSram { unit := u, info1 := a } else s1

/-- A corrected ECC error (R149): counted; CE_THR of them in one drawer within one hour make a history event (R427). -/
def Blk.eccCe (s : Blk) (a : Nat) : Blk :=
  let u := unitOfDpa a
  let s1 := (s.count F.REL_CNT_COUNT relCntCe).relEvent relEccCe { unit := u, info1 := a }
  let s2 := s1.modHist u (fun h => { h with ceHour := h.ceHour + 1 })
  if (s2.hist u).ceHour = s2.getF F.REL_HIST_CFG_CE_THR ∧ dpaKind a = .sram then s2.histEvent u else s2

/-! ## Region levels and waking (R441 to R444) -/

/-- The level of a region: 0, 1, 2, or 7 for off. -/
def Blk.level (s : Blk) (r : Nat) : Nat := s.getF F.REG_PWR_LEVEL r

/-- In PL3 an access, a job entry, an FT packet to be placed or a collective round starts the device's exit (R444). -/
def Blk.wakeDevice (s : Blk) : Blk :=
  if s.power.dev = 3 ∧ !s.power.devExit then { s with power := { s.power with devExit := true } } else s

/-- An access to a region in PL1 or PL2 starts its exit; an access in PL3 starts the device's (R443, R444). -/
def Blk.wake (s : Blk) (r : Nat) : Blk :=
  let s1 := s.wakeDevice
  if (s.level r = 1 ∨ s.level r = 2) ∧ !(s.power.exiting.contains r) then
    { s1 with power := { s1.power with exiting := s1.power.exiting ++ [r] } }
  else s1

/-- A region that an access waits for: in PL1, PL2 or PL3. -/
def Blk.regionAsleep (s : Blk) (r : Nat) : Bool := s.level r == 1 || s.level r == 2 || s.power.dev == 3

/-- The drawer of a DPA lies in a region that an access waits for. -/
def Blk.asleep (s : Blk) (a : Nat) : Bool := dpaKind a == .sram && s.regionAsleep (regionOfDpa a)

/-- Wake the region of a DPA (DESIGN CHOICE, log entry 72). -/
def Blk.wakeDpa (s : Blk) (a : Nat) : Blk := if dpaKind a = .sram then s.wake (regionOfDpa a) else s

/-- Bias of a granule: 0 DEVICE, 1 SHARED, 2 FLUSHING (R342, R344). -/
def Blk.biasOf (s : Blk) (g : Nat) : Nat := tblGet 0 g s.bias

/-- A byte of [a, a+n) lies in a granule that is FLUSHING (R344). -/
def Blk.flushing (s : Blk) (a n : Nat) : Bool :=
  dpaKind a == .sram && s.bias.any (fun p => decide (p.2 = 2) && decide (a < p.1 * 65536 + 65536) && decide (p.1 * 65536 < a + n))

/-! ## Memory accesses of the device -/

/-- Logs of a read of [a, a+n): an uncorrectable word sets P of its block and is logged (R150). -/
def Blk.readCheck (s : Blk) (a n : Nat) : Blk :=
  if s.mem.uncorrIn a n then
    let hit := s.mem.uncorr.filter (fun w => decide (w * 8 < a + n) && decide (a < w * 8 + 8))
    hit.foldl (fun t w => t.eccUe (w * 8)) { s with mem := s.mem.readPoisons a n }
  else s

/-- Held input ranges (R223): a write to a held range marks its step as having lost its held inputs. -/
def Blk.heldHit (s : Blk) (a n : Nat) : Blk :=
  if dpaKind a ≠ .sram then s else
  let pos := posOfDpa a
  let off := a % 2 ^ 21
  match s.ownerOf (regionOfPos pos) with
  | none => s
  | some i =>
    forL s.steps (fun p t =>
      let st := p.2
      if st.inst = i ∧ st.hold ∧ (st.st = .running ∨ st.st = .replaying ∨ st.st = .grace) then
        match (tblGet {} i t.tts).groups[st.group]? with
        | none => t
        | some gr =>
          let lo := gr.hinOff + (if gr.nbuf = 0 then 0 else st.k % gr.nbuf) * gr.stride
          let inGroup := (List.range 64).any (fun e => gr.rmask.testBit e &&
            bits (tblGet 0 e (t.inst i).map) 5 0 == regionOfPos pos && (tblGet 0 e (t.inst i).map).testBit 8)
          if inGroup ∧ off < lo + gr.hinLen ∧ lo < off + n then
            (({ t with steps := tblSet p.1 { st with heldLost := true } t.steps }).count F.TTI_CNT_COUNT (i * 9 + 7)).event .tt 0 10
              { inst := i }
          else t
      else t) s

/-- Mark the granules of a drawer write dirty (R404). -/
def Blk.markGranules (s : Blk) (a n : Nat) : Blk :=
  if dpaKind a ≠ .sram ∨ n = 0 then s else
  match s.ownerOf (regionOfDpa a) with
  | none => s
  | some i =>
    let x := s.inst i
    if !x.dirtyOn then s
    else
      match (List.range 64).find? (fun e => (tblGet 0 e x.map).testBit 8 && bits (tblGet 0 e x.map) 5 0 == regionOfDpa a) with
      | none => s
      | some e =>
        let o := a % 2 ^ 29
        let gs := (List.range ((o + n - 1) / 65536 + 1 - o / 65536)).map (fun k => (e, o / 65536 + k))
        s.setInst i { x with granules := gs.foldl (fun l g => if l.contains g then l else g :: l) x.granules }

/-- A write of bytes to drawer or hub SRAM by any agent: contents and checks (R153), uncorrectable words that it only partly
replaces are logged (R150), held inputs (R223), dirty granules (R404), and the exit of a region below PL0 (R443). -/
def Blk.memWrite (s : Blk) (a : Nat) (l : List Byte) : Blk :=
  let part := s.mem.partialUncorr a l.length
  let s1 := { s with mem := s.mem.write a l }
  let s2 := part.foldl (fun t w => t.eccUe (w * 8)) s1
  ((s2.heldHit a l.length).markGranules a l.length).wakeDpa a

/-- A write of a whole block that carries its check (R155); none when the check mismatches. -/
def Blk.memWriteChecked (s : Blk) (a : Nat) (l : List Byte) (chk : BitVec 32) : Option Blk :=
  match s.mem.writeChecked a l chk with
  | none => none
  | some m => some (((({ s with mem := m }).heldHit a 4096).markGranules a 4096).wakeDpa a)

end Sys2Proof.Machine
end

