-- ==== Sys2Proof/Machine/QueueOps.lean ====
section
/-! DEFINITION. The head of a queue, its completions and its state changes (R368 to R372). -/

namespace Sys2Proof.Machine

/-- Publish a queue's head (R369). -/
def Blk.publishHead (s : Blk) (q : Nat) : Blk :=
  let x := s.queue q
  let s1 := s.modQueue q (fun y => { y with headDue := false })
  s1.hostWrite (s.qOwner q).inst? (s.reg .QHEAD_ADDR q).toNat (toLe 8 (x.head + b2n x.headLap * 2 ^ 16))

/-- The head of a queue moves on by one entry. -/
def Queue.pass (size : Nat) (x : Queue) : Queue :=
  let wrap := decide (x.head + 1 ≥ size)
  { x with entries := x.entries.drop 1, head := if wrap then 0 else x.head + 1, headLap := xor x.headLap wrap, headDue := true }

/-- The head passes every completed entry at the front, whose completion is written then: entries complete in queue order
(R368, R376). The first argument bounds the number passed. -/
def Blk.advanceQueue : Nat → Blk → Nat → Blk
  | 0, s, _ => s
  | k + 1, s, q =>
    match (s.queue q).entries with
    | [] => s
    | e :: _ =>
      if e.completed then
        let s1 := match e.cpl with
          | some (cq, c) => s.postCpl cq c
          | none => s
        Blk.advanceQueue k ((s1.modQueue q (fun x => x.pass (s.qSize q))).count F.QDONE_COUNT q) q
      else s

/-- A draining queue whose started entries have all completed becomes DISABLED and publishes its head, from which entries are fetched
again (R371, R372); a queue in ERROR publishes once everything before the malformed entry has completed (R371). -/
def Blk.settleQueue (s : Blk) (q : Nat) : Blk :=
  let x := s.queue q
  match x.st with
  | .draining => if x.entries = [] then (s.modQueue q (fun y => { y with st := .disabled, scan := y.head, lap := y.headLap })).publishHead q else s
  | .error => if x.entries = [] ∧ x.headDue then s.publishHead q else s
  | _ => s

/-- An entry has completed, with the completion that it writes: QDONE counts, the head advances and the queue settles. -/
def Blk.completeEntry (s : Blk) (q idx : Nat) (c : Option (Nat × Cpl) := none) : Blk :=
  let s1 := s.modQueue q (fun x => { x with entries := x.entries.map (fun e =>
    if e.idx = idx && !e.completed then { e with completed := true, started := true, cpl := c } else e) })
  (Blk.advanceQueue ((s1.queue q).entries.length + 1) s1 q).settleQueue q

/-- An entry has started (R368). -/
def Blk.startEntry (s : Blk) (q idx : Nat) : Blk :=
  s.modQueue q (fun x => { x with entries := x.entries.map (fun e => if e.idx = idx then { e with started := true } else e) })

/-- The completion queue of a JOB queue: QCFG.CQ within the owner (R375). -/
def Blk.jobCq (s : Blk) (q : Nat) : Nat := (s.qOwner q).base + s.getF F.QCFG_CQ q

/-- Write the completion of a fetched entry to a CPL queue, and complete the entry. -/
def Blk.finishEntry (s : Blk) (q idx cq ctype : Nat) (st : Status) (inst gen : Nat) (rest : List Byte) : Blk :=
  let c : Cpl := { data := cplBytes ctype st.code (s.qLocal q) idx rest, fetched := true, inst := inst, gen := gen }
  s.completeEntry q idx (some (cq, c))

/-- Stop fetching from an active queue: entries not started are discarded without completions (R371, R402). -/
def Blk.drainQueue (s : Blk) (q : Nat) : Blk :=
  let x := s.queue q
  if x.st = .active then
    let s1 := { s with ft := { s.ft with reqs := s.ft.reqs.filter (fun r => r.q ≠ q || r.started),
                                         recvs := s.ft.recvs.filter (fun r => r.1 ≠ q) } }
    (s1.setQueue q { x with st := .draining, scanning := false, dbPend := false,
                            entries := x.entries.filter (fun e => e.started), cancels := [] }).settleQueue q
  else s

/-- An instance's reset or destruction takes a queue to DISABLED: nothing of the old generation is written; QSCAN is 0 with
L = 1 (R371, R398). -/
def Blk.resetQueue (s : Blk) (q : Nat) : Blk :=
  (s.setQueue q { }).setF F.QCTL_EN q 0

/-- The queues of an instance, global numbers. -/
def Blk.queuesOf (s : Blk) (i : Nat) : List Nat := (List.range (s.inst i).qCount).map (fun k => (s.inst i).qBase + k)

end Sys2Proof.Machine
end

