-- ==== Sys2Proof/Machine/CoreOps.lean ====
section
/-! DEFINITION. Positions, threads, their registers and matrix resources; translation of instance addresses (R70 to R85,
R132 to R134). -/

namespace Sys2Proof.Machine

/-- One position's state. After power-on the thread that issues first is thread 0 (DESIGN CHOICE, log entry 6). -/
def coreReset : CoreSt := { lastTid := 15 }
def Blk.core (s : Blk) (p : Nat) : CoreSt := tblGet coreReset p s.cores
def Blk.setCore (s : Blk) (p : Nat) (c : CoreSt) : Blk := { s with cores := tblSet p c s.cores }
def Blk.modCore (s : Blk) (p : Nat) (f : CoreSt → CoreSt) : Blk := s.setCore p (f (s.core p))

def CoreSt.th (c : CoreSt) (t : Nat) : Thread := tblGet {} t c.threads
def CoreSt.modTh (c : CoreSt) (t : Nat) (f : Thread → Thread) : CoreSt := { c with threads := tblSet t (f (c.th t)) c.threads }
def Blk.th (s : Blk) (p t : Nat) : Thread := (s.core p).th t
def Blk.modTh (s : Blk) (p t : Nat) (f : Thread → Thread) : Blk := s.modCore p (fun c => c.modTh t f)

/-- Register reads: g0 reads as 0, p0 as all ones (R71). -/
def Thread.gr (x : Thread) (n : Nat) : Word := if n = 0 then 0 else tblGet 0 n x.g
def Thread.vr (x : Thread) (n : Nat) : VReg := tblGet 0 n x.v
def Thread.pr (x : Thread) (n : Nat) : Word := if n = 0 then BitVec.allOnes 64 else tblGet 0 n x.p
/-- Register writes: those of g0 and p0 are discarded (R71). -/
def Thread.gw (x : Thread) (n : Nat) (v : Word) : Thread := if n = 0 then x else { x with g := tblSet n v x.g }
def Thread.vw (x : Thread) (n : Nat) (v : VReg) : Thread := { x with v := tblSet n v x.v }
def Thread.pw (x : Thread) (n : Nat) (v : Word) : Thread := if n = 0 then x else { x with p := tblSet n v x.p }

/-- FFLAGS as the register holds them (R73). -/
def FFlags.bv (f : FFlags) : BitVec 5 :=
  BitVec.ofNat 5 (b2n f.nv + 2 * b2n f.dz + 4 * b2n f.of + 8 * b2n f.uf + 16 * b2n f.nx)
/-- Sticky flags (R62). -/
def Thread.orFlags (x : Thread) (f : FFlags) : Thread := { x with fflags := x.fflags ||| f.bv }

def CoreSt.tile (c : CoreSt) (n : Nat) : TileBuf := tblGet {} n c.tiles
def CoreSt.setTile (c : CoreSt) (n : Nat) (b : TileBuf) : CoreSt := { c with tiles := tblSet n b c.tiles }
def CoreSt.acc (c : CoreSt) (n : Nat) : Acc := tblGet {} n c.accs
def CoreSt.setAcc (c : CoreSt) (n : Nat) (a : Acc) : CoreSt := { c with accs := tblSet n a c.accs }

/-- An accumulator clear (R76). -/
def Acc.clear (a : Acc) : Acc := { owner := a.owner }

/-- The physical core that serves a position. -/
def Blk.physOf (s : Blk) (p : Nat) : Option Nat := (s.pl (clusterOfPos p)).core (p % 16)

/-! ## Instance addresses (R132 to R134) -/

/-- What an access needs of the region map. -/
inductive Access where
  | rd | wr | rw | ex
  deriving DecidableEq, Repr

/-- Where an instance address leads: a drawer byte, an aperture offset, or nowhere. -/
inductive Target where
  | drawer (dpa : Nat)
  | aperture (off : Nat)
  | unmapped
  deriving DecidableEq, Repr

/-- The region-map entry an access needs (R133). -/
def entryAllows (e : Nat) (a : Access) : Bool :=
  e.testBit 8 && (match a with
    | .rd => e.testBit 9
    | .wr => e.testBit 10
    | .rw => e.testBit 9 && e.testBit 10
    | .ex => e.testBit 11)

/-- Translate an instance address for an instance (R132 to R134). An address of more than 40 bits is unmapped (DEDUCED, log entry 7). -/
def Blk.translate (s : Blk) (i : Nat) (addr : Nat) (a : Access) : Target :=
  if addr ≤ 0x07_FFFF_FFFF then
    let e := tblGet 0 (addr / 2 ^ 29) (s.inst i).map
    if entryAllows e a then .drawer (bits e 5 0 * 2 ^ 29 + addr % 2 ^ 29) else .unmapped
  else if 0x80_0000_0000 ≤ addr ∧ addr ≤ 0xFF_FFFF_FFFF then
    let off := addr - 0x80_0000_0000
    if (a = .rd ∨ a = .wr) ∧ off < (s.inst i).aperLimit * 4096 then .aperture off else .unmapped
  else .unmapped

/-- Every byte of [addr, addr+n) lies in one run of drawer bytes with the right: an aligned access never leaves its 512 MiB granule. -/
def Blk.drawerRange (s : Blk) (i addr n : Nat) (a : Access) : Option Nat :=
  match s.translate i addr a, s.translate i (addr + n - 1) a with
  | .drawer d, .drawer d' => if d' = d + n - 1 then some d else none
  | _, _ => none

/-- The pieces of [addr, addr+n) by 512 MiB granule, each where its map entry leads: DPA and length; none where a byte is unmapped
or refused (R132, R133). -/
def Blk.granulePieces (s : Blk) (i addr n : Nat) (a : Access) : Option (List (Nat × Nat)) :=
  let k := min n (2 ^ 29 - addr % 2 ^ 29)
  match s.drawerRange i addr k a with
  | none => none
  | some d =>
    if k = n then some [(d, n)]
    else match s.drawerRange i (addr + k) (n - k) a with
      | none => none
      | some d' => some [(d, k), (d', n - k)]

/-! ## Matrix resources (R76, R79, R108) -/

/-- Resources by number: tile buffers 0 to 7, accumulators 8 to 11. -/
abbrev Res := Nat

/-- What a queued matrix instruction reads and writes. -/
def MqEntry.reads (e : MqEntry) : List Res :=
  let pair := [e.f.tb.toNat, e.f.tb.toNat + 1]
  match e.kind with
  | .mxm => [e.f.ta.toNat] ++ pair
  | .mxms | .mxmr => if e.f.kx = 0 then [8 + e.f.acc.toNat] else [e.f.ta.toNat, 8 + e.f.acc.toNat] ++ pair
  | .mxst => [8 + e.f.acc.toNat]
  | .mxaw => pair
def MqEntry.writes (e : MqEntry) : List Res :=
  match e.kind with
  | .mxst => if e.pair then [e.f.tb.toNat, e.f.tb.toNat + 1] else [e.f.tb.toNat]
  | _ => [8 + e.f.acc.toNat]
def Xfer.reads (x : Xfer) : List Res :=
  match x.kind with
  | .stb t _ _ => [t]
  | .asave a => [8 + a]
  | _ => []
def Xfer.writes (x : Xfer) : List Res :=
  match x.kind with
  | .ldb t _ _ _ => [t]
  | .arst a => [8 + a]
  | _ => []

/-- Two lists of resources meet. -/
def meets (a b : List Res) : Bool := a.any (fun x => b.contains x)

/-- Does an instruction or transfer with these reads and writes wait for earlier work (R79, R108)? -/
def conflicts (r w r' w' : List Res) : Bool := meets r w' || meets w w' || meets w r'

/-- A transfer is past its waits: no earlier queued instruction or transfer conflicts with it. -/
def CoreSt.xferReady (c : CoreSt) (x : Xfer) : Bool :=
  !(c.mq.any (fun e => decide (e.id < x.id) && conflicts x.reads x.writes e.reads e.writes)) &&
  !(c.xfer.any (fun y => decide (y.id < x.id) && conflicts x.reads x.writes y.reads y.writes))

/-- The instruction at the head of the matrix queue is past its waits for transfers (R79, R108). -/
def CoreSt.mqReady (c : CoreSt) (e : MqEntry) : Bool :=
  !(c.xfer.any (fun y => decide (y.id < e.id) && conflicts e.reads e.writes y.reads y.writes))

/-- Does queued or running work name the resource? -/
def CoreSt.busy (c : CoreSt) (r : Res) : Bool :=
  c.mq.any (fun e => (e.reads ++ e.writes).contains r) || c.xfer.any (fun x => (x.reads ++ x.writes).contains r)

/-- The owner of a resource. -/
def CoreSt.resOwner (c : CoreSt) (r : Res) : Option Nat := if r < 8 then (c.tile r).owner else (c.acc (r - 8)).owner

/-- A tile buffer that no thread owns and no queued or running work names is free: its VALID is 0 (R76, R78). -/
def CoreSt.settleTiles (c : CoreSt) : CoreSt :=
  { c with tiles := tblMap (fun n b => if b.owner.isNone && !(c.busy n) then { b with valid := false } else b) c.tiles }

/-- Release a resource: the ownership ends at once; a tile buffer loses VALID once no work names it (R76, R78). -/
def CoreSt.release (c : CoreSt) (r : Res) : CoreSt :=
  (if r < 8 then c.setTile r { c.tile r with owner := none }
  else c.setAcc (r - 8) { c.acc (r - 8) with owner := none }).settleTiles

/-- Release everything a thread owns. -/
def CoreSt.releaseAll (c : CoreSt) (t : Nat) : CoreSt :=
  (List.range 12).foldl (fun c r => if c.resOwner r = some t then c.release r else c) c

/-- Is an operation with this place in the issue order still outstanding? -/
def CoreSt.outstanding (c : CoreSt) (t id : Nat) : Bool :=
  (c.th t).ops.any (fun o => o.id == id) || c.mq.any (fun e => e.id == id) || c.xfer.any (fun x => x.id == id) ||
    c.deliv.any (fun d => d.id == id)

/-- A thread leaves its step (R85): IDLE, its resources released, its in-flight work discarded. -/
def CoreSt.dropThread (c : CoreSt) (t : Nat) : CoreSt :=
  let c1 := { c with mq := c.mq.filter (fun e => e.tid ≠ t), xfer := c.xfer.filter (fun x => x.tid ≠ t),
                     deliv := c.deliv.filter (fun d => d.tid ≠ t) }
  ((c1.releaseAll t).settleTiles).modTh t (fun x => { x with st := .idle, ops := [], fences := [], committing := false, step := 0, fault := none })

/-- A thread starts (R82): PC, g1 and g2 from its start record, every other register 0. -/
def CoreSt.startThread (c : CoreSt) (t : Nat) (pc : BitVec 40) (arg idx : Word) (step : Nat) : CoreSt :=
  let c1 := (List.range 8).foldl (fun c n => if (c.tile n).owner = some t then c.setTile n { c.tile n with valid := false } else c) c
  c1.modTh t (fun _ => { st := .running, g := [(1, arg), (2, idx)], pc := pc, step := step, stepIdx := idx })

/-- The positions and threads that take part in a step. -/
def Blk.threadsOf (s : Blk) (sid : Nat) : List (Nat × Nat) :=
  s.cores.flatMap (fun c => (c.2.threads.filter (fun t => t.2.step == sid && t.2.st != .idle)).map (fun t => (c.1, t.1)))

/-- Discard every thread of a step (R85). -/
def Blk.dropStep (s : Blk) (sid : Nat) : Blk :=
  forL (s.threadsOf sid) (fun pt t => t.modCore pt.1 (fun c => c.dropThread pt.2)) s

/-- Is the thread live at a holder's SSER (R144)? `r` is the region whose owner must match. -/
def Blk.holderLive (s : Blk) (pos tid hser : Nat) (ownerInst : Option Nat) : Bool :=
  let c := s.core pos
  let st := (c.th tid).st
  (s.ownerOf (regionOfPos pos) == ownerInst && ownerInst.isSome) && (c.sser.toNat == hser) &&
    (match st with
     | .running => true
     | .waiting _ => true
     | _ => false)

end Sys2Proof.Machine
end

