-- ==== Sys2Proof/Machine/Net.lean ====
section
/-! DEFINITION. The package fabric's endpoints, kinds, routes, link ends, packet layouts, flows and tags (R167 to R176, R178, R179, R189,
R197). -/

namespace Sys2Proof.Machine

/-! ## Endpoints (R168) -/

/-- A destination local endpoint of a position and thread, and of a hub engine with its index. -/
def epPos (pos thread : Nat) : Nat := pos * 16 + thread
def epHub (engine idx : Nat) : Nat := 2 ^ 18 + engine * 2 ^ 14 + idx
/-- Is a destination local endpoint, or a source local endpoint, in the hub? -/
def dstHub (d : Nat) : Bool := d.testBit 18
def srcHub (x : Nat) : Bool := x.testBit 14
/-- The packed position of a destination endpoint. -/
def dstPos (d : Nat) : Nat := d / 16 % 2 ^ 14
/-- The hub's engines (R168). -/
def engDresser : Nat := 0
def engColl : Nat := 1
def engMove : Nat := 2
def engHcopy : Nat := 3
def engTt : Nat := 4
/-- The source local endpoint of a hub engine: bits [18:4] of its endpoint. -/
def srcOfHub (engine idx : Nat) : Nat := epHub engine idx / 16

/-! ## Kinds and channels (R175) -/

def kRd : Nat := 0
def kWr : Nat := 1
def kAmo : Nat := 2
def kRdblk : Nat := 3
def kRsp : Nat := 4
def kAck : Nat := 5
def kData : Nat := 6
def kWblk : Nat := 7
def kRblk : Nat := 8
def kMbx : Nat := 9
def kNote : Nat := 10
def kCtrl : Nat := 11
def kLkprobe : Nat := 12
def kLkreply : Nat := 13

/-- The channel of a kind (R175). -/
def kindVc (k : Nat) : Nat :=
  if k ≤ 3 then 0 else if k = 4 ∨ k = 5 ∨ k = 8 then 1 else if k ≤ 7 then 2 else 3

/-! ## Routes (R18, R19, R179) -/

/-- The compute die of a region (R18). -/
def dieOf (r : Nat) : Nat := 2 * (r / 8 / 4) + r % 8 / 4
/-- The hub-attached region of a die (R19). -/
def hubRegion (d : Nat) : Nat := [27, 28, 35, 36].getD d 27
/-- The hub-side link end of a die, and the region's side of the hub link. -/
def hubEnd (d : Nat) : Nat := 256 + d
def hubRegEnd (d : Nat) : Nat := 260 + d

/-- The router ports that a packet leaves by on its XY route: region and port (R179). -/
def xyRoute : Nat → Nat → Nat → List (Nat × Nat)
  | 0, _, _ => []
  | k + 1, r, r2 =>
    let x := r % 8
    let x2 := r2 % 8
    if x < x2 then (r, 17) :: xyRoute k (r + 1) r2
    else if x > x2 then (r, 19) :: xyRoute k (r - 1) r2
    else if r < r2 then (r, 18) :: xyRoute k (r + 8) r2
    else if r > r2 then (r, 16) :: xyRoute k (r - 8) r2
    else []

/-- The link end of a mesh port (R416), or the region's side of a hub link. -/
def endOf (r port : Nat) : Nat := if port = 20 then hubRegEnd (dieOf r) else 4 * r + (port - 16)

/-- The port by which the router of region `r` sends a packet on towards region `d`, or towards the hub where `d` is 64 (R179); at the
destination region it is the port of cluster `cl`. -/
def nextPort (cl r d : Nat) : Nat :=
  if d = 64 then
    let h := hubRegion (dieOf r)
    if r = h then 20 else ((xyRoute 1 r h).getD 0 (r, 20)).2
  else if r = d then cl
  else ((xyRoute 1 r d).getD 0 (r, cl)).2

/-- The router ports of a way from region `r` to a cluster of region `d`, or to the hub. -/
def portsTo (cl r d : Nat) : List (Nat × Nat) :=
  if d = 64 then let h := hubRegion (dieOf r); xyRoute 16 r h ++ [(h, 20)] else xyRoute 16 r d ++ [(d, cl)]

/-! ## Link ends (R178) -/

def Blk.lnk (s : Blk) (e : Nat) : LinkEnd := tblGet {} e s.links
def Blk.setLnk (s : Blk) (e : Nat) (l : LinkEnd) : Blk := { s with links := tblSet e l s.links }
def Blk.modLnk (s : Blk) (e : Nat) (f : LinkEnd → LinkEnd) : Blk := s.setLnk e (f (s.lnk e))

/-- The end at the other side of a package link. -/
def otherEnd (e : Nat) : Nat :=
  if e < 256 then
    let r := e / 4
    match e % 4 with
    | 0 => 4 * (r - 8) + 2
    | 1 => 4 * (r + 1) + 3
    | 2 => 4 * (r + 8)
    | _ => 4 * (r - 1) + 1
  else if e < 260 then e + 4 else e - 4

/-- Does the end exist (R19)? -/
def endPresent (e : Nat) : Bool :=
  if e < 256 then
    let r := e / 4
    match e % 4 with
    | 0 => decide (8 ≤ r)
    | 1 => decide (r % 8 < 7)
    | 2 => decide (r < 56)
    | _ => decide (0 < r % 8)
  else decide (e < 264)

/-! ## Ports' counters (R197, R200) -/

/-- Index of a router port's registers. -/
def portIx (rp : Nat × Nat) : Nat := rp.1 * 21 + rp.2

/-- Count `k` packets of `n` bytes together that leave a router port, or the hub side of a hub link (R197). -/
def Blk.countPort (s : Blk) (rp : Nat × Nat) (vc k n : Nat) : Blk :=
  (s.countBy F.PKT_VC_COUNT (portIx rp * 4 + vc) k).countBy F.BYTE_VC_COUNT (portIx rp * 4 + vc) n
def Blk.countHub (s : Blk) (d vc k n : Nat) : Blk := (s.countBy F.HPKT_VC_COUNT (d * 4 + vc) k).countBy F.HBYTE_VC_COUNT (d * 4 + vc) n

/-! ## Packets as bytes (R170 to R176) -/

/-- Bytes of a stream packet, header included (R170). -/
def StreamPktBytes (p : StreamPkt) : Nat := 16 + p.payload.length

/-- Bits [63:0] of a stream header (R171). -/
def StreamPktLo (p : StreamPkt) : Nat :=
  p.fmt % 4 + p.vc % 4 * 2 ^ 2 + p.kind % 16 * 2 ^ 4 + p.dst % 2 ^ 19 * 2 ^ 8 + p.src % 2 ^ 15 * 2 ^ 27 + p.inst % 64 * 2 ^ 42 +
    b2n p.sys * 2 ^ 48 + b2n p.cm * 2 ^ 49 + p.age % 2 ^ 14 * 2 ^ 50

/-- Bits [127:64]: the block layout of WBLK and RBLK (R174), whose BLK is the block of the byte offset, else the request layout (R172). -/
def StreamPktHi (p : StreamPkt) : Nat :=
  if p.kind = kWblk ∨ p.kind = kRblk then
    p.tag % 256 + (if dstHub p.dst then 0 else p.off / 4096 % 512) * 2 ^ 8 + p.mc % 4 * 2 ^ 17 + p.mlo % 8 * 2 ^ 19 + p.mhi % 8 * 2 ^ 22 +
      p.pep % 128 * 2 ^ 25 + p.check.toNat * 2 ^ 32
  else
    p.tag % 256 + p.len % 1024 * 2 ^ 8 + p.off % 2 ^ 21 * 2 ^ 18 + p.mc % 4 * 2 ^ 39 + p.mlo % 8 * 2 ^ 41 + p.mhi % 8 * 2 ^ 44 +
      p.pep % 256 * 2 ^ 47 + p.arg % 512 * 2 ^ 55

/-- The bytes of a stream packet: little-endian, bit 0 of the header in byte 0 (R170). -/
def StreamPktWire (p : StreamPkt) : List Byte := toLe 8 (StreamPktLo p) ++ toLe 8 (StreamPktHi p) ++ p.payload

/-- A basic header as a 64-bit value (R176). -/
def BasicPktHdr (p : BasicPkt) : Nat :=
  p.fmt % 4 + p.vc % 4 * 2 ^ 2 + p.kind % 16 * 2 ^ 4 + p.dst % 2 ^ 19 * 2 ^ 8 + p.src % 2 ^ 15 * 2 ^ 27 + p.seq % 256 * 2 ^ 48 + p.hops % 256 * 2 ^ 56

/-- The flits of a packet (R186), the flits of an input buffer's channel, and the plane of a channel (R166). -/
def flitBytes (vc : Nat) : Nat := if vc = 3 then 32 else 128
def StreamPktFlits (p : StreamPkt) : Nat := (StreamPktBytes p + flitBytes p.vc - 1) / flitBytes p.vc
def bufFlits (vc : Nat) : Nat := if vc = 2 then 24 else 8
def planeOf (vc : Nat) : Nat := if vc = 3 then 1 else 0

/-! ## Flows (R189, R190) -/

/-- The key of a flow: its source (cluster number, or 1,024 + hub port), channel and destination region. -/
def flowKey (src dst vc : Nat) : Nat × Nat × Nat :=
  let r2 := if dstHub dst then 64 else regionOfPos (dstPos dst)
  (if srcHub src then 1024 + dieOf r2 else clusterOfPos src, vc, r2)

/-- RL_MAX of a source in units of 2^-16 · 0.25 GB/s (R190). -/
def rlMax (src : Nat) : Nat := (if src ≥ 1024 then 2048 else 1024) * 65536

def Blk.flow (s : Blk) (k : Nat × Nat × Nat) : Flow := tblGet { rate := rlMax k.1 } k s.flows

/-- May a packet of the flow be injected now (R189)? VC1 and VC3 are not limited. -/
def Blk.keyOpen (s : Blk) (k : Nat × Nat × Nat) : Bool :=
  if k.2.1 = 0 ∨ k.2.1 = 2 then !(s.flag F.FAB_CTRL_RL_EN) || decide (0 ≤ (s.flow k).tokens) else true
def Blk.flowOpen (s : Blk) (src dst vc : Nat) : Bool := s.keyOpen (flowKey src dst vc)

/-- Injection of `n` bytes by a flow subtracts them from its tokens. -/
def Blk.spend (s : Blk) (k : Nat × Nat × Nat) (n : Nat) : Blk :=
  if (k.2.1 = 0 ∨ k.2.1 = 2) ∧ s.flag F.FAB_CTRL_RL_EN then
    let f := s.flow k
    { s with flows := tblSet k { f with tokens := f.tokens - (n : Int) * 65536 } s.flows }
  else s

/-! ## Tags (R173) -/

/-- The lowest tag that no outstanding request of the source carries. -/
def Blk.freeTag (s : Blk) (src : Nat) : Option Nat :=
  let used := (s.reqs.filter (fun r => r.1.1 == src)).map (fun r => r.1.2)
  (List.range 256).find? (fun t => !used.contains t)

/-- How many more requests the source may have outstanding. -/
def Blk.tagRoom (s : Blk) (src : Nat) : Nat := 256 - (s.reqs.filter (fun r => r.1.1 == src)).length

end Sys2Proof.Machine
end

