-- ==== Sys2Proof/Machine/Flight.lean ====
section
/-! DEFINITION. Stream packets inside the package: injection and its discards, input buffers and credits, the grants of the routers, the
links' replay buffers, and delivery (R166, R168 to R173, R177 to R187, R189, R191, R192, R197). A packet moves as a whole: it enters a
buffer that has a free flit, and the rest of it is taken to follow at once (DESIGN CHOICE, log entry 102). -/

namespace Sys2Proof.Machine

/-! ## Places -/

/-- The place of a mesh-router input, of the hub side of a hub link, and of a cluster router's input from the mesh. -/
def bufPort (r port : Nat) : HopAt := .buf (portIx (r, port))
def bufHub (d : Nat) : HopAt := .buf (1344 + d)
def bufCluster (c : Nat) : HopAt := .buf (1348 + c)

/-- The input buffer at a link end. -/
def bufOf (e : Nat) : HopAt :=
  if e < 256 then bufPort (e / 4) (16 + e % 4) else if e < 260 then bufHub (e - 256) else bufPort (hubRegion (e - 260)) 20

/-- The flits that a place holds of a channel, and of a plane. -/
def Blk.heldFlits (s : Blk) (q : HopAt) (vc : Nat) : Nat :=
  s.flights.foldl (fun n f => if f.place = q ∧ f.pkt.vc = vc then n + StreamPktFlits f.pkt else n) 0
def Blk.heldPlane (s : Blk) (q : HopAt) (plane : Nat) : Nat :=
  s.flights.foldl (fun n f => if f.place = q ∧ planeOf f.pkt.vc = plane then n + StreamPktFlits f.pkt else n) 0

/-- A credit for a channel of a buffer (R186): a flit that neither a packet in it holds nor one on the way to it. -/
def Blk.credit (s : Blk) (q : HopAt) (vc : Nat) : Bool := decide (s.heldFlits q vc < bufFlits vc)
def Blk.linkCredit (s : Blk) (e vc : Nat) : Bool := decide (s.heldFlits (bufOf (otherEnd e)) vc + s.heldFlits (.wire e) vc < bufFlits vc)

/-- Room in a link end's replay buffer of 64 flits per plane (R177). -/
def Blk.replayRoom (s : Blk) (e : Nat) (p : StreamPkt) : Bool :=
  let n := s.heldPlane (.wire e) (planeOf p.vc)
  n == 0 || decide (n + StreamPktFlits p ≤ 64)

/-- A link carries stream packets while both its ends are in STREAM (R178). -/
def Blk.linkOpen (s : Blk) (e : Nat) : Bool := (s.lnk e).st == .stream && (s.lnk (otherEnd e)).st == .stream

/-- May the packet go onto the link now? One that meets a link end in BASIC or DOWN waits there (in DOWN, DESIGN CHOICE, log entry 108). -/
def Blk.mayHop (s : Blk) (e : Nat) (p : StreamPkt) : Bool := s.linkOpen e && s.linkCredit e p.vc && s.replayRoom e p

/-! ## The list of flights -/

/-- Replace the first flight of which `q` holds. -/
def replFirst (q : Flight → Bool) (new : Flight → List Flight) : List Flight → List Flight
  | [] => []
  | f :: t => if q f then new f ++ t else f :: replFirst q new t

/-- The flights that no earlier flight of their place and channel precedes. At an injection and within one cluster the flights of one
channel queue by flow, or by source and destination (R169). -/
def sameQueue (f g : Flight) : Bool :=
  f.place == g.place && f.pkt.vc == g.pkt.vc &&
  (match f.place with
    | .src _ => flowKey f.pkt.src f.pkt.dst f.pkt.vc == flowKey g.pkt.src g.pkt.dst g.pkt.vc
    | .loc => f.pkt.src == g.pkt.src && f.pkt.dst == g.pkt.dst
    | _ => true)
def headsAfter : List Flight → List Flight → List Flight
  | _, [] => []
  | seen, f :: t => if seen.any (fun g => sameQueue f g) then headsAfter seen t else f :: headsAfter (f :: seen) t
def Blk.heads (s : Blk) : List Flight := headsAfter [] s.flights

/-- Take a head off its queue. -/
def Blk.unqueue (s : Blk) (f : Flight) : Blk := { s with flights := replFirst (fun g => g == f) (fun _ => []) s.flights }

/-! ## Marks, ages and the instance check (R180, R187, R191) -/

/-- AGE_NOW: units of 32 ns. -/
def Blk.ageNow (s : Blk) : Nat := s.time.uptime / 32 % 2 ^ 14
/-- A packet's age: (AGE_NOW − AGE) mod 2^14. -/
def Blk.pktAge (s : Blk) (p : StreamPkt) : Nat := (s.ageNow + 2 ^ 14 - p.age % 2 ^ 14) % 2 ^ 14

/-- MARK_THR of a channel; 0 is treated as 1 (R199). -/
def Blk.markThr (s : Blk) (vc : Nat) : Nat := max 1 (if vc = 0 then s.getF F.MARK_THR_VC0_THR else s.getF F.MARK_THR_VC2_THR)

/-- The greater of two words byte by byte. -/
def maxBytes (a b : Nat) : Nat := (List.range 4).foldl (fun n k => n + max (bits a (8 * k + 7) (8 * k)) (bits b (8 * k + 7) (8 * k)) * 2 ^ (8 * k)) 0

/-- The depths of a buffer's channels in flits, as QDEPTH gives them (R200). -/
def Blk.depths (s : Blk) (q : HopAt) : Nat := (List.range 4).foldl (fun n v => n + min (bufFlits v) (s.heldFlits q v) * 2 ^ (8 * v)) 0

/-- The router port, or hub side, whose registers show a buffer. A cluster router is observed through the mesh-router port of its
cluster (R197). -/
def Blk.peak (s : Blk) (b : Nat) : Blk :=
  if b < 1344 then s.setF F.QPEAK_PEAK b (maxBytes (s.getF F.QPEAK_PEAK b) (s.depths (.buf b)))
  else if b < 1348 then s.setF F.HQPEAK_PEAK (b - 1344) (maxBytes (s.getF F.HQPEAK_PEAK (b - 1344)) (s.depths (.buf b)))
  else s
def Blk.countMark (s : Blk) (b : Nat) : Blk :=
  if b < 1344 then s.count F.MARKS_COUNT b
  else if b < 1348 then s.count F.HMARKS_COUNT (b - 1344)
  else s.count F.MARKS_COUNT (portIx ((b - 1348) / 16, (b - 1348) % 16))

/-- A packet's head enters an input buffer: a VC0 or VC2 packet takes a mark where the buffer holds the threshold (R187). -/
def Blk.enterBuf (s : Blk) (b : Nat) (p : StreamPkt) (dsts : List Nat) : Blk :=
  let mark := s.flag F.FAB_CTRL_MARK_EN && (p.vc == 0 || p.vc == 2) && decide (s.markThr p.vc ≤ s.heldFlits (.buf b) p.vc)
  let f : Flight := { pkt := if mark then { p with cm := true } else p, place := .buf b, dsts := dsts }
  (whenD mark (fun (t : Blk) => t.countMark b) { s with flights := s.flights ++ [f] }).peak b

/-- A packet discarded for its route (R181). The rules that discard a packet for its KIND, its misused MC or its empty mask name the count
alone; the model raises FABRIC_DROP_ROUTE with every count (DESIGN CHOICE, log entry 107). -/
def Blk.dropRoute (s : Blk) : Blk := (s.count F.DROP_ROUTE_CNT_COUNT).event .fab 0 3

/-- A packet fails the instance check of its destination region (R180). -/
def Blk.instBad (s : Blk) (p : StreamPkt) : Bool := !(dstHub p.dst) && !p.sys && s.ownerOf (regionOfPos (dstPos p.dst)) != some p.inst
def Blk.dropInst (s : Blk) (p : StreamPkt) : Blk :=
  let s1 := (s.count F.DROP_INST_CNT_COUNT).event .fab 0 2
  match s.ownerOf (regionOfPos (dstPos p.dst)) with
  | some i => (s1.count F.INSI_TAG_DROP_CNT_COUNT i).insEvent i 5
  | none => s1

/-! ## Copies (R183, R184) -/

/-- The regions that the copies of a packet go to: its own, those of its row or column range, or those of its mask; 64 is the hub. -/
def copyRegions (p : StreamPkt) : List Nat :=
  if dstHub p.dst then [64]
  else
    let r := regionOfPos (dstPos p.dst)
    let range := (List.range 8).filter (fun k => decide (p.mlo ≤ k) && decide (k ≤ p.mhi))
    if p.mc = 1 then range.map (fun x => r / 8 * 8 + x)
    else if p.mc = 2 then range.map (fun y => y * 8 + r % 8)
    else if p.mc = 3 ∧ p.kind = kCtrl then (List.range 64).filter (fun k => (fieldAt p.payload 0 8).testBit k)
    else [r]

/-- The copy of a packet that goes to a set of regions: a mask is narrowed to them. -/
def narrowTo (rs : List Nat) (p : StreamPkt) : StreamPkt :=
  if p.mc = 3 ∧ p.kind = kCtrl ∧ !(dstHub p.dst) then
    { p with payload := toLe 8 (rs.foldl (fun n r => n + 2 ^ r) 0) ++ p.payload.drop 8 } else p

/-- The copy that region `r` receives. -/
def copyTo (r : Nat) (p : StreamPkt) : StreamPkt :=
  if r = 64 then p else { narrowTo [r] p with dst := epPos (r * 256 + dstPos p.dst % 256) (p.dst % 16) }

/-- Is the packet one of the flight's copies? Its mark and age may change on the way. -/
def Flight.carries (f : Flight) (p : StreamPkt) : Bool :=
  f.dsts.any (fun r => { copyTo r f.pkt with cm := false, age := 0 } == { p with cm := false, age := 0 })

/-! ## Grants (R192) -/

/-- Put a packet at a place, behind what is there. -/
def Blk.putFlight (s : Blk) (q : HopAt) (p : StreamPkt) (dsts : List Nat) : Blk :=
  { s with flights := s.flights ++ [{ pkt := p, place := q, dsts := dsts }] }

/-- A head leaves its source: it pays its flow's tokens (R189), and enters the mesh router of its cluster, where AGE is stamped
(R191), or the hub link, or crosses only the router of its cluster or the hub; none where it must wait. -/
def Blk.leaveSrc (s : Blk) (f : Flight) : Option Blk :=
  match f.place with
  | .src n =>
    let p := f.pkt
    let k := flowKey p.src p.dst p.vc
    let s1 := (s.unqueue f).spend k (if n < 1024 ∨ n = k.1 then StreamPktBytes p else 0)
    if !(s.keyOpen k) then none
    else if (if n < 1024 then !(dstHub p.dst) && p.mc == 0 && clusterOfPos p.src == clusterOfPos (dstPos p.dst) else dstHub p.dst) then
      some ((s1.putFlight .loc p f.dsts).emit (.pkt p))
    else if n < 1024 then
      let b := portIx (n / 16, n % 16)
      let q := { p with age := s.ageNow }
      if s.credit (.buf b) p.vc then some ((s1.enterBuf b q f.dsts).emit (.pkt q)) else none
    else
      let e := hubEnd (n - 1024)
      if s.mayHop e p then
        some ((((s1.countHub (n - 1024) p.vc 1 (StreamPktBytes p)).emit (.pkt p)).emit (.hop e p)).putFlight (.wire e) p f.dsts)
      else none
  | _ => none

/-- The region of the router in whose input buffer a flight lies. -/
def Flight.router (f : Flight) : Option Nat :=
  match f.place with
  | .buf b => if b < 1344 then some (b / 21) else none
  | _ => none

/-- The ports of the router of region `r` by which a flight's copies go on. -/
def Flight.outs (f : Flight) (r : Nat) : List Nat := (f.dsts.map (nextPort (dstPos f.pkt.dst / 16 % 16) r)).eraseDups

/-- May the packet leave the router of region `r` by a port now? -/
def Blk.outOpen (s : Blk) (r port : Nat) (p : StreamPkt) : Bool :=
  if port < 16 then s.credit (bufCluster (r * 16 + port)) p.vc else s.mayHop (endOf r port) p

/-- The key of an output's round robin. -/
def rrKey (r port plane : Nat) : Nat := portIx (r, port) * 2 + plane

/-- Of two heads for one output, the one granted: the older; of one age, the next input in the round robin. -/
def Blk.prefer (s : Blk) (last : Nat) (f g : Flight) : Flight :=
  let turn := fun (h : Flight) => match h.place with
    | .buf b => (b % 21 + 20 - last) % 21
    | _ => 0
  if s.pktAge f.pkt < s.pktAge g.pkt ∨ (s.pktAge f.pkt = s.pktAge g.pkt ∧ turn g < turn f) then g else f

/-- The heads that contend for an output. -/
def Blk.contend (s : Blk) (r port plane : Nat) : List Flight :=
  s.heads.filter (fun f => f.router == some r && planeOf f.pkt.vc == plane && (f.outs r).contains port && s.outOpen r port f.pkt)

/-- A grant of an output: the copies behind the port leave the buffer and are counted. A cluster port leads to its cluster's router after the
instance check; a mesh or hub port leads onto its link. -/
def Blk.grant (s : Blk) (r port : Nat) (f : Flight) : Blk :=
  let cl := dstPos f.pkt.dst / 16 % 16
  let here := f.dsts.filter (fun d => nextPort cl r d == port)
  let rest := f.dsts.filter (fun d => nextPort cl r d != port)
  let last := match f.place with
    | .buf b => b % 21
    | _ => 0
  let s1 := { s with flights := replFirst (fun g => g == f) (fun g => if rest = [] then [] else [{ g with dsts := rest }]) s.flights
                     rr := tblSet (rrKey r port (planeOf f.pkt.vc)) last s.rr }
  if port < 16 then
    let p := copyTo r f.pkt
    if s.instBad p then s1.dropInst p
    else (s1.countPort (r, port) p.vc 1 (StreamPktBytes p)).enterBuf (1348 + r * 16 + port) p [r]
  else
    let p := narrowTo here f.pkt
    (((s1.countPort (r, port) p.vc 1 (StreamPktBytes p)).emit (.hop (endOf r port) p))).putFlight (.wire (endOf r port)) p here

/-- The first output that a head can take, with its winner. -/
def Blk.nextGrant (s : Blk) : Option Blk :=
  s.heads.findSome? (fun f => match f.router with
    | none => none
    | some r => (f.outs r).findSome? (fun port =>
      let plane := planeOf f.pkt.vc
      match s.contend r port plane with
      | [] => none
      | g :: t => some (s.grant r port (t.foldl (s.prefer (tblGet 20 (rrKey r port plane) s.rr)) g))))

/-- Packets move while one can. -/
def Blk.pumpN : Nat → Blk → Blk
  | 0, s => s
  | k + 1, s => match s.heads.findSome? s.leaveSrc with
    | some t => Blk.pumpN k t
    | none => match s.nextGrant with
      | some t => Blk.pumpN k t
      | none => s

/-- As many moves as the packets inside the package can make before a link. -/
def Blk.pump (s : Blk) : Blk := Blk.pumpN (s.flights.foldl (fun n f => n + 2 + f.dsts.length) 0) s

/-! ## Injection -/

/-- Put the copies of a packet at its source's injection. Those of a hub engine's packet leave by the hub link of their die (R179). -/
def Blk.queueAt (s : Blk) (p : StreamPkt) (rs : List Nat) : Blk :=
  if rs = [] then s
  else if !(srcHub p.src) then s.putFlight (.src (clusterOfPos p.src)) (narrowTo rs p) rs
  else if dstHub p.dst then s.putFlight (.src 1024) p rs
  else forN 4 (fun d t =>
    let l := rs.filter (fun r => dieOf r == d)
    if l = [] then t else t.putFlight (.src (1024 + d)) (narrowTo l p) l) s

/-- Inject a packet (R180 to R184). Hardware stamps INST and SYS: from the owner of a source position's region; `p` carries them for a hub
engine. A misused multicast and a mask that is 0 as sent are discarded; each copy for a region that is not reachable is. -/
def Blk.inject (s : Blk) (p : StreamPkt) : Blk :=
  let p1 := if srcHub p.src then p
    else { p with inst := (s.ownerOf (regionOfPos p.src)).getD 0, sys := false,
                  pep := s.epoch (clusterOfPos p.src) % (if p.kind = kWblk ∨ p.kind = kRblk then 128 else 256) }
  if (p1.mc = 1 ∨ p1.mc = 2) ∧ (p1.vc ≠ 2 ∨ p1.mhi < p1.mlo) then s.dropRoute
  else if copyRegions p1 = [] then s.dropRoute
  else
    let ok := fun (r : Nat) => r == 64 || (s.reg .REGION_OK).toNat.testBit r
    let s1 := forL ((copyRegions p1).filter (fun r => !(ok r))) (fun _ t => t.dropRoute) s
    (s1.queueAt p1 ((copyRegions p1).filter ok)).pump

/-- Open a request of a source: a tag and its record; the packet carries the tag. The caller has checked for room. -/
def Blk.request1 (s : Blk) (rec : ReqRec) (p : StreamPkt) : Blk :=
  match s.freeTag p.src with
  | none => s
  | some t =>
    let r := { rec with flow := if p.vc = 0 ∨ p.vc = 2 then some (flowKey p.src p.dst p.vc) else none }
    ({ s with reqs := tblSet (p.src, t) r s.reqs }).inject { p with tag := t }

/-! ## Delivery -/

/-- The places where packets end their way: a cluster router's input, the hub side, or within one cluster. -/
def HopAt.final : HopAt → Bool
  | .loc => true
  | .buf b => decide (1344 ≤ b)
  | _ => false

/-- A packet arrives. One that the fabric holds is taken from the head of its last buffer, and no other packet of that buffer's channel can
pass it (R169); a packet that is still on its way, or behind another, does not arrive yet. A packet that the fabric does not hold comes
from outside the model's own traffic, and arrives (DESIGN CHOICE, log entry 102). -/
def fabricIn (p : StreamPkt) (f : StreamPkt → Blk → Blk) (s : Blk) : Blk :=
  if s.flights.any (fun x => x.carries p) then
    match s.heads.find? (fun x => x.place.final && x.carries p) with
    | some x => (f (copyTo (x.dsts.getD 0 64) x.pkt) (s.unqueue x)).pump
    | none => s
  else f p s

/-! ## Hub engines that move data as a whole -/

/-- A hub engine's traffic of `n` bytes to a drawer, in `k` packets of a channel, moved as a whole by the command that ends it: it is stamped
with its instance (none: SYS), discarded where the region is not reachable or has another owner, charged to the flow of the hub port and
counted at the ports it leaves (R180, R181, R189, R197). -/
def Blk.engineTrip (s : Blk) (inst : Option Nat) (pos k n : Nat) (vc : Nat := 2) : Blk × Bool :=
  let r := regionOfPos pos
  let d := dieOf r
  if !((s.reg .REGION_OK).toNat.testBit r) then (s.dropRoute, false)
  else
    let s1 := (s.spend (1024 + d, vc, r) (n + 16 * k)).countHub d vc k (n + 16 * k)
    let s2 := forL (xyRoute 16 (hubRegion d) r) (fun rp t => t.countPort rp vc k (n + 16 * k)) s1
    match inst with
    | none => (s2.countPort (r, pos / 16 % 16) vc k (n + 16 * k), true)
    | some i =>
      if s.ownerOf r = some i then (s2.countPort (r, pos / 16 % 16) vc k (n + 16 * k), true)
      else (s2.dropInst { vc := vc, kind := kData, dst := epPos pos 0, src := 0, inst := i }, false)

/-- The answer of a drawer to a hub engine, on VC1. -/
def Blk.engineAnswer (s : Blk) (pos n : Nat) : Blk :=
  let r := regionOfPos pos
  let h := hubRegion (dieOf r)
  (forL (xyRoute 16 r h) (fun rp t => t.countPort rp 1 1 (n + 16)) s).countPort (h, 20) 1 1 (n + 16)

/-- A hub engine reads drawer ranges, each within a block: one request on VC0 and its answer; false where a request was discarded, which
is never answered (R181). The hub's own buffers are no drawers. -/
def Blk.engineReads (s : Blk) (inst : Nat) (ps : List (Nat × Nat)) : Blk × Bool :=
  ps.foldl (fun (acc : Blk × Bool) p =>
    if p.1 ≥ stagingBase then acc
    else
      let e := acc.1.engineTrip (some inst) (posOfDpa p.1) 1 0 0
      if e.2 then (e.1.engineAnswer (posOfDpa p.1) p.2, acc.2) else (e.1, false)) (s, true)

/-- A hub engine writes drawer ranges, each within a block: one VC2 packet for each; false where one was discarded. -/
def Blk.engineWrites (s : Blk) (inst : Nat) (ps : List (Nat × Nat)) : Blk × Bool :=
  ps.foldl (fun (acc : Blk × Bool) p =>
    if p.1 ≥ stagingBase then acc
    else
      let e := acc.1.engineTrip (some inst) (posOfDpa p.1) 1 p.2
      (e.1, acc.2 && e.2)) (s, true)

/-- No access of the device to these ranges waits for a granule in FLUSHING (R344) or for a region below PL0 (R443, R444). -/
def Blk.awake (s : Blk) (ps : List (Nat × Nat)) : Bool := ps.all (fun p => !(s.flushing p.1 p.2) && !(s.asleep p.1))

/-- An access that waits starts the exits of its regions (R443). -/
def Blk.wakePieces (s : Blk) (ps : List (Nat × Nat)) : Blk := forL ps (fun p t => t.wakeDpa p.1) s

/-- The hub port's flows to the drawers of these ranges may inject (R189). -/
def Blk.engineTokens (s : Blk) (vc : Nat) (ps : List (Nat × Nat)) : Bool :=
  ps.all (fun p => decide (p.1 ≥ stagingBase) || s.keyOpen (1024 + dieOf (regionOfPos (posOfDpa p.1)), vc, regionOfPos (posOfDpa p.1)))

/-- The engine's accesses to these ranges proceed now. -/
def Blk.engineOpen (s : Blk) (vc : Nat) (ps : List (Nat × Nat)) : Bool := s.awake ps && s.engineTokens vc ps

/-! ## Own and other clusters -/

/-- Does the position reach this drawer byte through the mesh (R12)? -/
def remoteDpa (pos dpa : Nat) : Bool := decide (clusterOfPos (posOfDpa dpa) ≠ clusterOfPos pos)

/-- A packet from a position to the drawer that holds an SRAM address. -/
def pktTo (pos dpa kind : Nat) : StreamPkt :=
  { vc := kindVc kind, kind := kind, dst := epPos (posOfDpa dpa) 0, src := pos, off := dpa % 2 ^ 21 }

end Sys2Proof.Machine
end

