-- ==== Sys2Proof/Machine/Mailbox.lean ====
section
/-! DEFINITION. The mailbox FIFOs (R384 to R387): one design for the cores and for the host replies. -/

namespace Sys2Proof.Machine

/-- The banks swap when the drain bank is empty and the fill bank holds a packet (R385). Packets are written whole. -/
def MBox.swap (m : MBox) : MBox :=
  if m.drain = [] ∧ m.fill ≠ [] then { m with drain := m.fill, fill := [], bank := !m.bank } else m

/-- The words of a packet: END on the last. -/
def packetWords (l : List Nat) : List MWord :=
  (l.zip (List.range l.length)).map (fun x => { data := x.1, last := decide (x.2 + 1 = l.length) })

/-- Does a whole packet fit in the fill bank of `cap` words? -/
def MBox.fits (m : MBox) (cap : Nat) (l : List Nat) : Bool := decide (m.swap.fill.length + l.length ≤ cap)

/-- Write a packet that fits. -/
def MBox.put (m : MBox) (l : List Nat) : MBox :=
  let m1 := m.swap
  { m1 with fill := m1.fill ++ packetWords l, pkts := m1.pkts + 1 }.swap

/-- Read the oldest word and remove it; none when no packet is in either bank. -/
def MBox.take (m : MBox) : Option MWord × MBox :=
  let m1 := m.swap
  match m1.drain with
  | [] => (none, m1)
  | w :: t => (some w, { m1 with drain := t, pkts := if m1.atStart then m1.pkts - 1 else m1.pkts, atStart := w.last }.swap)

end Sys2Proof.Machine
end

