-- ==== Sys2Proof/Machine/Pieces.lean ====
section
/-! DEFINITION. What the engines share: mailboxes of positions (R384, R385), tile destinations (R110, R114), and the pieces of
memory that moves and collectives read and write (R157 to R160). -/

namespace Sys2Proof.Machine

/-! ## The mailbox of a position -/

/-- Words per bank of a core's mailbox and of a host reply mailbox (R384). -/
def coreBank : Nat := 32
def hostBank : Nat := 256

/-- The mailbox of a position. -/
def Blk.mb (s : Blk) (p : Nat) : MBox := tblGet {} p s.mbox
def Blk.setMb (s : Blk) (p : Nat) (m : MBox) : Blk := { s with mbox := tblSet p m s.mbox }

/-- The words of a mailbox packet. -/
def mbxWords (l : List Byte) : List Nat := (List.range (l.length / 8)).map (fun k => fieldAt l (8 * k) 8)

/-- A packet reaches a core's mailbox: it is written once it fits, in order behind those that wait (R385). `from` is the SEND
it belongs to. -/
def Blk.mbArrive (s : Blk) (p : Nat) (words : List Nat) (snd : Option (Nat × Nat)) : Blk :=
  let m := s.mb p
  let mark := fun (s : Blk) => match snd with
    | some x => { s with sendAcc := s.sendAcc ++ [x] }
    | none => s
  if m.waiting.isEmpty && m.fits coreBank words then mark (s.setMb p (m.put words))
  else
    let tag := match snd with
      | some x => [x.1 + 1, x.2]
      | none => [0, 0]
    s.setMb p { m with waiting := m.waiting ++ [tag ++ words] }

/-- Packets that wait are written as space appears. -/
def Blk.mbDrain : Nat → Blk → Nat → Blk
  | 0, s, _ => s
  | k + 1, s, p =>
    let m := s.mb p
    match m.waiting with
    | (a :: id :: words) :: rest =>
      if m.fits coreBank words then
        let s1 := s.setMb p ({ m with waiting := rest }.put words)
        let s2 := if a = 0 then s1 else { s1 with sendAcc := s1.sendAcc ++ [(a - 1, id)] }
        Blk.mbDrain k s2 p
      else s
    | _ => s

/-! ## Tiles and their destinations -/

/-- The destinations of an MXMS: the packed positions that its word names (R114). -/
def mxmsDests (x : Nat) : List Nat :=
  let ep := bits x 29 0
  let pos := bits ep 17 4
  let lo := bits x 34 32
  let hi := bits x 37 35
  let range := (List.range 8).filter (fun k => decide (lo ≤ k) && decide (k ≤ hi))
  match bits x 31 30 with
  | 1 => range.map (fun k => (pos / 256 / 8 * 8 + k) * 256 + pos % 256)
  | 2 => range.map (fun k => (k * 8 + pos / 256 % 8) * 256 + pos % 256)
  | _ => [pos]

/-- Bytes of an output tile without its scales (R110). -/
def tileSize (f : Fmt) : Nat := if f = .w128 then 8192 else 64 * f.width
/-- Scale bytes of an output tile. -/
def tileScales (f : Fmt) : Nat := if f.isMx then 16 else 0

/-- An illegal MXMS destination word (R114). -/
def destBad (x : Nat) : Bool :=
  let mode := bits x 31 30
  let lo := bits x 34 32
  let hi := bits x 37 35
  decide (bits x 29 18 ≠ 0) || decide (mode = 3) || decide (bits x 62 59 ≠ 0) || decide (bits x 58 38 % 64 ≠ 0) ||
    (decide (mode = 0) && (decide (lo ≠ 0) || decide (hi ≠ 0))) || decide (hi < lo)

/-- A destination region that does not belong to the instance (R114), or that its map gives no WR right (R133). -/
def Blk.destUnmapped (s : Blk) (inst x : Nat) : Bool :=
  (mxmsDests x).any (fun p => s.ownerOf (regionOfPos p) != some inst ||
    !((List.range 64).any (fun e => let m := tblGet 0 e (s.inst inst).map
        entryAllows m .wr && bits m 5 0 == regionOfPos p)))

/-! ## Staging blocks and pieces of memory -/

/-- One context slot of the collective engine. -/
def Blk.ctx (s : Blk) (c : Nat) : Ctx := tblGet {} c s.ctxs
def Blk.setCtx (s : Blk) (c : Nat) (x : Ctx) : Blk := { s with ctxs := tblSet c x s.ctxs }

/-- A move address names a staging block (R377). -/
def isStaging (a : Nat) : Bool := a.testBit 63

/-- The DPA that offset `o` of a move address names. -/
def Blk.moveDpa (s : Blk) (i a o : Nat) (acc : Access) : Option Nat :=
  if isStaging a then
    let off := bits a 25 0 + o
    ((s.ctx (bits a 35 26)).blocks[off / 4096]?).map (fun b => stagingBase + b * 4096 + off % 4096)
  else match s.translate i (a + o) acc with
    | .drawer d => some d
    | _ => none

/-- The pieces of [o, o + n) of a move address, each within one 4 KiB block: DPA and length; none where a byte leads
nowhere. -/
def Blk.movePieces (s : Blk) (i a o n : Nat) (acc : Access) : Option (List (Nat × Nat)) :=
  let ps := piecesOf (bits a 25 0 + o) n
  let l := ps.map (fun p => (s.moveDpa i a (p.1 - bits a 25 0) acc, p.2))
  if l.any (fun x => x.1.isNone) then none else some (l.map (fun x => (x.1.getD 0, x.2)))

/-- The instance address of a mask of `n` bits lies in drawers (R158). -/
def Blk.maskOk (s : Blk) (i a n : Nat) : Bool :=
  decide (a < 2 ^ 40) && (s.granulePieces i a ((n + 7) / 8) .wr).isSome

/-- The mask of the failed fragments. -/
def maskOf (l : List Nat) : Nat := l.foldl (fun m f => m ||| 2 ^ f) 0

/-- Write a mask longer than 64 bits (R158). -/
def Blk.writeMask (s : Blk) (i addr n : Nat) (failed : List Nat) : Blk :=
  if n ≤ 64 then s
  else match s.granulePieces i addr ((n + 7) / 8) .wr with
    | some ps => (ps.foldl (fun (acc : Blk × List Byte) p => (acc.1.memWrite p.1 (acc.2.take p.2), acc.2.drop p.2))
        (s, toLe ((n + 7) / 8) (maskOf failed))).1
    | none => s

/-- Poison the block of a DPA (R160). -/
def Blk.poisonDpa (s : Blk) (a : Nat) : Blk := { s with mem := s.mem.setPoison a }

/-- Read the source pieces of a fragment: the bytes, and whether a block is poisoned or a word uncorrectable. -/
def Blk.readPieces (s : Blk) (ps : List (Nat × Nat)) : Blk × List Byte × Bool :=
  let bad := ps.any (fun p => s.mem.poisoned p.1 || s.mem.uncorrIn p.1 p.2)
  let l := ps.flatMap (fun p => s.mem.bytes p.1 p.2)
  (forL ps (fun p t => (t.readCheck p.1 p.2).wakeDpa p.1) s, l, bad)

/-- Write the pieces of a fragment. -/
def Blk.writePieces (s : Blk) (ps : List (Nat × Nat)) (l : List Byte) : Blk :=
  (ps.foldl (fun (acc : Blk × List Byte) p => (acc.1.memWrite p.1 (acc.2.take p.2), acc.2.drop p.2)) (s, l)).1

end Sys2Proof.Machine
end

