-- ==== Sys2Proof/Machine/Coll.lean ====
section
/-! DEFINITION. The collective engine at work: contributions, rounds, algorithms, results and completions (R232 to R252). -/

namespace Sys2Proof.Machine

/-! ## Contexts and tiles -/

def Blk.modCtx (s : Blk) (c : Nat) (f : Ctx → Ctx) : Blk := s.setCtx c (f (s.ctx c))
def Ctx.round (x : Ctx) (r : Nat) : CRound := tblGet {} r x.rounds
def Blk.modRound (s : Blk) (c r : Nat) (f : CRound → CRound) : Blk :=
  s.modCtx c (fun x => { x with rounds := tblSet r (f (x.round r)) x.rounds })

/-- The operations (R232). -/
def opAllreduce : Nat := 0
def opReduceScatter : Nat := 1
def opAllgather : Nat := 2
def opBroadcast : Nat := 3
def opAlltoall : Nat := 4
def opBarrier : Nat := 5

/-- The buffer's format, the bytes of a tile as the engine counts them, and with an MX tile's scale bytes (R110, R232). -/
def Ctx.format (x : Ctx) : Fmt := (Fmt.ofCode x.fmt).getD .bf16
def Ctx.tileBytes (x : Ctx) : Nat := tileSize x.format
def Ctx.tileLen (x : Ctx) : Nat := tileSize x.format + tileScales x.format
/-- A row of a tile, with its scale byte (R247). -/
def Ctx.rowLen (x : Ctx) : Nat := x.tileBytes / 16 + tileScales x.format / 16

/-- The instance is in IMPLICIT mode (R237). -/
def Blk.collImplicit (s : Blk) (i : Nat) : Bool := s.flag F.COLI_CFG_COLL_MODE i

/-- Tiles that the local positions contribute: none off the root of a BROADCAST, an arrival for a BARRIER. -/
def Ctx.nlocal (x : Ctx) : Nat :=
  if x.op = opBarrier then 1 else if x.op = opBroadcast ∧ x.rank ≠ x.root then 0 else x.ntile

/-- A round is open when the engine accepts it (R239). -/
def Ctx.isOpen (x : Ctx) (r : Nat) : Bool := decide (x.rnd ≤ r) && decide (r < x.rnd + x.nbufR)

/-- Has anything happened in the round? -/
def Ctx.busy (x : Ctx) (q : CRound) : Bool :=
  q.asked || q.begun || !q.contribs.isEmpty || !q.inbox.isEmpty || decide (q.cur ≠ 0) || !q.placed.isEmpty || !q.lost.isEmpty || !q.failed.isEmpty || !q.ends.isEmpty ||
    (q.closed && decide (x.nlocal ≠ 0))

/-- Does a tile hold a NaN, or a W128 NAN, PINF or NINF (R252)? -/
def tileNan (f : Fmt) (l : List Byte) : Bool :=
  if f = .w128 then (List.range 512).any (fun k =>
    let t := (w128Read (BitVec.ofNat 128 (fieldAt l (16 * k) 16))).1
    t == .nan || t == .pinf || t == .ninf)
  else match f.fl with
    | none => f.isMx && (l.drop (tileSize f)).any (fun b => b == 0xFF)
    | some ff => (List.range 512).any (fun k => ff.decode (packedElem f.width l k) == .nan) ||
        (f.isMx && (l.drop (tileSize f)).any (fun b => b == 0xFF))

/-- Does a W128 tile hold OVR (R242)? -/
def tileOvr (l : List Byte) : Bool :=
  (List.range 512).any (fun k => (w128Read (BitVec.ofNat 128 (fieldAt l (16 * k) 16))).1 == .ovr)

/-! ## Adding in the format of the data (R53, R242, R243) -/

/-- Combine two elements of a floating format: a sum rounded once to nearest even, or the larger or smaller (R101). -/
def redElem (f : FFmt) (rop a b : Nat) : Nat :=
  let x := f.decode a
  let y := f.decode b
  if rop = 0 then (f.encode (fAdd x y).1).1
  else if x = .nan ∨ y = .nan then f.qnan
  else if rop = 1 then (if minLt x y then b else a)
  else (if minLt y x then b else a)

/-- Combine two buffers of a format: the first is the value added first. -/
def redBytes (f : Fmt) (rop : Nat) (a b : List Byte) : List Byte :=
  if f = .w128 then (List.range 512).flatMap (fun k =>
    toLe 16 (w128Add (BitVec.ofNat 128 (fieldAt a (16 * k) 16)) (BitVec.ofNat 128 (fieldAt b (16 * k) 16))).1.toNat)
  else match f.fl with
    | none => a
    | some ff => packElems f.width ((List.range 512).map (fun k => redElem ff rop (packedElem f.width a k) (packedElem f.width b k)))

/-- Combine two tiles; poison enters the result. -/
def Ctx.combine (x : Ctx) (a b : CTile) : CTile := { data := redBytes x.format x.rop a.data b.data, bad := a.bad || b.bad }

/-- A format that the engine adds (R242). -/
def isAddable (f : Fmt) : Bool := f == .w128 || f == .fp32 || f == .bf16 || f == .fp16

/-- The package stage of a tile (R241): its final contributions in ascending POS order, exactly for W128. In a format that is
not added the contribution of the lowest POS counts (DESIGN CHOICE, log entry 28). -/
def Ctx.packageSum (x : Ctx) (l : List CTile) : CTile :=
  let bad := l.any (fun c => c.bad)
  match l with
  | [] => { data := [], bad := true }
  | c :: t =>
    if !(isAddable x.format) then { data := c.data, bad := bad }
    else if x.format = .w128 then
      { bad := bad, data := (List.range 512).flatMap (fun k =>
          let vs := l.map (fun d => w128Read (BitVec.ofNat 128 (fieldAt d.data (16 * k) 16)))
          let tag := vs.foldl (fun g v => g.join v.1) .fin
          toLe 16 (wReadOut tag (vs.foldl (fun n v => n + v.2) 0)).1.toNat) }
    else { bad := bad, data := t.foldl (fun d c => redBytes x.format x.rop d c.data) c.data }

/-! ## Algorithms (R245) -/

/-- A range of tiles: the first, and how many. -/
abbrev Rng := Nat × Nat

/-- Chunk j of a range split into m parts (R232). -/
def chunk (r : Rng) (m j : Nat) : Rng := (r.1 + j * r.2 / m, (j + 1) * r.2 / m - j * r.2 / m)

/-- What a step does with what it receives: add it before the own value, after it, or take it. -/
inductive Merge where
  | before | after | copy
  deriving DecidableEq, Repr

/-- One step of an algorithm at one rank: its STEP number, the rank it sends to with what, the rank it receives from with
what. -/
structure CStep where
  step : Nat
  send : Option (Nat × List Rng) := none
  recv : Option (Nat × List Rng × Merge) := none
  deriving DecidableEq, Repr

/-- A group of ranks that runs one algorithm: its size, the place of this rank and the rank at each place. -/
structure CGrp where
  size : Nat
  idx : Nat
  ranks : List Nat

def CGrp.rankAt (g : CGrp) (k : Nat) : Nat := g.ranks.getD (k % g.size) 0

/-- Levels of a tree of m. -/
def levels (m : Nat) : Nat := if m ≤ 1 then 0 else Nat.log2 (m - 1) + 1

/-- FLAT_RING, reduce phase, over the chunks of `sh`, from step `b`. -/
def CGrp.ringReduce (g : CGrp) (sh : Rng) (b : Nat) : List CStep :=
  (List.range (g.size - 1)).map (fun k =>
    { step := b + k, send := some (g.rankAt (g.idx + 1), [chunk sh g.size ((g.idx + g.size - (k + 1)) % g.size)]),
      recv := some (g.rankAt (g.idx + g.size - 1), [chunk sh g.size ((g.idx + 2 * g.size - (k + 2)) % g.size)], .before) })

/-- FLAT_RING, gather phase: `item` gives what each place starts with. -/
def CGrp.ringGather (g : CGrp) (item : Nat → List Rng) (b : Nat) : List CStep :=
  (List.range (g.size - 1)).map (fun k =>
    { step := b + k, send := some (g.rankAt (g.idx + 1), item ((g.idx + g.size - k) % g.size)),
      recv := some (g.rankAt (g.idx + g.size - 1), item ((g.idx + 2 * g.size - 1 - k) % g.size), .copy) })

/-- A chain from place 0 to the last: FLAT_RING of a BROADCAST. -/
def CGrp.chain (g : CGrp) (all : List Rng) (b : Nat) : List CStep :=
  (if g.idx = 0 then [] else [{ step := b + (g.idx - 1), recv := some (g.rankAt (g.idx - 1), all, .copy) }]) ++
  (if g.idx + 1 = g.size then [] else [{ step := b + g.idx, send := some (g.rankAt (g.idx + 1), all) }])

/-- FLAT_TREE towards place 0: `up lo hi` is what the subtree of places lo to hi − 1 sends. -/
def CGrp.treeUp (g : CGrp) (up : Nat → Nat → List Rng) (m : Merge) (b : Nat) : List CStep :=
  (List.range (levels g.size)).flatMap (fun t =>
    let w := 2 ^ t
    if g.idx % (2 * w) = 0 ∧ g.idx + w < g.size then
      [{ step := b + t, recv := some (g.rankAt (g.idx + w), up (g.idx + w) (min g.size (g.idx + 2 * w)), m) }]
    else if g.idx % (2 * w) = w then [{ step := b + t, send := some (g.rankAt (g.idx - w), up g.idx (min g.size (g.idx + w))) }]
    else [])

/-- The result goes back down the same tree. -/
def CGrp.treeDown (g : CGrp) (all : List Rng) (b : Nat) : List CStep :=
  let n := levels g.size
  (List.range n).flatMap (fun j =>
    let w := 2 ^ (n - 1 - j)
    if g.idx % (2 * w) = 0 ∧ g.idx + w < g.size then [{ step := b + j, send := some (g.rankAt (g.idx + w), all) }]
    else if g.idx % (2 * w) = w then [{ step := b + j, recv := some (g.rankAt (g.idx - w), all, .copy) }]
    else [])

/-- The group of one stage, turned so that the root's place is 0. `stride` separates neighbours, `size` is their number. -/
def stageGrp (rank root stride size : Nat) : CGrp :=
  let i := rank / stride % size
  let o := root / stride % size
  let base := rank - i * stride
  { size := size, idx := (i + size - o) % size, ranks := (List.range size).map (fun k => base + (k + o) % size * stride) }

/-- The stages as (stride, size), stage 1 first. -/
def Ctx.stages (x : Ctx) : List (Nat × Nat) :=
  if x.alg = 3 then [(1, x.t), (x.t, x.s), (x.t * x.s, x.ndev / (x.t * x.s))] else [(1, x.ndev)]

/-- Does a stage whose share has at most `n` tiles run as a ring? -/
def Ctx.isRing (x : Ctx) (ringMin n : Nat) : Bool :=
  x.op != opBarrier && (x.alg == 1 || (x.alg == 3 && decide (n * x.tileBytes ≥ ringMin)))

/-- The STEP numbers that a stage takes: those of a ring where its largest share runs as one. -/
def Ctx.stageSteps (x : Ctx) (ringMin n m : Nat) : Nat := if x.isRing ringMin n then m - 1 else levels m

/-- One stage of a reduction at this rank: its group, whether its share runs as a ring, the share (none where this rank is left out) and the
STEP numbers that the stage takes. -/
structure CStage where
  grp : CGrp
  ring : Bool
  share : Option Rng
  win : Nat

/-- The reduce phases of the share `sh`, which this rank holds where `act`: their steps, the stages, the next step number and the share at
the end. `n` is the largest share of the stage. A stage runs by its own share (R245); a rank left out follows the share of its group's
place 0. -/
def Ctx.reducePhases (x : Ctx) (ringMin : Nat) :
    List (Nat × Nat) → Rng → Bool → Nat → Nat → List CStep × List CStage × Nat × Option Rng
  | [], sh, act, _, b => ([], [], b, if act then some sh else none)
  | (st, m) :: rest, sh, act, n, b =>
    let g := stageGrp x.rank x.root st m
    let ring := x.isRing ringMin sh.2
    let win := x.stageSteps ringMin n m
    let steps := if !act then [] else if ring then g.ringReduce sh b else g.treeUp (fun _ _ => [sh]) .after b
    let r := x.reducePhases ringMin rest (if ring then chunk sh m g.idx else sh) (act && (ring || g.idx == 0))
      (if x.isRing ringMin n then (n + m - 1) / m else n) (b + win)
    (steps ++ r.1, { grp := g, ring := ring, share := if act then some sh else none, win := win } :: r.2.1, r.2.2.1, r.2.2.2)

/-- The gather phases and tree descents, last stage first. -/
def gatherPhases : List CStage → Nat → List CStep
  | [], _ => []
  | y :: rest, b =>
    (match y.share with
      | none => []
      | some r => if y.ring then y.grp.ringGather (fun j => [chunk r y.grp.size j]) b else y.grp.treeDown [r] b) ++
      gatherPhases rest (b + y.win)

/-- The ranks whose tiles this rank's place holds before stage `k` of an ALLGATHER (stages run last first). -/
def heldRanks (rank ndev : Nat) (st : List (Nat × Nat)) (k : Nat) : List Nat :=
  match st[k]? with
  | none => [rank]
  | some (stride, m) =>
    let w := stride * m
    (List.range (ndev / w)).map (fun j => rank % w + j * w)

/-- The stages of an ALLGATHER, last first. -/
def Ctx.gatherAll (x : Ctx) (ringMin : Nat) : Nat → Nat → List CStep
  | 0, _ => []
  | k + 1, b =>
    match x.stages[k]? with
    | none => []
    | some (stride, m) =>
      let g := stageGrp x.rank 0 stride m
      let item := fun (j : Nat) => (heldRanks (g.rankAt j) x.ndev x.stages k).map (fun q => (q * x.ntile, x.ntile))
      let n := (heldRanks x.rank x.ndev x.stages k).length * x.ntile
      if x.isRing ringMin n then g.ringGather item b ++ x.gatherAll ringMin k (b + (m - 1))
      else
        g.treeUp (fun lo hi => (List.range (hi - lo)).flatMap (fun j => item (lo + j))) .copy b ++
          g.treeDown ((List.range m).flatMap item) (b + levels m) ++ x.gatherAll ringMin k (b + 2 * levels m)

/-- The stages of a BROADCAST, last first: a stage is for the ranks that agree with the root below it. -/
def Ctx.spread (x : Ctx) (ringMin : Nat) : Nat → Nat → List CStep
  | 0, _ => []
  | k + 1, b =>
    match x.stages[k]? with
    | none => []
    | some (stride, m) =>
      let g := stageGrp x.rank x.root stride m
      let ring := x.isRing ringMin x.ntile
      (if x.rank % stride = x.root % stride then (if ring then g.chain [(0, x.ntile)] b else g.treeDown [(0, x.ntile)] b) else []) ++
        x.spread ringMin k (b + (if ring then m - 1 else levels m))

/-- The steps of one round at this rank. With MCAST the root's group send is no step of its schedule (DESIGN CHOICE, log entry 57). -/
def Ctx.steps (x : Ctx) (ringMin : Nat) : List CStep :=
  let fromRoot : List CStep := if x.rank = x.root then [] else [{ step := 0, recv := some (x.root, [(0, x.ntile)], .copy) }]
  if x.op ≤ 1 then
    let r := x.reducePhases ringMin x.stages (0, x.ntile) true x.ntile 0
    r.1 ++ (if x.op = opAllreduce then gatherPhases r.2.1.reverse r.2.2.1 else [])
  else if x.op = opAllgather then x.gatherAll ringMin x.stages.length 0
  else if x.op = opBroadcast then (if x.flags.testBit 1 then fromRoot else x.spread ringMin x.stages.length 0)
  else if x.op = opBarrier then
    let r := x.reducePhases ringMin x.stages (0, 0) true 0 0
    r.1 ++ (if x.flags.testBit 1 then fromRoot else gatherPhases r.2.1.reverse r.2.2.1)
  else []

/-- The result tiles that this rank receives (R232, R245). -/
def Ctx.results (x : Ctx) (ringMin : Nat) : List Rng :=
  if x.op = opReduceScatter then ((x.reducePhases ringMin x.stages (0, x.ntile) true x.ntile 0).2.2.2).toList else [(0, x.nrtile)]

/-- RING_MIN in bytes; 0 is treated as 1 (R254). -/
def Blk.ringMin (s : Blk) : Nat := max 1 (s.getF F.COL_CFG_RING_MIN) * 4096

/-! ## Segments (R246) -/

/-- The header of a segment. -/
def Ctx.segHdr (x : Ctx) (r step kind first : Nat) : List Byte :=
  toLe 4 x.gctx ++ toLe 4 r ++ toLe 1 step ++ toLe 1 kind ++ toLe 2 x.rank ++ toLe 3 first ++ toLe 1 0

/-- The connection to a rank. -/
def Ctx.connTo (x : Ctx) (q : Nat) : Nat := (x.ptab.getD q (0, 0)).2

/-- The tiles of a range, cut into segments of at most 64 KiB: first tile and count. -/
def segPieces : Nat → Nat → Rng → List Rng
  | 0, _, _ => []
  | k + 1, m, (f, n) => if n = 0 then [] else (f, min m n) :: segPieces k m (f + min m n, n - min m n)

/-- A segment: its bytes, and the byte ranges of it that are poisoned. -/
abbrev SegOut := List Byte × List (Nat × Nat)

/-- Send a segment as an FT WRITE on a connection into the peer's staging (R246): the Dresser sends it as any other request of the connection, in
whole cipher blocks where it is encrypted. The window and the offset in it are free (DESIGN CHOICE, log entry 26). A connection that is not in RTS
carries none. -/
def Blk.sendSegment (s : Blk) (c : Nat) (g : SegOut) : Blk :=
  let x := tblGet {} c s.ft.conns
  if x.st ≠ .rts then s
  else
    let n := s.ft.segNext
    let pad := if x.enc then (16 - g.1.length % 16) % 16 else 0
    let l := g.1 ++ List.replicate pad 0
    let r : WReq := { q := 65536 + c, idx := n, conn := c, gen := s.genOf x.inst, wrt := .write, pad := pad, len := l.length, laddr := 0,
                      wtag := (Config.segTag c).toNat, roff := (Config.segOff c n).toNat, seg := some (l, g.2) }
    { s with ft := { s.ft with reqs := s.ft.reqs ++ [r], segNext := n + 1 } }

/-- The segments of a send of ranges of tiles. -/
def Ctx.dataSegs (x : Ctx) (q : CRound) (r step : Nat) (l : List Rng) : List SegOut :=
  let m := (65536 - 16) / x.tileLen
  (l.flatMap (fun g => segPieces (g.2 + 1) m g)).map (fun g =>
    let ts := (List.range g.2).map (fun k => tblGet { data := [], bad := true } (g.1 + k) q.buf)
    (x.segHdr r step 0 g.1 ++ ts.flatMap (fun t => slice t.data 0 x.tileLen),
     ((List.range g.2).filter (fun k => (ts.getD k { data := [] }).bad)).map (fun k => (16 + k * x.tileLen, x.tileLen))))

/-- What a send of a step puts out: DATA, or ARRIVE for a BARRIER. -/
def Ctx.sendSegs (x : Ctx) (q : CRound) (r step : Nat) (l : List Rng) : List SegOut :=
  if x.op = opBarrier then [(x.segHdr r step 2 0, [])] else x.dataSegs q r step l

/-- The devices of the multicast group (R185). -/
def Blk.groupDevs (s : Blk) (g : Nat) : List Nat :=
  (List.range 4096).filter (fun d => (s.getF F.MCG_MASK (g * 128 + d / 32)).testBit (d % 32) && decide (d ≠ s.getF F.DEV_ID_DEVNUM))

/-- One group send (R185). -/
def Blk.groupSend (s : Blk) (g : Nat) (segs : List SegOut) : Blk :=
  forL (s.groupDevs g) (fun d t =>
    let c := t.getF F.DEVRT_CTRL_CONN d
    let x := tblGet {} c t.ft.conns
    let ok := t.flag F.DEVRT_V d && x.st == .rts && decide (x.inst = t.getF F.FAB_CTRL_CTRL_INST)
    forL segs (fun g t => if ok then t.sendSegment c g else (t.count F.FWD_DROP_CNT_COUNT).event .fab 0 8) t) s

/-! ## Results (R235, R248, R249) -/

/-- Where result tile `t` of round `r` goes: the destination word, or none where the table's entry cannot be used. -/
def Blk.resultWord (s : Blk) (x : Ctx) (t : Nat) : Option Nat :=
  match s.drawerRange x.inst (x.rtab + 8 * t) 8 .rd with
  | none => none
  | some d =>
    let w := fieldAt (s.mem.bytes d 8) 0 8
    if s.mem.uncorrIn d 8 || destBad w || s.destUnmapped x.inst w then none else some w

/-- The drawer offset of a result (R235). -/
def Ctx.resultOff (x : Ctx) (w r : Nat) : Nat := bits w 58 38 + r % x.nbufR * x.rstride

/-- What the read of a table entry of `n` bytes leaves: an uncorrectable word is logged and poisons its block (R150). -/
def Blk.entryRead (s : Blk) (i a n : Nat) : Blk :=
  match s.drawerRange i a n .rd with
  | none => s
  | some d => s.readCheck d n

/-- Poison the blocks of each destination of a failed tile (R249). -/
def Blk.poisonResult (s : Blk) (x : Ctx) (r t : Nat) : Blk :=
  let s1 := s.entryRead x.inst (x.rtab + 8 * t) 8
  match s.resultWord x t with
  | none => s1
  | some w =>
    let o := x.resultOff w r
    forL (mxmsDests w) (fun p u =>
      forL (piecesOf (drawerBase p + o) (min x.tileLen (2 ^ 21 - o))) (fun b v => v.poisonDpa b.1) u) s1

/-- A result tile fails. -/
def Blk.failTile (s : Blk) (c r t : Nat) : Blk :=
  (s.poisonResult (s.ctx c) r t).modRound c r (fun q => { q with failed := q.failed ++ [t] })

/-- Bytes reach a destination: a whole block with its check, which verifies (R155), or part of one. -/
def Blk.placeBytes (s : Blk) (d : Nat) (l : List Byte) : Blk :=
  forL (piecesOf d l.length) (fun pc u =>
    let part := slice l (pc.1 - d) pc.2
    if pc.2 = 4096 then (u.memWriteChecked pc.1 part (checkOfCrc (crc32c part))).getD u else u.memWrite pc.1 part) s

/-- Place the pieces (offset and bytes) of result tile `t` at every destination and send the notes; the note's POS is open (DESIGN CHOICE, log
entry 29). A tile whose delivery fails its check twice fails; one discarded on its way is never answered and waits for the round's
timeout (R181), and one for a granule in FLUSHING, or for a region below PL0, waits (R344, R443). -/
def Blk.placeTile (s : Blk) (c r t : Nat) (pieces : List (Nat × List Byte)) (flags : Nat) : Blk :=
  let x := s.ctx c
  let s0 := s.entryRead x.inst (x.rtab + 8 * t) 8
  match s.resultWord x t with
  | none => s0.failTile c r t
  | some w =>
    let o := x.resultOff w r
    if o + x.tileLen > 2 ^ 21 ∨ (x.round r).corrupt.contains t then s0.failTile c r t
    else if !(s.awake ((mxmsDests w).map (fun p => (drawerBase p + o, x.tileLen)))) then
      (s.modRound c r (fun q => { q with waitTiles := q.waitTiles ++ [(t, pieces, flags)] })).wakePieces
        ((mxmsDests w).map (fun p => (drawerBase p + o, x.tileLen)))
    else
      let go := (mxmsDests w).foldl (fun (acc : Blk × List Nat) p =>
        let e := acc.1.engineTrip (some x.inst) p ((x.tileLen + 4095) / 4096) x.tileLen
        (e.1, if e.2 then acc.2 ++ [p] else acc.2)) (s0, [])
      let s1 := forL go.2 (fun p u => forL pieces (fun b v => v.placeBytes (drawerBase p + o + b.1) b.2) u) go.1
      if go.2.length < (mxmsDests w).length then s1.modRound c r (fun q => { q with lost := q.lost ++ [t] })
      else
        let s2 := if bitOf w 63 then
            (forL (mxmsDests w) (fun p u => u.mbArrive p [(Config.freeValue u.fresh).toNat % 2 ^ 14 + o * 2 ^ 14] none) s1).drawFree
          else s1
        s2.modRound c r (fun q => { q with placed := q.placed ++ [t], flags := q.flags ||| flags })

/-- Result tiles that are neither placed nor failed nor on their way. -/
def CRound.pending (q : CRound) (t : Nat) : Bool :=
  !(q.placed.contains t) && !(q.failed.contains t) && !(q.lost.contains t) && !(q.waitTiles.any (fun w => w.1 == t))
/-- A tile that was never answered, or that waits, keeps the round from finishing until it fails. -/
def CRound.answered (q : CRound) : Bool := q.lost.all (fun t => q.failed.contains t) && q.waitTiles.all (fun w => q.failed.contains w.1)

/-- The flags that a result tile sets (R252). -/
def Ctx.tileFlags (x : Ctx) (l : List Byte) : Nat :=
  b2n (decide (x.format = .w128) && tileOvr l) + 2 * b2n (tileNan x.format l)

/-- Tiles of a list of ranges. -/
def rngTiles (l : List Rng) : List Nat := l.flatMap (fun g => (List.range g.2).map (fun k => g.1 + k))
def inRngs (l : List Rng) (t : Nat) : Bool := l.any (fun g => decide (g.1 ≤ t) && decide (t < g.1 + g.2))

/-- Deliver the result tiles that no further step of the round receives. -/
def Blk.placeReady (s : Blk) (c r : Nat) : Blk :=
  let x := s.ctx c
  let q := x.round r
  let rest := (x.steps s.ringMin).drop q.cur
  let due := (rngTiles (x.results s.ringMin)).filter (fun t =>
    q.pending t && !(rest.any (fun st => match st.recv with
      | some (_, l, _) => inRngs l t
      | none => false)))
  forL due (fun t u =>
    match tblFind t q.buf with
    | some d => if d.bad then u.failTile c r t else u.placeTile c r t [(0, slice d.data 0 x.tileLen)] (x.tileFlags d.data)
    | none => u.failTile c r t) s

/-! ## ALLTOALL (R247) -/

/-- A row arrives for a slot: out of range, written twice, or kept. -/
def Ctx.putRow (x : Ctx) (q : CRound) (slot : Nat) (row : CTile) : CRound :=
  if slot ≥ 16 * x.nrtile then { q with flags := q.flags ||| 4 }
  else if (tblFind slot q.rows).isSome then { q with dup := q.dup ++ [slot], flags := q.flags ||| 8 }
  else { q with rows := tblSet slot row q.rows }

/-- Row `i` of a tile, with its scale byte. -/
def Ctx.rowOf (x : Ctx) (d : List Byte) (i : Nat) : List Byte :=
  let n := x.tileBytes / 16
  slice d (i * n) n ++ slice d (x.tileBytes + i) (tileScales x.format / 16)

/-- The index array's entry for an element: none where it cannot be read (DESIGN CHOICE, log entry 30). -/
def Blk.indexOf (s : Blk) (x : Ctx) (e : Nat) : Option Nat :=
  match s.drawerRange x.inst (x.idx + 4 * e) 4 .rd with
  | none => none
  | some d => if s.mem.uncorrIn d 4 then none else some (fieldAt (s.mem.bytes d 4) 0 4)

/-- The rows that a rank is sent: slot and row, in ascending element order. -/
def Ctx.rowsFor (x : Ctx) (q : CRound) (ix : List (Option Nat)) (dest : Nat) : List (Nat × CTile) :=
  (ix.zip (List.range ix.length)).filterMap (fun p =>
    match p.1 with
    | none => none
    | some v =>
      if v = 0xFFFFFFFF ∨ bits v 11 0 ≠ dest then none
      else
        let t := tblGet { data := [], bad := true } (p.2 / 16) q.buf
        some (bits v 31 12, { data := x.rowOf t.data (p.2 % 16), bad := t.bad }))

/-- Rows cut into segments: each row behind its 4-byte slot (DESIGN CHOICE, log entry 30). -/
def Ctx.rowSegs (x : Ctx) (r : Nat) : Nat → List (Nat × CTile) → List SegOut
  | 0, _ => []
  | k + 1, l =>
    if l.isEmpty then [] else
    let m := (65536 - 16) / (4 + x.rowLen)
    let a := l.take m
    (x.segHdr r 0 0 0 ++ a.flatMap (fun e => toLe 4 e.1 ++ slice e.2.data 0 x.rowLen),
     ((List.range a.length).filter (fun j => (a.getD j (0, { data := [] })).2.bad)).map (fun j => (16 + j * (4 + x.rowLen), 4 + x.rowLen))) :: x.rowSegs r k (l.drop m)

/-- The local part of an ALLTOALL has closed: its rows and ENDs leave. -/
def Blk.sendRows (s0 : Blk) (c r : Nat) : Blk :=
  let x := s0.ctx c
  let s := forN (16 * x.ntile) (fun e t => t.entryRead x.inst (x.idx + 4 * e) 4) s0
  let q := x.round r
  let ix := (List.range (16 * x.ntile)).map (fun e => s0.indexOf x e)
  let badIx := ix.any (fun v => match v with
    | none => true
    | some v => decide (v ≠ 0xFFFFFFFF) && decide (bits v 11 0 ≥ x.ndev))
  let q1 := (x.rowsFor q ix x.rank).foldl (fun q e => x.putRow q e.1 e.2)
    { q with flags := q.flags ||| 4 * b2n badIx, ends := q.ends ++ [x.rank] }
  let s1 := s.modRound c r (fun _ => q1)
  forL ((List.range x.ndev).filter (fun d => decide (d ≠ x.rank))) (fun d t =>
    let rows := x.rowsFor q ix d
    let segs := x.rowSegs r (rows.length + 1) rows ++ [(x.segHdr r 0 1 rows.length, [])]
    forL segs (fun g t => t.sendSegment (x.connTo d) g) t) s1

/-- Every END has arrived: each result tile is placed or fails. -/
def Blk.placeRows (s : Blk) (c r : Nat) : Blk :=
  let x := s.ctx c
  let q := x.round r
  forN x.nrtile (fun t u =>
    let slots := (List.range 16).map (fun i => (i, tblFind (16 * t + i) q.rows))
    let bad := slots.any (fun e => match e.2 with
      | some w => w.bad
      | none => false) || q.dup.any (fun d => decide (d / 16 = t))
    if !(q.pending t) then u
    else if bad then u.failTile c r t
    else
      let n := x.tileBytes / 16
      let zf := x.flags.testBit 0
      let row := fun (e : Nat × Option CTile) => match e.2 with
        | some w => some (slice w.data 0 x.rowLen)
        | none => if zf then some (List.replicate x.rowLen 0) else none
      let whole := slots.all (fun e => (row e).isSome)
      let img := slots.flatMap (fun e => ((row e).getD []).take n) ++ slots.flatMap (fun e => ((row e).getD []).drop n)
      let parts := slots.flatMap (fun e => match row e with
        | none => []
        | some l => (e.1 * n, l.take n) :: (if l.length > n then [(x.tileBytes + e.1, l.drop n)] else []))
      let flags := slots.foldl (fun k e => match e.2 with
        | some w => k ||| x.tileFlags (spliceAt (spliceAt (List.replicate x.tileLen 0) 0 (w.data.take n)) x.tileBytes (w.data.drop n))
        | none => k) 0
      u.placeTile c r t (if whole then [(0, img)] else parts) flags) s

/-! ## Running a round -/

/-- The segments in the inbox that a step receives. -/
def Seg.of (g : Seg) (step src : Nat) : Bool := g.step == step % 256 && g.src == src

/-- A tile that has arrived for a step. -/
def arrived (inbox : List Seg) (step src t : Nat) : Option CTile :=
  match inbox.find? (fun g => g.of step src && decide (g.first ≤ t) && decide (t < g.first + g.tiles.length)) with
  | some g => g.tiles[t - g.first]?
  | none => none

/-- Has everything that a step receives arrived? -/
def Ctx.stepMet (x : Ctx) (q : CRound) (st : CStep) : Bool :=
  match st.recv with
  | none => true
  | some (src, l, _) =>
    if x.op = opBarrier then q.inbox.any (fun g => g.of st.step src && g.kind == 2)
    else (rngTiles l).all (fun t => (arrived q.inbox st.step src t).isSome)

/-- Take what a step has received into the buffer; `lost` stands for a tile that has not arrived. Each merge leaves a W128 value, so a sum
out of range is OVR from that merge on (DESIGN CHOICE, log entry 105). A sum that fails its residue check twice fails its tile (R415). -/
def Ctx.stepTake (x : Ctx) (q : CRound) (st : CStep) : CRound :=
  match st.recv with
  | none => q
  | some (src, l, m) =>
    let lost : CTile := { data := [], bad := true }
    let sum := fun (t : Nat) (c : CTile) => { c with bad := c.bad || q.badSums.contains t }
    let take := fun (b : Tbl Nat CTile) (t : Nat) =>
      let d := (arrived q.inbox st.step src t).getD lost
      let own := tblGet lost t b
      tblSet t (match m with
        | .before => sum t (x.combine d own)
        | .after => sum t (x.combine own d)
        | .copy => d) b
    { q with buf := (rngTiles l).foldl take q.buf, inbox := q.inbox.filter (fun g => !(g.of st.step src)) }

/-- Send what a step sends. -/
def Blk.stepSend (s : Blk) (c r : Nat) (st : CStep) : Blk :=
  let x := s.ctx c
  let s1 := match st.send with
    | none => s
    | some (dst, l) => forL (x.sendSegs (x.round r) r st.step l) (fun g t => t.sendSegment (x.connTo dst) g) s
  s1.modRound c r (fun q => { q with sentCur := true })

/-- Every step is done: the root's group send, and the round has finished once every tile is placed or has failed. -/
def Blk.roundEnd (s : Blk) (c r : Nat) : Blk :=
  let x := s.ctx c
  let q := x.round r
  let s1 := if x.flags.testBit 1 ∧ x.rank = x.root ∧ !q.groupSent then s.groupSend x.mcgrp (x.sendSegs q r 0 [(0, x.ntile)]) else s
  s1.modRound c r (fun q => { q with finished := q.answered, groupSent := true })

/-- Run the steps of a closed round as far as its segments allow. With `force`, what is missing counts as poisoned. -/
def Blk.runSteps (force : Bool) : Nat → Blk → Nat → Nat → Blk
  | 0, s, _, _ => s
  | k + 1, s, c, r =>
    let x := s.ctx c
    let q := x.round r
    match (x.steps s.ringMin)[q.cur]? with
    | none => (s.placeReady c r).roundEnd c r
    | some st =>
      let s1 := if q.sentCur then s else s.stepSend c r st
      let q1 := (s1.ctx c).round r
      if force || x.stepMet q1 st then
        let s2 := s1.modRound c r (fun q => { x.stepTake q st with cur := q.cur + 1, sentCur := false })
        Blk.runSteps force k (if force then s2 else s2.placeReady c r) c r
      else s1

/-- Run a round that has closed and not finished. -/
def Blk.runRound (s : Blk) (c r : Nat) : Blk :=
  let x := s.ctx c
  let q := x.round r
  if !q.closed || q.finished then s
  else if x.op = opAlltoall then
    (if (List.range x.ndev).all (fun d => q.ends.contains d) then (s.placeRows c r).modRound c r (fun q => { q with finished := q.answered })
     else s)
  else Blk.runSteps false ((x.steps s.ringMin).length + 1) (s.placeReady c r) c r

/-- The local part of a round closes with these tiles (R241). -/
def Blk.closeLocal (s : Blk) (c r : Nat) (tiles : List CTile) : Blk :=
  let x := s.ctx c
  let base := if x.op = opAllgather then x.rank * x.ntile else 0
  let s1 := s.modRound c r (fun q => { q with
    closed := true, buf := (tiles.zip (List.range tiles.length)).map (fun p => (base + p.2, p.1)) })
  if x.op = opAlltoall then s1.sendRows c r else s1

/-! ## Staging (R131, R236, R240, R243) -/

/-- The staging blocks of tile `t` of a round and its `j`-th staged copy. In IMPLICIT mode each tile of a round has NCONT contributions and two
more, in HOST mode one source tile (DESIGN CHOICE, log entry 26). -/
def Ctx.stageDpas (x : Ctx) (implicit : Bool) (r t j : Nat) : List Nat :=
  let b := (x.tileBytes + 4095) / 4096
  let ix := if implicit then ((r % x.nbufR * x.ntile + t) * (x.ncont + 2) + j) * b else (r % 2 * x.ntile + t) * b
  ((x.blocks.drop ix).take b).map (fun k => stagingBase + k * 4096)

/-- Stage a tile: each of its blocks is written whole, the tile and then zeros, with its check; a bad one is poisoned. -/
def Blk.stagePut (s : Blk) (dpas : List Nat) (d : CTile) : Blk :=
  forL (dpas.zip (List.range dpas.length)) (fun e u =>
    let l := slice d.data (4096 * e.2) 4096
    let v := u.placeBytes e.1 l
    if d.bad then v.poisonDpa e.1 else v) s

/-- Read a staged tile back: a poisoned block or an uncorrectable word fails it. -/
def Blk.stageGet (s : Blk) (dpas : List Nat) (n : Nat) : Blk × CTile :=
  let ps := (dpas.zip (List.range dpas.length)).map (fun e => (e.1, min 4096 (n - 4096 * e.2)))
  let r := s.readPieces ps
  (r.1, { data := r.2.1, bad := r.2.2 || dpas.isEmpty })

/-- Final contributions to a tile, in ascending POS order. -/
def insertContrib (c : Contrib) : List Contrib → List Contrib
  | [] => [c]
  | d :: t => if c.pos ≤ d.pos then c :: d :: t else d :: insertContrib c t
def finalsOf (q : CRound) (t : Nat) : List Contrib :=
  (q.contribs.filter (fun c => c.tile == t && c.final)).foldl (fun l c => insertContrib c l) []

/-- Contributions that a tile needs (R241). -/
def Ctx.needed (x : Ctx) : Nat := if x.op = opBroadcast then 1 else x.ncont

/-- The package stage of one tile: its final contributions, read from staging. A tile that lacks one fails. -/
def Blk.sumTile (s : Blk) (c r t : Nat) : Blk × CTile :=
  let x := s.ctx c
  let l := finalsOf (x.round r) t
  let g := l.foldl (fun (acc : Blk × List CTile) k =>
    let d := acc.1.stageGet (x.stageDpas true r t k.slot) x.tileLen
    (d.1, acc.2 ++ [d.2])) (s, [])
  let d := x.packageSum g.2
  (g.1, if l.length < x.needed ∨ (x.round r).badSums.contains t then { d with bad := true } else d)

/-- Close the local part over the final contributions. -/
def Blk.closeContribs (s : Blk) (c r : Nat) : Blk :=
  let x := s.ctx c
  let g := (List.range (if x.op = opBarrier then 0 else x.nlocal)).foldl (fun (acc : Blk × List CTile) t =>
    let d := acc.1.sumTile c r t
    (d.1, acc.2 ++ [d.2])) (s, [])
  g.1.closeLocal c r g.2

/-- Has every group of CGROUP ended step r? -/
def Blk.groupsEnded (s : Blk) (x : Ctx) (r : Nat) : Bool :=
  x.cgroup != 0 && (List.range 16).all (fun g => !x.cgroup.testBit g || (tblFind (g, r) (tblGet {} x.inst s.tts).ended).isSome)

/-- Close the local part of a round of an IMPLICIT context where R241 closes it. -/
def Blk.tryClose (s : Blk) (c r : Nat) : Blk :=
  let x := s.ctx c
  let q := x.round r
  if q.closed || x.st == 0 || (x.st == 2 && !(x.busy q)) || !(s.collImplicit x.inst) then s
  else if (List.range x.nlocal).all (fun t => decide ((finalsOf q t).length ≥ x.needed)) || s.groupsEnded x r then s.closeContribs c r
  else s

/-- A position lies in the regions of the groups of CGROUP (R239). -/
def Blk.inGroups (s : Blk) (i cgroup pos : Nat) : Bool :=
  let gs := (tblGet {} i s.tts).groups
  (List.range 16).any (fun g => cgroup.testBit g && (match gs[g]? with
    | none => false
    | some gr => (List.range 64).any (fun e => gr.rmask.testBit e &&
        (let m := tblGet 0 e (s.inst i).map
         m.testBit 8 && bits m 5 0 == regionOfPos pos))))

/-- MXMR with collective word `x` is refused at issue (R115, R239). -/
def Blk.mxmrRefused (s : Blk) (i pos x : Nat) : Bool :=
  let c := s.ctx (bits x 15 0)
  let tile := bits x 39 16
  decide (bits x 63 40 ≠ 0) || !(s.collImplicit i) || c.st != 1 || c.inst != i ||
    (if c.op = opBarrier then decide (tile ≠ 0) else decide (tile ≥ c.ntile)) || (c.op == opBroadcast && c.rank != c.root) ||
    (c.cgroup != 0 && !(s.inGroups i c.cgroup pos))

/-- What a tile of format `f` raises when it is contributed (R115, R239): `we` is its accumulator's WE, none where no product has
set one. -/
def Blk.mxmrCause (s : Blk) (x : Nat) (f : Fmt) (we : Option Int) : Option Cause :=
  let c := s.ctx (bits x 15 0)
  if Fmt.ofCode c.fmt ≠ some f then some .badFormat
  else if f = .w128 ∧ we.isSome ∧ we ≠ some c.we then some .weMismatch else none

/-! ## Completion (R249 to R252) -/

/-- A status of a round: OK, PARTIAL, ABORTED, by its code of R383. -/
def Blk.collCpl (s : Blk) (c r : Nat) (x : Ctx) (q : CRound) (st : Status) : Blk :=
  let rest := toLe 2 c ++ toLe 1 q.flags ++ toLe 1 0 ++ toLe 4 r ++ toLe 8 (maskOf q.failed % 2 ^ 64)
  s.postCpl ((s.inst x.inst).qBase + x.cq) { data := cplBytes 5 st.code 0xFFFF 0 rest, fetched := false, inst := x.inst, gen := x.gen }

/-- The slot of a closing context with no open round becomes FREE. -/
def Blk.settleCtx (s : Blk) (c : Nat) : Blk :=
  let x := s.ctx c
  if x.st = 2 ∧ !(x.rounds.any (fun q => x.busy q.2)) then
    let s1 := { s with ctxs := tblErase c s.ctxs }
    match x.closing with
    | some ref => s1.reply ref .ok []
    | none => s1
  else s

/-- The oldest open round completes (DESIGN CHOICE, log entry 59). -/
def Blk.completeRound (s : Blk) (c : Nat) : Blk :=
  let x := s.ctx c
  let r := x.rnd
  let q := x.round r
  let i : Info := { inst := x.inst }
  let s1 := (s.setCtx c { x with rnd := r + 1, rounds := tblErase r x.rounds,
                                 timedOut := if q.flags.testBit 4 then x.timedOut ++ [r] else x.timedOut }).writeMask x.inst x.maskAddr x.nrtile q.failed
  let s2 := if q.failed = [] then s1.count F.COLC_DONE_COUNT c else (s1.count F.COLC_PARTIAL_COUNT c).event .col 0 0 i
  let s3 := if q.flags.testBit 0 then s2.event .col 0 3 i else s2
  let s4 := if q.flags.testBit 2 || q.flags.testBit 3 then s3.event .col 0 4 i else s3
  (s4.collCpl c r x q (if q.failed = [] then .ok else .partialFail)).settleCtx c

/-- Let a context do what it can: close, run and complete its open rounds. -/
def Blk.collAdvance : Nat → Blk → Nat → Blk
  | 0, s, _ => s
  | k + 1, s, c =>
    let x := s.ctx c
    if x.st = 0 then s
    else
      let s1 := forN x.nbufR (fun j t => (t.tryClose c (x.rnd + j)).runRound c (x.rnd + j)) s
      if ((s1.ctx c).round x.rnd).finished then Blk.collAdvance k (s1.completeRound c) c else s1

/-- `collAdvance` with enough steps for every round that can complete. -/
def Blk.collRun (s : Blk) (c : Nat) : Blk :=
  let x := s.ctx c
  (Blk.collAdvance (x.rounds.length + (tblGet {} x.inst s.tts).ended.length + x.nbufR + 1) s c).settleCtx c

/-- The context slots of an instance that are not FREE. -/
def Blk.ctxsOf (s : Blk) (i : Nat) : List Nat := (s.ctxs.filter (fun p => p.2.st != 0 && p.2.inst == i)).map (fun p => p.1)

/-- Change the contributions of every round. -/
def Blk.mapContribs (s : Blk) (f : List Contrib → List Contrib) : Blk :=
  { s with ctxs := s.ctxs.map (fun p => (p.1, { p.2 with rounds := p.2.rounds.map (fun q => (q.1, { q.2 with contribs := f q.2.contribs })) })) }

/-- The contributions of a step that restarts or ends without a commit are discarded (R240). -/
def Blk.collDrop (s : Blk) (sid : Nat) : Blk := s.mapContribs (fun l => l.filter (fun c => c.step ≠ sid || c.final))

/-- A step has ended (R240, R241): its contributions become final or are discarded, and rounds may close. -/
def Blk.collStepEnd (s : Blk) (i sid : Nat) (ok : Bool) : Blk :=
  let s1 := if ok then s.mapContribs (fun l => l.map (fun c => if c.step = sid then { c with final := true } else c)) else s.collDrop sid
  forL (s1.ctxsOf i) (fun c t => t.collRun c) s1

/-- The timeout of a round (R251): every unplaced fragment of a closed round fails; what is still to be sent goes with POISON. -/
def Blk.roundTimeout (s : Blk) (c r : Nat) : Blk :=
  let x := s.ctx c
  let q := x.round r
  if x.st = 0 ∨ !(x.isOpen r) ∨ !q.closed ∨ q.finished then s
  else
    let s1 := (s.modRound c r (fun q => { q with flags := q.flags ||| 16 })).event .col 0 1 { inst := x.inst }
    let s2 := if x.op = opAlltoall then s1 else Blk.runSteps true ((x.steps s.ringMin).length + 1)
      (s1.modRound c r (fun q => { q with failed := q.failed ++ (rngTiles (x.results s.ringMin)).filter (fun t => !(q.placed.contains t) && !(q.failed.contains t)) })) c r
    let s3 := if x.op = opAlltoall then
        (s2.modRound c r (fun q => { q with finished := true, failed := q.failed ++ (List.range x.nrtile).filter (fun t => !(q.placed.contains t) && !(q.failed.contains t)) }))
      else s2
    let late := ((s3.ctx c).round r).failed.filter (fun t => !(q.failed.contains t))
    (forL late (fun t u => u.poisonResult x r t) s3).collRun c

/-- A granule has left FLUSHING, or a region's exit has ended: the result tiles that waited are placed (R344, R443). -/
def Blk.placeWaiting (s : Blk) : Blk :=
  forL (s.ctxs.filter (fun p => p.2.rounds.any (fun q => !q.2.waitTiles.isEmpty))) (fun p t =>
    (forL p.2.rounds (fun q u =>
      forL (q.2.waitTiles.filter (fun w => !(q.2.failed.contains w.1))) (fun w v => v.placeTile p.1 q.1 w.1 w.2.1 w.2.2)
        (if q.2.waitTiles.isEmpty then u else u.modRound p.1 q.1 (fun z => { z with waitTiles := [] }))) t).collRun p.1) s

end Sys2Proof.Machine
end

