-- ==== Sys2Proof/Machine/Steps.lean ====
section
/-! DEFINITION. Steps: their start, commit, end, faults and replay (R82 to R88, R215, R220 to R227, R418 to R420), and the
taking of an exception by a thread. -/

namespace Sys2Proof.Machine

def Blk.tt (s : Blk) (i : Nat) : Timetable := tblGet {} i s.tts
def Blk.setTt (s : Blk) (i : Nat) (t : Timetable) : Blk := { s with tts := tblSet i t s.tts }
def Blk.modTt (s : Blk) (i : Nat) (f : Timetable → Timetable) : Blk := s.setTt i (f (s.tt i))
def Blk.modStep (s : Blk) (sid : Nat) (f : Step → Step) : Blk :=
  match tblFind sid s.steps with
  | some x => { s with steps := tblSet sid (f x) s.steps }
  | none => s

/-- Counters of TTI + 0x040 by index (R231). -/
def ttCnt (i n : Nat) : Nat := i * 9 + n

/-- Show a group's latest step in TTI_GRP (R231). -/
def Blk.showGrp (s : Blk) (i g sst att k : Nat) : Blk :=
  s.modTt i (fun t => { t with grp := tblSet g { sst := sst, attempt := att, k := k } t.grp })

/-- Steps of an instance's timetable that are still in progress. -/
def Blk.ttSteps (s : Blk) (i : Nat) : List Nat := (s.steps.filter (fun p => p.2.inst == i && p.2.job.isNone)).map (·.1)

/-- An unloaded timetable: what the registers say of its last halt, start and stop stays (R231). -/
def Timetable.unloaded (t : Timetable) : Timetable :=
  { st := .empty, haltStatus := t.haltStatus, b0 := t.b0, nsteps := t.nsteps, lastStop := t.lastStop }

/-- A halted or finished timetable returns to LOADED when its last step has ended; a waiting TT_UNLOAD then unloads it (R212). -/
def Blk.settleTt (s : Blk) (i : Nat) : Blk :=
  let t := s.tt i
  if (s.ttSteps i).isEmpty then
    match t.st with
    | .halted =>
      if t.unloadWait = [] then s.setTt i { t with st := .loaded }
      else forL t.unloadWait (fun c u => u.reply c .ok []) (s.setTt i t.unloaded)
    | .running =>
      -- after NSTEPS steps of every group, or past a stop beat with nothing left to start (TT_STOP)
      let allDone := t.nsteps ≠ 0 && (List.range t.groups.length).all (fun g =>
        (List.range t.nsteps).all (fun k => (tblFind (g, k) t.ended).isSome))
      let stopped := decide (t.stopBeat ≤ s.time.beat)
      if allDone || stopped then s.setTt i { t with st := .loaded } else s
    | _ => s
  else s

/-- Memory causes, whose record carries an address (R87, R374). -/
def Cause.isMemory : Cause → Bool
  | .align | .unmapped | .poisoned | .blockCheck | .eccUncorr => true
  | _ => false

/-- The type-specific bytes of a STEP completion (R374). -/
def stepCplRest (group attempt k beat : Nat) (flt : Option (Nat × FaultRec)) : List Byte :=
  let (cause, pos, pc, ad) := match flt with
    | some (p, r) => (r.cause.code, p, r.pc, if r.cause.isMemory then r.addr else 0)
    | none => (0, 0, 0, 0)
  toLe 1 (group % 16 + attempt % 16 * 16) ++ toLe 1 cause ++ toLe 2 pos ++ toLe 4 k ++ toLe 4 beat ++ toLe 5 pc ++ toLe 5 ad ++
    toLe 2 0

/-- Open or skip the gated send windows of a step that has ended (R225). -/
def Blk.gateWindows (s : Blk) (i g k : Nat) (committed : Bool) : Blk :=
  let t := s.tt i
  let mine := fun (w : SendWin) => w.group == g && w.k == k && !w.isOpen
  let inTime := fun (w : SendWin) => committed && decide (s.time.beat < w.closeAt)
  let skipped := (t.wins.filter (fun w => mine w && !inTime w)).length
  let wins := (t.wins.filter (fun w => !(mine w && !inTime w))).map (fun w => if mine w then { w with isOpen := true } else w)
  (s.setTt i { t with wins := wins }).countBy F.TTI_CNT_COUNT (ttCnt i 3) skipped

/-- The completion that a step of a timetable or of a job writes (R227). -/
def Blk.stepCpl (s : Blk) (x : Step) (st : Status) (flt : Option (Nat × FaultRec)) : Blk :=
  let rest := stepCplRest (if x.job.isSome then 0 else x.group) x.attempt x.k s.time.beat flt
  match x.job with
  | some (q, idx) => if x.gen ≠ s.genOf x.inst then s.genDrop x.inst true else s.finishEntry q idx (s.jobCq q) 1 st x.inst x.gen rest
  | none =>
    match (s.tt x.inst).groups[x.group]? with
    | none => s
    | some gr =>
      if gr.cqAll ∨ st ≠ .ok then
        s.postCpl ((s.inst x.inst).qBase + gr.cq)
          { data := cplBytes 1 st.code 0xFFFF 0 rest, fetched := false, inst := x.inst, gen := x.gen }
      else s

/-- Count how a timetable step ended (R231). -/
def Blk.countEnd (s : Blk) (i : Nat) (st : Status) : Blk :=
  match st with
  | .ok | .okLate => s.count F.TTI_CNT_COUNT (ttCnt i 0)
  | .stepSkipped => s.count F.TTI_CNT_COUNT (ttCnt i 3)
  | .depFailed => s.count F.TTI_CNT_COUNT (ttCnt i 4)
  | .stepFailed | .replayLost => s.count F.TTI_CNT_COUNT (ttCnt i 6)
  | _ => s

/-- A step ends with a status (R220, R227): its threads leave it, held inputs are released, windows gated on it open or are
skipped, its completion is written, its contributions to collectives are settled (R240) and its timetable settles. -/
def Blk.endStep (s : Blk) (sid : Nat) (st : Status) (flt : Option (Nat × FaultRec)) : Blk :=
  match tblFind sid s.steps with
  | none => s
  | some x =>
    let s1 := s.dropStep sid
    let s2 := { s1 with steps := tblErase sid s1.steps }
    let s3 := if st = .stepFailed ∨ st = .replayLost then s2.relEvent relReplayFailed { inst := x.inst, unit := x.hUnit } else s2
    let s4 := if st = .threadFault then
        match flt with
        | some (p, r) => s3.relEvent relThreadFault { inst := x.inst, info0 := r.cause.code, info1 := if r.cause.isMemory then r.addr else r.pc,
                                                      unit := match s.physOf p with
                                                        | some c => unitCore (clusterOfPos p) c
                                                        | none => 0xFFFFFF }
        | none => s3.relEvent relThreadFault { inst := x.inst }
      else s3
    let ok := decide (st = .ok ∨ st = .okLate)
    if x.job.isSome then (s4.stepCpl x st flt).collStepEnd x.inst sid ok
    else
      let s5 := (s4.countEnd x.inst st).modTt x.inst (fun t => { t with ended := tblSet (x.group, x.k) st.code t.ended })
      let s6 := s5.gateWindows x.inst x.group x.k ok
      let s7 := s6.showGrp x.inst x.group 0 x.attempt x.k
      ((s7.stepCpl x st flt).collStepEnd x.inst sid ok).settleTt x.inst

/-- The deadline D of a step, and the end of its grace (R220, R222), at BEAT `b`. -/
def Blk.deadline (s : Blk) (i b sid : Nat) : Blk :=
  match tblFind sid s.steps with
  | none => s
  | some x =>
    if x.inGrace then (if x.graceEnd ≤ b then s.endStep sid .overrun none else s)
    else if b < x.deadline then s
    else match x.st with
      | .waitInput => s.endStep sid .inputLate none
      | _ =>
        let s1 := (s.count F.TTI_CNT_COUNT (ttCnt i 1)).event .tt 0 7 { inst := i }
        match (s.tt i).groups[x.group]? with
        | some gr =>
          if gr.grace ∧ b < x.deadline + gr.ovrGrace then
            let s2 := s1.modStep sid (fun y => { y with inGrace := true, graceEnd := y.deadline + gr.ovrGrace,
                                                        st := if y.st = .running then .grace else y.st })
            s2.showGrp i x.group 4 x.attempt x.k
          else s1.endStep sid .overrun none
        | none => s1.endStep sid .overrun none

/-- A step commits when every thread started for it is COMMITTED (R84, R220): OK before its deadline, OK_LATE in grace; an
aperture read that was refused ends it HOST_FAULT (R135). A commit is judged by the BEAT of its cycle: one at or past D, which BEAT reaches
here without its boundary after a jump (R207), is an overrun first (R222). -/
def Blk.tryCommit (s : Blk) (sid : Nat) : Blk :=
  match tblFind sid s.steps with
  | none => s
  | some x0 =>
    if (x0.st = .running ∨ x0.st = .grace) ∧ !x0.waitWake then
      if (s.threadsOf sid).all (fun pt => (s.th pt.1 pt.2).st == .committed) then
        let s1 := if x0.job.isNone then s.deadline x0.inst s.time.beat sid else s
        match tblFind sid s1.steps with
        | none => s1
        | some x => s1.endStep sid (if x.hostFault then .hostFault else if x.inGrace then .okLate else .ok) none
      else s
    else s

/-- The region-map entries of a mask with their ranks (R215). -/
def maskEntries (m : Nat) : List (Nat × Nat) :=
  ((List.range 64).filter (fun e => m.testBit e)).zip (List.range 64)

/-- The regions that a mask names in an instance (R214). -/
def Blk.maskRegions (s : Blk) (i m : Nat) : List Nat :=
  ((List.range 64).filter (fun e => m.testBit e)).map (fun e => bits (tblGet 0 e (s.inst i).map) 5 0)

/-- The start record of a position (R215): entry PC, argument and thread mask; none where it cannot be read. The PC keeps the low 40 bits
of its 8-byte field (DESIGN CHOICE, log entry 7). -/
def Blk.startRecord (s : Blk) (i srAddr : Nat) (srMode : Bool) (rank pos : Nat) : Option (BitVec 40 × Word × Nat) :=
  let addr := if srMode then srAddr + 32 * (256 * rank + pos % 256) else srAddr
  match s.drawerRange i addr 32 .rd with
  | none => none
  | some d =>
    if s.mem.uncorrIn d 32 then none
    else
      let b := s.mem.bytes d 32
      some (BitVec.ofNat 40 (fieldAt b 0 8), BitVec.ofNat 64 (fieldAt b 8 8), fieldAt b 16 2)

/-- What the read of a start record leaves: an uncorrectable word is logged and poisons its block as on any read (R150). -/
def Blk.recordRead (s : Blk) (i srAddr : Nat) (srMode : Bool) (rank pos : Nat) : Blk :=
  match s.drawerRange i (if srMode then srAddr + 32 * (256 * rank + pos % 256) else srAddr) 32 .rd with
  | none => s
  | some d => s.readCheck d 32

/-- Apply a start record at a position (R82, R144): the step serial increments where it starts threads. -/
def Blk.applyRecord (s : Blk) (p : Nat) (pc : BitVec 40) (arg idx : Word) (mask sid : Nat) : Blk :=
  if mask = 0 then s
  else s.modCore p (fun c =>
    (List.range 16).foldl (fun c t => if mask.testBit t then c.startThread t pc arg idx sid else c) { c with sser := c.sser + 1 })

/-- Start the threads of a step at every position of its regions. It fails where a start record cannot be read, or would start
threads at an UNSERVED position (R420); the failing record is the engine's read (DESIGN CHOICE, log entry 8). Regions below PL0 wake first
(R443). -/
def Blk.startThreads (s : Blk) (sid : Nat) : Blk :=
  match tblFind sid s.steps with
  | none => s
  | some x =>
    let places := (maskEntries x.rmask).flatMap (fun er =>
      let r := bits (tblGet 0 er.1 (s.inst x.inst).map) 5 0
      (List.range 256).map (fun k => (er.2, r * 256 + k)))
    -- with one record for all positions it is read once
    let one := s.startRecord x.inst x.srAddr false 0 0
    let recs := places.map (fun rp => (rp.2, if x.srMode then s.startRecord x.inst x.srAddr true rp.1 rp.2 else one))
    let bad := recs.any (fun pr => match pr.2 with
      | none => true
      | some (_, _, m) => decide (m ≠ 0) && (s.physOf pr.1).isNone)
    let regions := s.maskRegions x.inst x.rmask
    if regions.any (fun r => s.regionAsleep r) then
      forL regions (fun r t => t.wake r) (s.modStep sid (fun y => { y with waitWake := true }))
    else if bad || regions.any (fun r => s.level r == 7) then
      (forL places (fun rp t => t.recordRead x.inst x.srAddr x.srMode rp.1 rp.2) s).endStep sid .stepFailed none
    else
      let s1 := forL recs (fun pr t => match pr.2 with
        | some (pc, arg, m) => t.applyRecord pr.1 pc arg (BitVec.ofNat 64 x.k) m sid
        | none => t) (s.modStep sid (fun y => { y with waitWake := false }))
      s1.tryCommit sid

/-- A step enters RUNNING (R220, R223). -/
def Blk.runStep (s : Blk) (sid : Nat) : Blk :=
  match tblFind sid s.steps with
  | none => s
  | some x =>
    let hin := match (s.tt x.inst).groups[x.group]? with
      | some gr => gr.hinEn && x.job.isNone
      | none => false
    let s1 := s.modStep sid (fun y => { y with st := if y.inGrace then .grace else .running, hold := hin })
    let s2 := if x.job.isSome then s1 else s1.showGrp x.inst x.group (if x.inGrace then 4 else 2) x.attempt x.k
    s2.startThreads sid

/-- The step restarts from the same start records (R418); its provisional contributions are discarded (R240). One that has lost its held
inputs ends REPLAY_LOST (R220, R223). -/
def Blk.restartStep (s : Blk) (sid : Nat) : Blk :=
  match tblFind sid s.steps with
  | none => s
  | some x => if x.heldLost then s.endStep sid .replayLost (x.hRec.map (fun r => (x.hPos, r))) else
    let s1 := ((s.collDrop sid).modStep sid (fun y => { y with attempt := y.attempt + 1, waitMove := false })).count F.REL_CNT_COUNT relCntReplay
    let s2 := if x.job.isSome then s1 else s1.count F.TTI_CNT_COUNT (ttCnt x.inst 5)
    (s2.relEvent relReplay { inst := x.inst, unit := x.hUnit }).runStep sid

/-- Mark the physical core of a unit SUSPECT (R418). -/
def Blk.suspectUnit (s : Blk) (u pos : Nat) : Blk :=
  if isCoreUnit u then
    let s1 := s.modHist u (fun h => { h with suspect := true })
    (s1.modCl (clusterOfPos pos) (fun c => { c with waiting := if c.waiting.contains (pos % 16) then c.waiting else c.waiting ++ [pos % 16] })).relEvent
      relPosSuspect { unit := u }
  else s

/-- A class H fault ends an attempt of a step (R418 to R420, R427): its threads are discarded; the step restarts on the same
placement, waits for a move to the spare, or ends with the fault's record (DESIGN CHOICE, log entry 41; DEDUCED, log entry 95). -/
def Blk.faultH (s : Blk) (sid u pos : Nat) (r : FaultRec) : Blk :=
  match tblFind sid s.steps with
  | none => s
  | some x =>
    let n := x.hFaults + 1
    let s0 := if isCoreUnit u then s.count F.CL_FAULT_COUNT (clusterOfPos pos) else s
    let s1 := if x.counted.contains u then s0 else s0.histEvent u
    let s2 := (s1.dropStep sid).modStep sid (fun y => { y with
      st := .replaying, hFaults := n, hUnit := u, hPos := pos, hRec := some r, counted := if y.counted.contains u then y.counted else u :: y.counted })
    let s3 := if x.job.isSome then s2 else s2.showGrp x.inst x.group 3 x.attempt x.k
    let same := s.getF F.REL_CFG_REPLAY_SAME
    if x.heldLost then s3.endStep sid .replayLost (some (pos, r))
    else if n ≤ same then s3
    else if n = same + 1 ∧ isCoreUnit u ∧ s.flag F.REL_CFG_MOVE_EN ∧ (s3.pl (clusterOfPos pos)).spare.isSome then
      (s3.suspectUnit u pos).modStep sid (fun y => { y with waitMove := true })
    else ((if n = same + 1 then s3.suspectUnit u pos else s3)).endStep sid .stepFailed (some (pos, r))

/-- The unit that a class H fault is charged to (R417): `inDrawer` is the DPA of a drawer word or block, if the fault is there. -/
def Blk.chargeUnit (s : Blk) (pos : Nat) (inDrawer : Option Nat) : Nat :=
  match inDrawer with
  | some a => unitDrawer (posOfDpa a)
  | none => match s.physOf pos with
    | some c => unitCore (clusterOfPos pos) c
    | none => 0xFFFFFF

/-- A thread raises an exception (R85, R87, R88, R124): the fault record is latched, the thread is FAULTED, its matrix
instructions that have not started and its transfers before their first drawer access are discarded. A class P fault ends its
step unless a class H fault of the step came first; a class H fault makes the step replay. What it captures is of one cycle (R432). -/
def Blk.raiseExc (s : Blk) (p t : Nat) (c : Cause) (pc addr : Nat) (inDrawer : Option Nat := none)
    (residue : Bool := false) : Blk := s.inCycle fun s =>
  let th := s.th p t
  let r : FaultRec := { cause := c, pc := pc, addr := addr }
  let s1 := s.modCore p (fun k =>
    let started := match k.mq with
      | e :: _ => k.mqReady e || e.readout
      | [] => false
    let hd := k.mq.take 1
    let tl := k.mq.drop 1
    let k1 := { k with
      mq := (if started then hd else hd.filter (fun (e : MqEntry) => e.tid ≠ t)) ++ tl.filter (fun (e : MqEntry) => e.tid ≠ t),
      xfer := k.xfer.filter (fun x => x.tid ≠ t || k.xferReady x) }
    k1.settleTiles.modTh t (fun x => { x with st := .faulted, fault := some r, committing := false }))
  if c.isH then
    let s2 := if c = .datapath then s1.count F.REL_CNT_COUNT (if residue then relCntResidue else relCntParity) else s1
    s2.faultH th.step (s.chargeUnit p inDrawer) p r
  else
    match tblFind th.step s.steps with
    | some x => if x.st = .replaying then s1 else s1.endStep th.step .threadFault (some (p, r))
    | none => s1

end Sys2Proof.Machine
end

