-- ==== Sys2Proof/Machine/Operands.lean ====
section
/-! DEFINITION. Operand forms of the core instructions and their issue (R68 to R70, R94 to R97, R124). -/

namespace Sys2Proof

/-- Format R: a nonzero bit in a field marked 0 or not used (R95). The flags say which fields the instruction uses; `mMax` is
the number of values M may take. -/
def FmtR.bad (f : FmtR) (b c p t : Bool) (mMax : Nat) : Bool :=
  f.z31 != 0 || f.zhi != 0 || (!b && f.b != 0) || (!c && f.c != 0) || (!p && f.p != 0) || (!t && f.t != 0) ||
    decide (mMax ≤ f.m.toNat)

/-- Format I likewise. -/
def FmtI.bad (f : FmtI) (d a b t : Bool) (mMax : Nat) : Bool :=
  f.z31 != 0 || (!d && f.d != 0) || (!a && f.a != 0) || (!b && f.b != 0) || (!t && f.t != 0) || decide (mMax ≤ f.m.toNat)

/-- IMM sign-extended to 64 bits (R96). -/
def FmtI.immW (f : FmtI) : Word := f.imm.signExtend 64

/-- Which fields of format M an instruction uses (R97); every other must be 0. -/
structure MUse where
  acc : Bool := false
  ta : Bool := false
  tb : Bool := false
  mx : Bool := false     -- FA, FB, KBA, KBB, KO, KX
  we : Bool := false     -- WE and Z
  gt : Bool := false
  gx : Bool := false
  tout : Bool := false
  mask : Bool := false   -- TBM and ACM
  d : Bool := false

/-- Format M: a nonzero bit in a field marked 0 or not used, or KX above 1,024 (R95, R97). -/
def FmtM.bad (f : FmtM) (u : MUse) : Bool :=
  f.z63 != 0 || f.zhi != 0 || decide (f.kx.toNat > 1024) || (!u.acc && f.acc != 0) || (!u.ta && f.ta != 0) ||
    (!u.tb && f.tb != 0) || (!u.mx && (f.fa != 0 || f.fb != 0 || f.kba != 0 || f.kbb != 0 || f.ko != 0 || f.kx != 0)) ||
    (!u.we && (f.we != 0 || f.z != 0)) || (!u.gt && f.gt != 0) || (!u.gx && f.gx != 0) || (!u.tout && f.tout != 0) ||
    (!u.mask && (f.tbm != 0 || f.acm != 0)) || (!u.d && f.d != 0)

/-- Format C: a nonzero bit in a field marked 0 or not used (R95, R97). -/
def FmtC.bad (f : FmtC) (d a b c n imm : Bool) (mMax : Nat) : Bool :=
  f.z28 != 0 || f.z35 != 0 || f.zhi != 0 || (!d && f.d != 0) || (!a && f.a != 0) || (!b && f.b != 0) || (!c && f.c != 0) ||
    (!n && f.n != 0) || (!imm && f.imm64 != 0) || decide (mMax ≤ f.m.toNat)

end Sys2Proof

namespace Sys2Proof.Machine

/-- A register an instruction reads or writes. -/
inductive RegRef where
  | g (n : Nat) | v (n : Nat) | p (n : Nat)
  deriving DecidableEq, Repr

/-- The register an outstanding operation will write (R70). -/
def OutOp.dst (o : OutOp) : Option RegRef :=
  match o.kind with
  | .load d _ _ _ => if d = 0 then none else some (.g d)
  | .vload d => some (.v d)
  | .atomic d => if d = 0 then none else some (.g d)
  | .lock d _ _ _ => if d = 0 then none else some (.g d)
  | _ => none

/-- A register of the list still awaits an earlier result of the thread (R70). -/
def Thread.regBusy (x : Thread) (rs : List RegRef) : Bool :=
  x.ops.any (fun o => match o.dst with
    | some r => rs.contains r
    | none => false)

/-- The wait form of LKACQ has not returned: the thread is RUNNING and does not issue (R121). -/
def Thread.lockWait (x : Thread) : Bool :=
  x.ops.any (fun o => match o.kind with
    | .lock _ _ w _ => w
    | _ => false)

/-- The address of a thread's next instruction. -/
def Blk.pcOf (s : Blk) (p t : Nat) : Nat := (s.th p t).pc.toNat

/-- The instance whose region the position lies in. -/
def Blk.instOfPos (s : Blk) (p : Nat) : Option Nat := s.ownerOf (regionOfPos p)

/-- May the thread issue its next instruction now (R68, R85)? -/
def Blk.canIssue (s : Blk) (p t : Nat) (rs : List RegRef) : Bool :=
  let x := s.th p t
  x.st == .running && !x.committing && !x.lockWait && !(x.regBusy rs) && (s.physOf p).isSome && (s.instOfPos p).isSome

/-- A fault of the instruction fetch, raised at issue of the instruction fetched (R82, R124, R134): ALIGN, UNMAPPED or
ECC_UNCORR; or ILLEGAL_OP of a word that no table lists, in place of any instruction (R95; DEDUCED, log entry 96). -/
def Blk.fetchFault (s : Blk) (i : Issue) (two : Bool) : Option (Cause × Nat × Option Nat) :=
  let p := i.pos.toNat
  let pc := s.pcOf p i.tid.toNat
  let inst := (s.instOfPos p).getD 0
  if pc % 8 ≠ 0 then some (.align, pc, none)
  else
    match s.translate inst pc .ex, s.translate inst ((pc + (if two then 8 else 0)) % 2 ^ 40) .ex with
    | .drawer d, .drawer d' =>
      if i.hw = .fetchUncorr ∨ s.mem.uncorrIn d 8 then some (.eccUncorr, pc, some d)
      else if s.mem.uncorrIn d' 8 then some (.eccUncorr, pc, some d')
      else if unlistedWord (BitVec.ofNat 64 (leNat (s.mem.bytes d 8))) then some (.illegalOp, 0, none)
      else none
    | _, _ => some (.unmapped, pc, none)

/-- PC advances past a 64-bit or a 128-bit instruction (R94). -/
def Blk.retire (s : Blk) (p t : Nat) (two : Bool) : Blk :=
  s.modTh p t (fun x => { x with pc := x.pc + (if two then 16 else 8) })

/-- Issue one instruction (R68, R95, R124). A thread that cannot issue it now, or whose pipeline cannot accept it (`stall`),
leaves the device as it is (DESIGN CHOICE, log entry 10). A fetch fault or ILLEGAL_OP is precise; DATAPATH (`dp`: the class can raise it) is
raised at execution in place of the result; otherwise `body` acts. -/
def Blk.issue (s : Blk) (i : Issue) (two : Bool) (rs : List RegRef) (stall illegal dp : Bool) (body : Blk → Blk) : Blk :=
  let p := i.pos.toNat
  let t := i.tid.toNat
  if !(s.canIssue p t rs) || stall then s
  else
    let s1 := s.modCore p (fun c => { c with lastTid := t })
    let pc := s.pcOf p t
    match s.fetchFault i two with
    | some (c, a, d) =>
      let s2 := if c = .eccUncorr then
          match d with
          | some x => ({ s1 with mem := s1.mem.setUncorr x }).readCheck x 8
          | none => s1
        else s1
      s2.raiseExc p t c pc a d
    | none =>
      if illegal then s1.raiseExc p t .illegalOp pc 0
      else if dp ∧ i.hw = .datapath then s1.raiseExc p t .datapath pc 0
      else body s1

/-- The next place in a core's issue order (R69). -/
def Blk.takeSeq (s : Blk) (p : Nat) : Nat × Blk :=
  let c := s.core p
  (c.seq, s.setCore p { c with seq := c.seq + 1 })

end Sys2Proof.Machine
end

