-- ==== Sys2Proof/Machine/Place.lean ====
section
/-! DEFINITION. Placement changes at a beat boundary, and the in-field test (R92, R418 to R426). -/

namespace Sys2Proof.Machine

/-- A position has a live thread (R85). -/
def Blk.posLive (s : Blk) (p : Nat) : Bool :=
  (s.core p).threads.any (fun t => match t.2.st with
    | .running => true
    | .waiting _ => true
    | .committed => true
    | _ => false)

/-- AGE_H of a physical core: hours since its last pass (R424), saturating at 16 bits. -/
def Blk.ageOf (s : Blk) (u : Nat) : Nat := min (s.rel.hours - (s.hist u).passHour) 0xFFFF
/-- PERIOD_H with 0 as 1, and DEADLINE_H with values below PERIOD_H as PERIOD_H (R438). -/
def Blk.periodH (s : Blk) : Nat := max 1 (s.getF F.REL_TEST_CFG_PERIOD_H)
def Blk.deadlineH (s : Blk) : Nat := max s.periodH (s.getF F.REL_TEST_CFG_DEADLINE_H)
/-- A core is due for a test (R424). -/
def Blk.coreDue (s : Blk) (u : Nat) : Bool := decide (s.periodH ≤ s.ageOf u) || (s.hist u).due

/-- A core enters UNDER_TEST: a test run starts (R423, R424). -/
def Blk.startTest (s : Blk) (g c : Nat) : Blk :=
  (s.setPl g ((s.pl g).setRole c .underTest)).count F.REL_CNT_COUNT relCntTestRun

/-- The matrix state of a core as it stands while the core serves no position: no thread owns any of it (R76, R92). -/
def CoreSt.parkedState (c : CoreSt) : ParkedCore :=
  { tiles := tblMap (fun _ b => { b with owner := none, valid := false }) c.tiles, accs := tblMap (fun _ a => { a with owner := none }) c.accs }

/-- Position `k` of a cluster passes from core `old` to core `c`: tile buffers and accumulators stay with their physical cores (R92). -/
def Blk.swapCore (s : Blk) (g k : Nat) (old : Option Nat) (c : Nat) : Blk :=
  let p := g * 16 + k
  let u := unitCore g c
  let new := tblGet {} u s.parked
  let away := match old with
    | some o => [(unitCore g o, (s.core p).parkedState)]
    | none => []
  ({ s with parked := away ++ tblErase u s.parked }).modCore p (fun x => { x with tiles := new.tiles, accs := new.accs })

/-- Give position `k` of a cluster to core `c` (R92, R421): the epoch increments; the released core is RETIRED where its
retirement was pending, else it enters UNDER_TEST. -/
def Blk.moveTo (s : Blk) (g k c : Nat) : Blk :=
  let pl := s.pl g
  let old := pl.core k
  let pl1 := { (pl.setRole c .serving) with pmap := tblSet k (some c) pl.pmap, epoch := pl.epoch + 1 }
  let s1 := ((s.swapCore g k old c).setPl g pl1).modCl g (fun x => { x with lastChange := some s.time.uptime, waiting := x.waiting.filter (fun j => j ≠ k) })
  let s2 := match old with
    | none => s1
    | some o =>
      if (s.hist (unitCore g o)).retirePend ∨ pl.role o = Role.retired then
        (s1.setPl g ((s1.pl g).setRole o .retired)).modHist (unitCore g o) (fun h => { h with retirePend := false })
      else s1.startTest g o
  (s2.relEvent relPlaceMoved { unit := unitCore g c }).checkSpare g

/-- R421 allows a change of the cluster now. -/
def Blk.mayMove (s : Blk) (g : Nat) : Bool :=
  match (s.cl g).lastChange with
  | none => true
  | some t => decide (t + 2000 ≤ s.time.uptime)

/-- The SERVING core of a cluster that is due and has the greatest AGE_H; the lowest number on a tie. -/
def Blk.dueServing (s : Blk) (g : Nat) : Option Nat :=
  (List.range 17).foldl (fun best c =>
    if (s.pl g).role c = .serving ∧ s.coreDue (unitCore g c) then
      match best with
      | some b => if s.ageOf (unitCore g b) < s.ageOf (unitCore g c) then some c else some b
      | none => some c
    else best) none

/-- The swap of an offered test slot (R424): a position that waits under R419 first, else the oldest core that is due. -/
def Blk.slotSwap (s : Blk) (g : Nat) : Blk :=
  let s1 := s.modCl g (fun x => { x with slotOffered := false })
  if !(s.cl g).slotOffered ∨ !(s.mayMove g) then s1
  else match (s.pl g).spare with
    | none => s1
    | some c =>
      let pos := match (s.cl g).waiting with
        | k :: _ => some k
        | [] => if s.flag F.REL_CFG_TEST_EN then (s.dueServing g).bind (fun o => (s.pl g).posOf o) else none
      match pos with
      | none => s1
      | some k => if s.posLive (g * 16 + k) then s1 else s1.moveTo g k c

/-- A step that waits for a move of its position moves and restarts (R418), where R421 and the spare allow. -/
def Blk.replayMove (s : Blk) (sid : Nat) : Blk :=
  match tblFind sid s.steps with
  | none => s
  | some x =>
    let g := clusterOfPos x.hPos
    if x.st = .replaying ∧ x.waitMove ∧ s.mayMove g then
      match (s.pl g).spare with
      | some c => if s.posLive x.hPos then s else (s.moveTo g (x.hPos % 16) c).restartStep sid
      | none => s
    else s

/-- The placement changes of a boundary (R219): replay moves, then the slots offered in the beat before. -/
def Blk.placementChanges (s : Blk) : Blk :=
  let s1 := forL (s.steps.map (fun p => p.1)) (fun sid t => t.replayMove sid) s
  forL ((s1.clus.filter (fun c => c.2.slotOffered)).map (fun c => c.1)) (fun g t => t.slotSwap g) s1

/-- IFT_DONE (R425): a core's test ends. -/
def iftDoneOp (unit : Nat) (pass : Bool) (s : Blk) : Blk :=
  let g := unit / 17
  let c := unit % 17
  if (s.pl g).role c ≠ .underTest then s
  else if pass then
    let s1 := s.setPl g ((s.pl g).setRole c .spare)
    let s2 := s1.modHist unit (fun h => { h with
      passHour := s.rel.hours, passes := if h.returning then 0 else min (h.passes + 1) 0xFFFF, suspect := false, overdue := false, due := false,
      failedOnce := false, returning := false, events := if h.returning then [] else h.events, advised := h.advised && !h.returning })
    (s2.unsave unit).checkSpare g
  else
    let s1 := ((s.count F.REL_CNT_COUNT relCntTestFail).relEvent relTestFail { unit := unit })
    let again := (s.hist unit).failedOnce
    let s2 := s1.histEvent unit
    if (s2.pl g).role c = .retired then s2
    else if again then
      (((s2.modHist unit (fun h => { h with failedOnce := false, returning := false, suspect := false })).unsave unit).setPl g ((s2.pl g).setRole c .retired)).relEvent
        relCoreRetired { unit := unit }
    else (s2.modHist unit (fun h => { h with failedOnce := true })).count F.REL_CNT_COUNT relCntTestRun

/-- A SPARE core that is due is tested at once (R424). -/
def Blk.testSpare (s : Blk) (g c : Nat) : Blk :=
  if (s.pl g).role c = .spare ∧ s.flag F.REL_CFG_TEST_EN ∧ s.coreDue (unitCore g c) then (s.startTest g c).checkSpare g else s

/-- The ages are judged: a serving core that has reached DEADLINE_H is overdue, once (R426); a due spare is tested (R424). -/
def Blk.judgeAges (s : Blk) : Blk :=
  forN 1024 (fun g t =>
    forN 17 (fun c t =>
      let u := unitCore g c
      let t1 := if (t.pl g).role c = .serving ∧ t.deadlineH ≤ t.ageOf u ∧ !(t.hist u).overdue then
          ((t.modHist u (fun h => { h with overdue := true })).count F.REL_CNT_COUNT relCntOverdue).relEvent relTestOverdue { unit := u }
        else t
      t1.testSpare g c) t) s

/-- CORE_AGE_TICK (R424, R426, R427): an hour passes. Ages advance and are judged; the hour's counts of corrected errors start
again. -/
def coreAgeTickOp (s : Blk) : Blk :=
  Blk.judgeAges { s with rel := { s.rel with hours := s.rel.hours + 1, hist := tblMap (fun _ h => { h with ceHour := 0 }) s.rel.hist } }

end Sys2Proof.Machine
end

