-- ==== Sys2Proof/Machine/Time.lean ====
section
/-! DEFINITION. Fabric time: the servo, the time states, jumps, beats and their registers (R201 to R211, R226, R230). -/

namespace Sys2Proof.Machine

/-! ## Beats (R210) -/

def Blk.beatQ (s : Blk) : Nat := s.getF F.TT_BEAT_CFG_BEAT_Q
def Blk.beatEpoch (s : Blk) : Nat := (s.reg .TT_BEAT_EPOCH).toNat
/-- ⌊(NS − BEAT_EPOCH) ÷ (BEAT_Q × 250)⌋, 0 before the epoch. -/
def Blk.beatAt (s : Blk) (ns : Nat) : Nat := if ns < s.beatEpoch then 0 else (ns - s.beatEpoch) / (s.beatQ * 250)
/-- The fabric time of the boundary of a beat. -/
def Blk.boundaryNs (s : Blk) (b : Nat) : Nat := s.beatEpoch + b * s.beatQ * 250

/-- Beats are counted afresh after fabric time or its beat has been set. -/
def Blk.recountBeats (s : Blk) : Blk :=
  let b := s.beatAt s.time.ns
  { s with time := { s.time with beat := b, nextBeat := if s.time.ns < s.beatEpoch then 0 else b + 1 } }

/-- Set NS (modulo 2^64). -/
def Blk.setNs (s : Blk) (ns : Nat) (frac : Nat) : Blk :=
  ({ s with time := { s.time with ns := ns % 2 ^ 64, frac := frac } }).recountBeats

/-! ## Halts (R207, R209, R226) -/

/-- The instances whose timetable is RUNNING or ARMED. -/
def Blk.activeTts (s : Blk) : List Nat :=
  (List.range 64).filter (fun i => (s.tt i).st == .running || (s.tt i).st == .armed)

/-- Halt a timetable: it starts no further step; TT_HALTED. -/
def Blk.haltTt (s : Blk) (i : Nat) (st : Status) : Blk :=
  ((s.modTt i (fun t => { t with st := .halted, haltStatus := st.code })).event .tt 0 12 { inst := i }).settleTt i

/-- Halt under R207: every running step ends ABORTED at once. -/
def Blk.haltJump (s : Blk) (i : Nat) : Blk :=
  let s1 := (s.modTt i (fun t => { t with st := .halted, haltStatus := Status.timeJump.code })).event .tt 0 12 { inst := i }
  (forL (s.ttSteps i) (fun sid t => t.endStep sid .aborted none) s1).settleTt i

/-- A jump of the local copy (R207): `off` is the local copy minus the source. -/
def Blk.jump (s : Blk) (off : Int) : Blk :=
  let s1 := forL s.activeTts (fun i t => t.haltJump i) s
  let ns := ((s1.time.ns : Int) - off).toNat
  ((s1.setNs ns s1.time.frac).count F.TIME_JUMP_CNT_COUNT).event .tt 0 4 { info1 := ns }

/-! ## The servo (R204, R205) -/

def Blk.timeSt (s : Blk) (st : TimeState) : Blk := { s with time := { s.time with st := st, inRow := 0, outRow := 0 } }

/-- SLEW_PPM with 0 as 1. -/
def Blk.slewPpm (s : Blk) : Nat := max 1 (s.getF F.TT_SLEW_SLEW_PPM)

/-- The offset as TT_OFFSET shows it: signed 32 bits, saturating. -/
def offsetReg (off : Int) : Nat := (BitVec.ofInt 32 (max (-(2 ^ 31 : Int)) (min (2 ^ 31 - 1) off))).toNat

/-- A slew (R204): the correction after it is a free value within ±SLEW_PPM (DESIGN CHOICE, log entry 20). -/
def Blk.slew (s : Blk) : Blk :=
  let lim : Int := s.slewPpm * 65536
  let r := (clampI (-lim) lim (Config.freeValue s.fresh).toInt).1
  ({ s with time := { s.time with rate := r } }).drawFree

/-- An update from the source with a measured offset (R204, R205; DESIGN CHOICE, log entry 56). -/
def Blk.timeUpdate (s : Blk) (off : Int) : Blk :=
  let within := decide (off.natAbs ≤ s.getF F.TT_SERVO_LOCK_THR)
  let s1 := { s.setF F.TT_OFFSET_OFFSET 0 (offsetReg off) with time := { s.time with srcPresent := true } }
  let s2 := if off.natAbs > s.getF F.TT_SERVO_STEP_THR then s1.jump off else s1.slew
  match s.time.st with
  | .free => s
  | .acquiring =>
    if within then
      if s.time.inRow + 1 ≥ 8 then (s2.timeSt .locked).event .tt 0 0
      else { s2 with time := { s2.time with inRow := s.time.inRow + 1 } }
    else { s2 with time := { s2.time with inRow := 0 } }
  | .locked =>
    if !within then
      if s.time.outRow + 1 ≥ 8 then (s2.timeSt .acquiring).event .tt 0 1
      else { s2 with time := { s2.time with outRow := s.time.outRow + 1 } }
    else { s2 with time := { s2.time with outRow := 0 } }
  | _ =>
    let s3 := s2.timeSt .acquiring
    { s3 with time := { s3.time with holdMs := 0, inRow := b2n within } }

/-- The selected source; 3 is treated as 0 (R230). -/
def Blk.timeSrc (s : Blk) : Nat := let n := s.getF F.TT_SRC_CFG_SRC; if n = 3 then 0 else n

/-- TIME_UPDATE: a PTP measurement of a logical port and domain. It is an update where PTP is the source and they are PTP_LPORT and DOMAIN
(R203). -/
def timeUpdateOp (l : BitVec 6) (dom : BitVec 8) (off : BitVec 64) (s : Blk) : Blk :=
  if s.timeSrc = 1 ∧ l.toNat = s.getF F.TT_SRC_CFG_PTP_LPORT ∧ dom.toNat = s.getF F.TT_SRC_CFG_DOMAIN then s.timeUpdate off.toInt else s

/-- PPS_EDGE (R202): the local time at the edge, less IN_DELAY, minus the nearest whole second. -/
def ppsEdgeOp (localNs : BitVec 64) (s : Blk) : Blk :=
  if s.timeSrc = 2 then
    let t : Int := (localNs.toNat : Int) - (s.getF F.TT_PPS_CFG_IN_DELAY : Int)
    let sec : Int := (t + 500000000) / 1000000000
    s.timeUpdate (t - sec * 1000000000)
  else s

/-- TIME_SOURCE_TIMEOUT (R205): the rate freezes. -/
def timeSourceTimeoutOp (s : Blk) : Blk :=
  if s.time.st = .acquiring ∨ s.time.st = .locked then
    let s1 := s.timeSt .holdover
    ({ s1 with time := { s1.time with srcPresent := false, holdMs := 0, holdAt := s1.time.uptime } }).event .tt 0 2
  else { s with time := { s.time with srcPresent := false } }

/-- HOLD_MS (R230): milliseconds in HOLDOVER or LOST, saturating. -/
def Blk.holdMs (s : Blk) : Nat :=
  if s.time.st = .holdover ∨ s.time.st = .lost then min 65535 (s.time.holdMs + (s.time.uptime - s.time.holdAt) / 1000000) else 0

/-- HOLDOVER_EXPIRY (R205, R209): the timetables halt at the next boundary. -/
def holdoverExpiryOp (s : Blk) : Blk :=
  if s.time.st = .holdover then
    let s1 := s.timeSt .lost
    ({ s1 with time := { s1.time with holdMs := max 1000 s.holdMs, holdAt := s1.time.uptime } }).event .tt 0 3
  else s

/-- SRC_WRITE (R205): a write of TT_SRC_CFG. -/
def srcWriteOp (v : BitVec 32) (s : Blk) : Blk :=
  let old := s.timeSrc
  let s1 := s.setReg .TT_SRC_CFG 0 (BitVec.ofNat 64 (v.toNat % 2 ^ 18))
  let new := s1.timeSrc
  if new = 0 then s1.timeSt .free
  else if new = old then s1
  else match s.time.st with
    | .free => s1.timeSt .acquiring
    | .acquiring => s1.timeSt .acquiring
    | .locked => (s1.timeSt .acquiring).event .tt 0 1
    | _ => s1

/-- TT_SET_WRITE (R208): `full` says that the write loads all 64 bits. -/
def ttSetWriteOp (v : Word) (full : Bool) (s : Blk) : Blk :=
  if full ∧ s.time.st = .free ∧ s.activeTts = [] then s.setNs v.toNat 0 else s.event .tt 0 5

/-- TT_BEAT_CFG_WRITE (R210, R211). -/
def ttBeatCfgWriteOp (v : BitVec 32) (s : Blk) : Blk :=
  let q := v.toNat % 2 ^ 18
  if s.activeTts = [] ∧ 1 ≤ q ∧ q ≤ 262140 then (s.setF F.TT_BEAT_CFG_BEAT_Q 0 q).recountBeats else s.event .tt 0 6

/-- TT_BEAT_EPOCH_WRITE (R211). -/
def ttBeatEpochWriteOp (v : Word) (s : Blk) : Blk :=
  if s.activeTts = [] ∧ 1 ≤ s.beatQ ∧ s.beatQ ≤ 262140 then (s.setReg .TT_BEAT_EPOCH 0 v).recountBeats else s.event .tt 0 6

/-- TT_TIME_READ (R230): NS is returned and FRAC captured. -/
def ttTimeReadOp (s : Blk) : Blk := (s.setF F.TT_TIME_FRAC_FRAC 0 s.time.frac).emit (.regData s.time.ns)

/-- PPS_OUT_PULSE (R202): a whole second of local fabric time. -/
def ppsOutPulseOp (s : Blk) : Blk :=
  if s.flag F.TT_PPS_CFG_OUT_EN then s.emit (.pps (max 1 (s.getF F.TT_PPS_CFG_OUT_WIDTH))) else s

end Sys2Proof.Machine
end

