-- ==== Sys2Proof/Machine/Timetable.lean ====
section
/-! DEFINITION. Timetables: their images, commands and the actions of a beat (R212 to R229). -/

namespace Sys2Proof.Machine

/-! ## Receive counters and send windows -/

/-- The value of an instance's receive counter (R269). -/
def Blk.rcnt (s : Blk) (i n : Nat) : Nat := s.getF F.FT_RCNT_COUNT ((s.inst i).cBase + n)

/-- R221: the counter has reached BASE + k × INC (DESIGN CHOICE, log entry 47). -/
def expectMet (c base inc k : Nat) : Bool := decide (0 ≤ sext 32 ((c + 2 ^ 32 - (base + k * inc) % 2 ^ 32) % 2 ^ 32))

/-! ## Images (R213 to R217) -/

/-- Decode a group descriptor. -/
def ttGroupOf (l : List Byte) : TtGroup :=
  let fl := fieldAt l 16 1
  { rmask := fieldAt l 0 8, srAddr := fieldAt l 8 8, srMode := bitOf fl 0, grace := bitOf fl 1, cqAll := bitOf fl 2, hinEn := bitOf fl 3,
    ovrGrace := fieldAt l 17 1, cq := fieldAt l 18 2, hinOff := fieldAt l 20 4, hinLen := fieldAt l 24 4, nbuf := fieldAt l 28 1,
    stride := fieldAt l 32 4 }

/-- Decode an entry. -/
def ttEntryOf (l : List Byte) : TtEntry :=
  { boff := fieldAt l 0 2, action := bits (fieldAt l 2 2) 3 0, group := bits (fieldAt l 2 2) 7 4, arg0 := fieldAt l 4 4, arg1 := fieldAt l 8 8 }

/-- A group descriptor with a nonzero bit that R214 marks 0. -/
def ttGroupBad (l : List Byte) : Bool := decide (fieldAt l 16 1 ≥ 16) || !allZero (slice l 29 3) || !allZero (slice l 36 28)

/-- An entry with an ACTION outside 1 to 6 or a nonzero bit that R216 marks 0. -/
def ttEntryBad (l : List Byte) : Bool :=
  let e := ttEntryOf l
  decide (fieldAt l 3 1 ≠ 0) ||
  match e.action with
  | 1 => decide (bits e.arg0 7 5 ≠ 0) || decide (bits e.arg0 31 12 ≠ 0) || decide (e.arg1 ≠ 0)
  | 2 => decide (bits e.arg0 31 16 ≠ 0)
  | 3 => decide (bits e.arg1 63 1 ≠ 0) || decide (bits e.arg0 31 16 = 0)
  | 4 => decide (e.arg0 ≠ 0) || decide (e.arg1 ≠ 0)
  | 5 => decide (bits e.arg0 15 11 ≠ 0) || decide (bits e.arg0 31 16 = 0) || decide (e.arg1 ≠ 0)
  | 6 => decide (bits e.arg1 63 16 ≠ 0)
  | _ => true

/-- The BOFFs of a group's entries with an action. -/
def actionBoffs (es : List TtEntry) (g a : Nat) : List Nat := (es.filter (fun e => e.group == g && e.action == a)).map (fun e => e.boff)

/-- A group has one START_STEP and one COMMIT with START < COMMIT ≤ START + P. -/
def groupTimesOk (es : List TtEntry) (p g : Nat) : Bool :=
  match actionBoffs es g 1, actionBoffs es g 4 with
  | [st], [c] => decide (st < c) && decide (c ≤ st + p)
  | _, _ => false

def startBoff (es : List TtEntry) (g : Nat) : Nat := (actionBoffs es g 1).headD 0
def commitBoff (es : List TtEntry) (g : Nat) : Nat := (actionBoffs es g 4).headD 0

/-- The checks of R217 on one entry. -/
def Blk.ttEntryOk (s : Blk) (i p ng : Nat) (es : List TtEntry) (e : TtEntry) : Bool :=
  let x := s.inst i
  decide (e.group < ng) &&
  match e.action with
  | 1 =>
    if bitOf e.arg0 4 then
      let dg := bits e.arg0 3 0
      decide (dg < ng) && decide (commitBoff es dg ≤ startBoff es e.group + bits e.arg0 11 8 * p)
    else true
  | 2 => decide (e.boff ≤ startBoff es e.group) && decide (bits e.arg0 15 0 < x.cCount)
  | 3 =>
    let q := bits e.arg0 15 0
    (!bitOf e.arg1 0 || decide (commitBoff es e.group ≤ e.boff)) && decide (q < x.qCount) &&
      decide (s.getF F.QCFG_TYPE (x.qBase + q) = qtFtSend)
  | 5 =>
    let c := commitBoff es e.group
    let gap := startBoff es e.group + p - c
    decide ((e.boff + p * 65536 - c) % p + bits e.arg0 31 16 ≤ gap)
  | _ => true

/-- Two masks share an entry. -/
def masksMeet (a b : Nat) : Bool := (List.range 64).any (fun e => a.testBit e && b.testBit e)

/-- The checks of R217 on one group. -/
def Blk.ttGroupOk (s : Blk) (i : Nat) (g : TtGroup) : Bool :=
  let x := s.inst i
  (List.range 64).all (fun e => !g.rmask.testBit e || (tblGet 0 e x.map).testBit 8) &&
    (!g.hinEn || (decide (g.hinOff + g.hinLen ≤ 2 ^ 21) &&
      (g.nbuf != 2 || (decide (g.hinOff + g.stride + g.hinLen ≤ 2 ^ 21) && decide (g.hinLen ≤ g.stride))))) &&
    decide (g.cq < x.qCount) && decide (s.getF F.QCFG_TYPE (x.qBase + g.cq) = qtCpl)

/-- An image of the length its header gives: groups, entries and their bytes. -/
structure TtImage where
  period : Nat
  groups : List TtGroup
  entries : List TtEntry
  ok : Bool
  deriving DecidableEq, Repr

/-- Parse and check an image (R213 to R217). -/
def Blk.ttImage (s : Blk) (i : Nat) (l : List Byte) : TtImage :=
  let ng := fieldAt l 6 2
  let ne := fieldAt l 8 4
  let p := fieldAt l 12 2
  let hdr := decide (fieldAt l 0 4 = 0x54544231) && decide (fieldAt l 4 2 = 1) && decide (1 ≤ ng) && decide (ng ≤ 16) && decide (1 ≤ ne) &&
    decide (ne ≤ 4096) && decide (1 ≤ p) && decide (fieldAt l 14 4 = s.beatQ) && allZero (slice l 18 46) &&
    decide (l.length = 64 + 64 * ng + 16 * ne)
  if !hdr then { period := p, groups := [], entries := [], ok := false }
  else
    let gl := (List.range ng).map (fun g => slice l (64 + 64 * g) 64)
    let el := (List.range ne).map (fun e => slice l (64 + 64 * ng + 16 * e) 16)
    let gs := gl.map ttGroupOf
    let es := el.map ttEntryOf
    let overlap := (List.range ng).any (fun a => (List.range a).any (fun b =>
      masksMeet ((gs.map (fun g => g.rmask)).getD a 0) ((gs.map (fun g => g.rmask)).getD b 0)))
    let ascending := (es.zip (es.drop 1)).all (fun p => decide (p.1.boff ≤ p.2.boff))
    { period := p, groups := gs, entries := es,
      ok := !(gl.any ttGroupBad) && !(el.any ttEntryBad) && !overlap && ascending &&
        (List.range ng).all (fun g => groupTimesOk es p g) && es.all (fun e => s.ttEntryOk i p ng es e) && gs.all (fun g => s.ttGroupOk i g) }

/-- Timetable entries in use. -/
def Blk.tteUsed (s : Blk) (i : Nat) : Nat := (s.tt i).entries.length

/-! ## Commands (R212): each replies through its CmdRef -/

/-- TT_LOAD: `image` is what the host returned, none where it refused. -/
def Blk.ttLoad (s : Blk) (c : CmdRef) (i : Nat) (image : Option (List Byte)) : Blk :=
  match image with
  | none => s.reply c .hostFault []
  | some l =>
    if (s.tt i).st ≠ .empty then s.reply c .badDesc []
    else
      let m := s.ttImage i l
      if !m.ok then s.reply c .badDesc []
      else if m.entries.length > (s.inst i).nTte then s.reply c .noResource []
      else
        (s.modTt i (fun t => { st := .loaded, image := l, period := m.period, groups := m.groups, entries := m.entries,
                               haltStatus := t.haltStatus, b0 := t.b0, nsteps := t.nsteps, lastStop := t.lastStop })).reply c .ok []

/-- TT_START. -/
def Blk.ttStart (s : Blk) (c : CmdRef) (i b0 n : Nat) : Blk :=
  if (s.tt i).st ≠ .loaded then s.reply c .badDesc []
  else if s.time.st ≠ .free ∧ s.time.st ≠ .locked then s.reply c .noTime []
  else if b0 ≤ s.time.beat + 2 then s.reply c .tooLate []
  else
    (s.modTt i (fun t => { t with st := .armed, b0 := b0, nsteps := n, stepK := 0, stopBeat := 2 ^ 64 - 1, grp := [],
                                  wins := t.wins.filter (fun w => w.isOpen), ended := [], late := [] })).reply c .ok []

/-- TT_STOP. A stop beat already reached halts the timetable now (DESIGN CHOICE, log entry 48). -/
def Blk.ttStop (s : Blk) (c : CmdRef) (i stop : Nat) : Blk :=
  let t := s.tt i
  if t.st = .armed ∨ t.st = .running then
    let s1 := s.modTt i (fun t => { t with stopBeat := stop, lastStop := stop })
    let s2 := if stop ≤ s.time.beat then s1.haltTt i .stopped else s1
    s2.reply c .ok []
  else s.reply c .ok []

/-- TT_UNLOAD. -/
def Blk.ttUnload (s : Blk) (c : CmdRef) (i : Nat) : Blk :=
  let t := s.tt i
  match t.st with
  | .loaded => (s.setTt i t.unloaded).reply c .ok []
  | .halted => (s.modTt i (fun t => { t with unloadWait := t.unloadWait ++ [c] })).settleTt i
  | _ => s.reply c .badDesc []

/-! ## The actions of a beat (R219) -/

/-- The step index for which an entry acts in beat `b`, if it does. -/
def Timetable.stepAt (t : Timetable) (e : TtEntry) (b : Nat) : Option Nat :=
  if b < t.b0 + e.boff ∨ t.period = 0 then none
  else
    let d := b - t.b0 - e.boff
    let k := d / t.period
    if d % t.period ≠ 0 ∨ (t.nsteps ≠ 0 ∧ t.nsteps ≤ k) then none else some k

/-- Insert a (group, k) item in ascending order. -/
def insertGk {α : Type} (x : Nat × Nat × α) : List (Nat × Nat × α) → List (Nat × Nat × α)
  | [] => [x]
  | y :: t => if x.1 < y.1 ∨ (x.1 = y.1 ∧ x.2.1 ≤ y.2.1) then x :: y :: t else y :: insertGk x t

def sortGk {α : Type} (l : List (Nat × Nat × α)) : List (Nat × Nat × α) := l.foldr insertGk []

/-- The entries of an action due in beat `b`: group, k and the entry, lower groups first, then lower k. -/
def Timetable.due (t : Timetable) (a b : Nat) : List (Nat × Nat × TtEntry) :=
  sortGk ((t.entries.filter (fun e => e.action == a)).filterMap (fun e => (t.stepAt e b).map (fun k => (e.group, k, e))))

/-- The steps of an instance's timetable in the order of R219. -/
def Blk.ttStepList (s : Blk) (i : Nat) : List (Nat × Nat × Nat) :=
  sortGk ((s.steps.filter (fun p => p.2.inst == i && p.2.job.isNone)).map (fun p => (p.2.group, p.2.k, p.1)))

/-- SEND_WINDOW closes (R225): an open window whose beats have passed. -/
def Blk.closeWins (s : Blk) (i b : Nat) : Blk :=
  s.modTt i (fun t => { t with wins := t.wins.filter (fun w => !(w.isOpen && decide (w.closeAt ≤ b))) })

/-- SEND_WINDOW opens, waits for its step's commit, or is skipped (R225). -/
def Blk.openWin (s : Blk) (i b g k : Nat) (e : TtEntry) : Blk :=
  let w : SendWin := { q := bits e.arg0 15 0, closeAt := b + bits e.arg0 31 16, group := g, k := k, isOpen := true }
  if !bitOf e.arg1 0 then s.modTt i (fun t => { t with wins := t.wins ++ [w] })
  else match tblFind (g, k) (s.tt i).ended with
    | some st =>
      if st = 0 ∨ st = 1 then s.modTt i (fun t => { t with wins := t.wins ++ [w] })
      else s.count F.TTI_CNT_COUNT (ttCnt i 3)
    | none => s.modTt i (fun t => { t with wins := t.wins ++ [{ w with isOpen := false }] })

/-- TEST_SLOT (R228). -/
def Blk.testSlot (s : Blk) (i g : Nat) (e : TtEntry) : Blk :=
  let busy := s.steps.any (fun p => p.2.inst == i && p.2.job.isNone && p.2.group == g && p.2.st != .waitInput)
  if busy then (s.count F.TTI_CNT_COUNT (ttCnt i 8)).event .tt 0 11 { inst := i }
  else
    let m := tblGet 0 (bits e.arg0 5 0) (s.inst i).map
    if !m.testBit 8 then s
    else
      let r := bits m 5 0
      let cs := if bitOf e.arg0 10 then List.range 16 else [bits e.arg0 9 6]
      forL cs (fun c t => t.modCl (r * 16 + c) (fun x => { x with slotOffered := true })) s

/-- The entries EXPECT of a group. -/
def Timetable.expects (t : Timetable) (g : Nat) : List TtEntry := t.entries.filter (fun e => e.group == g && e.action == 2)

/-- Is an EXPECT met for step k? -/
def Blk.expectOk (s : Blk) (i k : Nat) (e : TtEntry) : Bool := expectMet (s.rcnt i (bits e.arg0 15 0)) (bits e.arg1 31 0) (bits e.arg1 63 32) k

/-- EXPECT at its beat (R221). -/
def Blk.expectAt (s : Blk) (i g k : Nat) (e : TtEntry) : Blk :=
  if s.expectOk i k e then s
  else
    let s1 := s.count F.TTI_CNT_COUNT (ttCnt i 2)
    if (s.tt i).late.contains (g, k) then s1
    else (s1.modTt i (fun t => { t with late := (g, k) :: t.late })).event .tt 0 8 { inst := i }

/-- A step that ends before it exists: skipped, or its dependency failed (R220). -/
def Blk.neverStarted (s : Blk) (i g k : Nat) (st : Status) : Blk :=
  let x : Step := { inst := i, gen := s.genOf i, group := g, k := k, attempt := 0 }
  let s1 := ((s.countEnd i st).event .tt 0 9 { inst := i }).modTt i (fun t => { t with ended := tblSet (g, k) st.code t.ended })
  (((s1.gateWindows i g k false).stepCpl x st none).collStepEnd i 0 false).settleTt i

/-- START_STEP (R220). A producer step before the first did not commit. -/
def Blk.startStepAt (s : Blk) (i b g k : Nat) (e : TtEntry) : Blk :=
  let t := s.tt i
  let s0 := s.modTt i (fun t => { t with stepK := max t.stepK k })
  if t.stopBeat ≤ b ∨ s.time.st = .lost ∨ (s.inst i).st ≠ .active ∨ s.rel.fatal then s0
  else if s.steps.any (fun p => p.2.inst == i && p.2.job.isNone && p.2.group == g && p.2.inGrace) then s0.neverStarted i g k .stepSkipped
  else
    let dlag := bits e.arg0 11 8
    let depBad := bitOf e.arg0 4 && (decide (k < dlag) || (match tblFind (bits e.arg0 3 0, k - dlag) t.ended with
      | some st => decide (st ≠ 0) && decide (st ≠ 1)
      | none => true))
    if depBad then s0.neverStarted i g k .depFailed
    else
      match t.groups[g]? with
      | none => s0
      | some gr =>
        let sid := s.stepNext
        let dl := t.b0 + k * t.period + commitBoff t.entries g
        let x : Step := { inst := i, gen := s.genOf i, group := g, k := k, deadline := dl, rmask := gr.rmask, srAddr := gr.srAddr,
                          srMode := gr.srMode }
        let s1 := { s0 with steps := tblSet sid x s0.steps, stepNext := sid + 1 }
        if (t.expects g).all (fun e => s.expectOk i k e) then s1.runStep sid
        else s1.showGrp i g 1 1 k

/-- STEP_INPUT_MET (R220): a step in WAIT_INPUT whose every EXPECT is met starts before its deadline; in LOST and after a halt
of its timetable no step starts (R209, R226). -/
def Blk.inputMet (s : Blk) (sid : Nat) : Blk :=
  match tblFind sid s.steps with
  | none => s
  | some x =>
    if x.st = .waitInput ∧ x.job.isNone ∧ (s.tt x.inst).st = .running ∧ s.time.st ≠ .lost ∧ s.time.beat < x.deadline ∧
        ((s.tt x.inst).expects x.group).all (fun e => s.expectOk x.inst x.k e) then s.runStep sid
    else s
def stepInputMetOp (sid : Nat) (s : Blk) : Blk := s.inputMet sid

/-- POWER_HINT (R229). -/
def Blk.powerHint (s : Blk) (i b : Nat) (e : TtEntry) : Blk :=
  s.modInst i (fun x => { x with hint := some (e.arg0, b + bits e.arg1 15 0) })

/-- All the actions of one instance's timetable for one kind of action. A halted timetable, and one that is LOADED again, starts nothing;
the send windows of the steps that it had started still open (R225). -/
def Blk.actAll (s : Blk) (i b a : Nat) (f : Nat → Nat → TtEntry → Blk → Blk) : Blk :=
  let t := s.tt i
  if t.st = .running then forL (t.due a b) (fun x t => f x.1 x.2.1 x.2.2 t) s
  else if (t.st = .halted ∨ t.st = .loaded) ∧ a = 3 then
    forL ((t.due a b).filter (fun x => (tblFind (x.1, x.2.1) t.ended).isSome ||
      s.steps.any (fun p => p.2.inst == i && p.2.job.isNone && p.2.group == x.1 && p.2.k == x.2.1))) (fun x t => f x.1 x.2.1 x.2.2 t) s
  else s

/-- Every instance that has a timetable. -/
def Blk.ttInsts (s : Blk) : List Nat := (List.range 64).filter (fun i => (s.tt i).st != .empty)

/-- The actions of beat `b` in the order of R219. -/
def Blk.beatActions (s : Blk) (b : Nat) : Blk :=
  let is := s.ttInsts
  let each := fun (f : Nat → Blk → Blk) (s : Blk) => forL is f s
  -- halts of R209 and of stop beats, and the arming of timetables at B0
  let s0 := each (fun i t =>
    let x := t.tt i
    if (x.st = .running ∨ x.st = .armed) ∧ t.time.st = .lost then t.haltTt i .noTime
    else if (x.st = .running ∨ x.st = .armed) ∧ x.stopBeat ≤ b then t.haltTt i .stopped
    else if x.st = .armed ∧ x.b0 ≤ b then t.setTt i { x with st := .running }
    else t) s
  let s1 := each (fun i t => forL (t.ttStepList i) (fun x u => u.deadline i b x.2.2) t) s0
  let s2 := each (fun i t => t.closeWins i b) s1
  let s3 := each (fun i t => t.actAll i b 3 (fun g k e u => u.openWin i b g k e)) s2
  let s4 := each (fun i t => t.actAll i b 5 (fun g _ e u => u.testSlot i g e)) s3
  let s5 := each (fun i t => t.actAll i b 2 (fun g k e u => u.expectAt i g k e)) s4
  let s6 := each (fun i t => t.actAll i b 1 (fun g k e u => u.startStepAt i b g k e)) s5
  let s7 := each (fun i t => t.actAll i b 6 (fun _ _ e u => u.powerHint i b e)) s6
  forL ((s7.ins.filter (fun p => match p.2.hint with
    | some (_, n) => decide (n ≤ b)
    | none => false)).map (fun p => p.1)) (fun i t => t.modInst i (fun x => { x with hint := none })) s7

/-- A waiting thread returns to RUNNING when the beat has reached its target (R85). -/
def Thread.wake (b : Nat) (t : Thread) : Thread :=
  match t.st with
  | .waiting w => if w.toNat ≤ b then { t with st := .running } else t
  | _ => t

/-- WAITB wake-ups: every thread whose target the beat has reached. -/
def Blk.wakeThreads (s : Blk) (b : Nat) : Blk :=
  { s with cores := tblMap (fun _ (c : CoreSt) => { c with threads := tblMap (fun _ t => t.wake b) c.threads }) s.cores }

/-- Time moves on to the boundary of the next beat; between the rows that tell it, it stands (DESIGN CHOICE, log entry 98). -/
def Blk.nextBoundary (s : Blk) : Blk :=
  let b := s.time.nextBeat
  let ns := max s.time.ns (s.boundaryNs b)
  { s with time := { s.time with ns := ns, frac := 0, uptime := s.time.uptime + (ns - s.time.ns), beat := b, nextBeat := b + 1 } }

/-! ## Slack (R229) -/

/-- Beats until a group's next START_STEP or TEST_SLOT; 0 with a step in progress. -/
def Blk.groupSlack (s : Blk) (i g : Nat) : Nat :=
  if s.steps.any (fun p => p.2.inst == i && p.2.job.isNone && p.2.group == g) then 0
  else
    let t := s.tt i
    let b := s.time.beat
    (t.entries.filter (fun e => e.group == g && (e.action == 1 || e.action == 5))).foldl (fun m e =>
      let first := t.b0 + e.boff
      let k := if b < first then 0 else (b - first) / t.period + 1
      if t.nsteps ≠ 0 ∧ t.nsteps ≤ k then m else min m (first + k * t.period - b)) 0xFFFFFFFF

/-- TTI_SLACK. -/
def Blk.slack (s : Blk) (i : Nat) : Nat :=
  let t := s.tt i
  if t.st = .running ∨ t.st = .armed then
    (List.range t.groups.length).foldl (fun m g => min m (s.groupSlack i g)) 0xFFFFFFFF
  else 0xFFFFFFFF

end Sys2Proof.Machine
end

