-- ==== Sys2Proof/Machine/Queues.lean ====
section
/-! DEFINITION. Work queues: doorbells, fetches, states, completion queues, job entries, moves and host copies (R157 to R161,
R348, R361 to R377). -/

namespace Sys2Proof.Machine

/-! ## Doorbells and fetches (R365 to R370) -/

/-- The global number of a function's queue: the PF names queues globally in its doorbell page, a VF those of its instance. -/
def Blk.globalQ (s : Blk) (fn q : Nat) : Option Nat :=
  if fn = 0 then (if q < 16384 then some q else none)
  else match s.instOfVf fn with
    | some i => if q < (s.inst i).qCount then some ((s.inst i).qBase + q) else none
    | none => none

/-- The owner of a queue is FROZEN: its doorbells are ignored (R402; counted as others are, DEDUCED, log entry 33). -/
def Blk.ownerFrozen (s : Blk) (q : Nat) : Bool :=
  match (s.qOwner q).inst? with
  | some i => (s.inst i).st == .frozen
  | none => false

/-- DOORBELL (R366, R367): a write to a slot of a function's doorbell page. A slot of no queue of the function is unoccupied,
and an unbound VF ignores doorbells. -/
def doorbellOp (fn slot : Nat) (s : Blk) : Blk :=
  match s.globalQ fn slot with
  | none => s
  | some q =>
    let x := s.queue q
    if s.getF F.QCFG_TYPE q = qtCpl ∨ x.st ≠ .active ∨ s.ownerFrozen q then s.count F.DB_IGNORED_CNT_COUNT
    else if x.scanning then s.setQueue q { x with dbPend := true }
    else s.setQueue q { x with scanning := true }

/-- The completion queues that the entries of a submission queue complete to (R376). -/
def Blk.cqsOf (s : Blk) (q : Nat) : List Nat :=
  if s.getF F.QCFG_TYPE q = qtJob then [s.jobCq q]
  else (s.ft.conns.filter (fun c => c.2.st != .free && (c.2.sq == q || c.2.rq == q))).map (fun c =>
    if c.2.sq = q then c.2.scq else c.2.rcq)

/-- Entries of a queue that have been fetched and not been checked. -/
def Queue.unchecked (x : Queue) : Nat := (x.entries.filter (fun e => !e.checked && !e.completed)).length

/-- Requests in flight (R287): fetched and not completed, whether the Dresser has checked them yet or not; `own` picks the queues. -/
def Blk.inFlight (s : Blk) (own : Nat → Bool) : Nat :=
  (s.ft.reqs.filter (fun r => r.seg.isNone && own r.q)).length +
    s.queues.foldl (fun n q => if s.getF F.QCFG_TYPE q.1 = qtFtSend && own q.1 then n + q.2.unchecked else n) 0
def Blk.ftInFlight (s : Blk) : Nat := s.inFlight (fun _ => true)

/-- May the queue fetch now? Not while a completion queue it uses is full (R376); a send queue not behind an entry that is not
yet checked or an ARMED request that has not fired (R270), nor at the Dresser's limit (R287), nor for a draining connection
(R263). -/
def Blk.mayFetch (s : Blk) (q : Nat) : Bool :=
  let x := s.queue q
  x.st == .active && x.scanning && !((s.cqsOf q).any (fun c => s.cqFull c)) && !s.rel.fatal &&
    (decide (s.getF F.QCFG_TYPE q ≠ qtFtSend) ||
      (decide (x.unchecked = 0) && !(s.ft.reqs.any (fun r => r.q == q && r.armed.isSome)) &&
        !(s.ft.conns.any (fun c => c.2.st == .drain && c.2.sq == q)) && decide (s.ftInFlight < 131072)))

/-- ETYPE accepted by a queue type (R362). -/
def etypeOk (ty e : Nat) : Bool :=
  (ty == qtJob && (e == 1 || e == 2 || e == 3)) || (ty == qtFtSend && e == 4) || (ty == qtFtRecv && e == 5) || (ty == qtCmd && e == 6)

/-- A malformed entry puts the queue in ERROR (R371). -/
def Blk.queueError (s : Blk) (q : Nat) (st : Status) : Blk :=
  let x := s.queue q
  let s1 := s.setQueue q { x with st := .error, scanning := false, dbPend := false, errStatus := st.code, errIndex := x.scan,
                                  errValid := true, headDue := true }
  let s2 := (s1.setF F.QCTL_EN q 0).setReg .QUE_ERRQ 0 (BitVec.ofNat 64 (q + 2 ^ 31))
  let i := (s.qOwner q).inst?
  let s3 := s2.event .que 0 0 { inst := i.getD 0xFF }
  let s4 := match i with
    | some i => if (s.inst i).vf ≠ 0 then s3.latchVf (s.inst i).vf 2 else s3
    | none => s3
  s4.settleQueue q

/-- QUEUE_ENTRY_FETCHED (R365, R366, R370): `data` is the 64 bytes that the host returned, none where it refused. -/
def queueEntryFetchedOp (q : Nat) (data : Option (List Byte)) (s : Blk) : Blk :=
  if !(s.mayFetch q) then s
  else
    let x := s.queue q
    match data with
    | none => s.queueError q .hostFault
    | some l =>
      let h := fieldAt l 0 1
      if h.testBit 0 ≠ x.lap then s.setQueue q { x with scanning := x.dbPend, dbPend := false }
      else if h ≥ 2 ∨ !(etypeOk (s.getF F.QCFG_TYPE q) (fieldAt l 1 1)) ∨ !(allZero (slice l 2 6)) then s.queueError q .badDesc
      else
        let wrap := decide (x.scan + 1 ≥ s.qSize q)
        let gen := match (s.qOwner q).inst? with
          | some i => s.genOf i
          | none => 0
        s.setQueue q { x with entries := x.entries ++ [{ idx := x.scan, data := slice l 0 64, gen := gen }],
                              scan := if wrap then 0 else x.scan + 1, lap := xor x.lap wrap }

/-! ## Queue states (R371, R375, R376) -/

/-- A queue's configuration is valid (R375, R393; DESIGN CHOICE, log entry 50). -/
def Blk.queueCfgOk (s : Blk) (q : Nat) : Bool :=
  let ty := s.getF F.QCFG_TYPE q
  let lg := s.getF F.QCFG_LOG2SZ q
  let own := s.qOwner q
  let cnt := match own with
    | .inst i _ => (s.inst i).qCount
    | .pf _ => s.getF F.QUE_PF_COUNT
    | .none => 0
  let vecOk : Bool := match own with
    | .inst i _ => (s.inst i).vf == 0 || decide (s.getF F.QCFG_VEC q < (s.inst i).nvec)
    | _ => true
  decide (own ≠ .none) && decide (1 ≤ ty) && decide (ty ≤ 5) && decide (3 ≤ lg) && decide (lg ≤ 16) &&
    decide ((s.reg .QBASE q).toNat % (if ty = qtCpl then 32 else 64) = 0) &&
    (ty == qtCpl || decide ((s.reg .QHEAD_ADDR q).toNat % 8 = 0)) &&
    (ty != qtJob || (decide (s.getF F.QCFG_CQ q < cnt) && decide (s.getF F.QCFG_TYPE (s.jobCq q) = qtCpl))) &&
    (ty == qtCpl || decide ((s.queue q).scan < 2 ^ lg)) && (ty != qtCpl || vecOk)

/-- QUEUE_ENABLE: QCTL.EN written 1 (R371). -/
def queueEnableOp (q : Nat) (s : Blk) : Blk :=
  let x := s.queue q
  if x.st ≠ .disabled then s
  else if s.queueCfgOk q then
    (s.setF F.QCTL_EN q 1).setQueue q { x with st := .active, head := x.scan, headLap := x.lap, errStatus := 0, scanning := false,
                                               dbPend := false }
  else ((s.setF F.QCTL_EN q 0).setQueue q { x with errStatus := Status.badDesc.code }).event .que 0 4 { inst := (s.qOwner q).inst?.getD 0xFF }

/-- QUEUE_DISABLE: QCTL.EN written 0 (R371). A CPL queue has no DRAINING. -/
def queueDisableOp (q : Nat) (s : Blk) : Blk :=
  let s1 := s.setF F.QCTL_EN q 0
  if s.getF F.QCFG_TYPE q = qtCpl then
    (if (s.queue q).st = .active then s1.modQueue q (fun x => { x with st := .disabled }) else s1)
  else s1.drainQueue q

/-- A queue in ERROR leaves for DISABLED once its head is published (DEDUCED, log entry 90). -/
def Blk.clearError (s : Blk) (q : Nat) : Blk :=
  let x := s.queue q
  if x.st = .error ∧ x.entries = [] ∧ !x.headDue then
    (s.setF F.QCTL_CLR_ERR q 0).setQueue q { x with st := .disabled, errValid := false, scan := x.head, lap := x.headLap }
  else s

/-- QUEUE_CLR_ERR (R371): CLR_ERR stays 1 until the queue has left ERROR. -/
def queueClrErrOp (q : Nat) (s : Blk) : Blk := if (s.queue q).st = .error then (s.setF F.QCTL_CLR_ERR q 1).clearError q else s

/-- CQ_CONS_WRITE (R376). -/
def cqConsWriteOp (q : Nat) (v : BitVec 32) (s : Blk) : Blk :=
  let n := v.toNat % 2 ^ 17
  let used := ((s.queue q).prod + 2 ^ 17 - n) % 2 ^ 17
  if used > s.qSize q then s.event .que 0 4 { inst := (s.qOwner q).inst?.getD 0xFF }
  else
    let s1 := s.setF F.CQ_CONS_CONS q n
    let s2 := if s1.cqFull q then s1 else s1.modQueue q (fun x => { x with full := false })
    Blk.drainHeld ((s.queue q).held.length + 1) s2 q

/-- QUE_PF_WRITE (R388): only while no queue of the PF is ACTIVE, DRAINING or in ERROR. -/
def quePfWriteOp (v : BitVec 32) (s : Blk) : Blk :=
  let b := s.getF F.QUE_PF_BASE
  let c := s.getF F.QUE_PF_COUNT
  if s.queues.any (fun x => decide (b ≤ x.1) && decide (x.1 < b + c) && x.2.st != .disabled) then s
  else (s.setF F.QUE_PF_BASE 0 (bits v.toNat 13 0)).setF F.QUE_PF_COUNT 0 (bits v.toNat 27 16)

/-- HEAD_PUBLISH (R369). -/
def headPublishOp (q : Nat) (s : Blk) : Blk :=
  if (s.queue q).headDue then
    let s1 := s.publishHead q
    if s1.flag F.QCTL_CLR_ERR q then s1.clearError q else s1
  else s

/-! ## Job steps (R377) -/

/-- The first entry of a queue that has not started. -/
def Blk.nextEntry (s : Blk) (q : Nat) : Option QEntry := (s.queue q).entries.find? (fun e => !e.started)

/-- Mark an entry as checked. -/
def Blk.markChecked (s : Blk) (q idx : Nat) : Blk :=
  s.modQueue q (fun x => { x with entries := x.entries.map (fun e => if e.idx = idx then { e with checked := true } else e) })

/-- The instance of a JOB queue. -/
def Blk.jobInst (s : Blk) (q : Nat) : Option Nat := (s.qOwner q).inst?

/-- Refuse a job entry with BAD_DESC (R370, R377). -/
def Blk.refuseJob (s : Blk) (q : Nat) (e : QEntry) (ctype : Nat) : Blk :=
  s.finishEntry q e.idx (s.jobCq q) ctype .badDesc ((s.jobInst q).getD 0xFF) e.gen
    (if ctype = 1 then stepCplRest 0 0 (fieldAt e.data 24 8) s.time.beat none else [])

/-- A JOB_STEP entry is well formed, and names regions of the instance that no armed or running timetable uses (R377). A start
record that cannot be read is found when the step starts (DESIGN CHOICE, log entry 8; DEDUCED, log entry 52). -/
def Blk.jobStepOk (s : Blk) (i : Nat) (l : List Byte) : Bool :=
  let m := fieldAt l 8 8
  let t := s.tt i
  decide (fieldAt l 32 1 < 2) && allZero (slice l 33 31) && decide (fieldAt l 16 8 % 32 = 0) &&
    (List.range 64).all (fun e => !m.testBit e || (tblGet 0 e (s.inst i).map).testBit 8) &&
    !((t.st == .armed || t.st == .running) && t.groups.any (fun g => masksMeet g.rmask m))

/-- JOB_STEP: the next job entry of a queue is checked. A JOB queue that no instance owns has no regions to name. -/
def jobStepOp (q : Nat) (s : Blk) : Blk :=
  match s.nextEntry q with
  | none => s
  | some e =>
    if s.getF F.QCFG_TYPE q ≠ qtJob ∨ fieldAt e.data 1 1 ≠ 1 ∨ e.checked then s
    else match s.jobInst q with
      | none => s.refuseJob q e 1
      | some i => if s.jobStepOk i e.data then s.markChecked q e.idx else s.refuseJob q e 1

/-- JOB_STEP_START: its regions are free of earlier job steps, and its threads start (R82, R377). -/
def jobStepStartOp (q : Nat) (s : Blk) : Blk :=
  match s.nextEntry q, s.jobInst q with
  | some e, some i =>
    if s.getF F.QCFG_TYPE q ≠ qtJob ∨ fieldAt e.data 1 1 ≠ 1 ∨ !e.checked ∨ s.rel.fatal then s
    else
      let m := fieldAt e.data 8 8
      if s.steps.any (fun p => p.2.inst == i && p.2.job.isSome && masksMeet p.2.rmask m) then s
      else
        let sid := s.stepNext
        let x : Step := { inst := i, gen := e.gen, job := some (q, e.idx), k := fieldAt e.data 24 8, rmask := m, srAddr := fieldAt e.data 16 8,
                          srMode := decide (fieldAt e.data 32 1 = 1) }
        ({ s.startEntry q e.idx with steps := tblSet sid x s.steps, stepNext := sid + 1 }).runStep sid
  | _, _ => s

/-! ## Moves and host copies (R157 to R161, R348, R377) -/

/-- A move address and its range are the instance's own (R377). -/
def Blk.moveAddrOk (s : Blk) (i a n : Nat) (acc : Access) : Bool :=
  decide (a % 64 = 0) &&
  (if isStaging a then
    let c := s.ctx (bits a 35 26)
    decide (bits a 62 36 = 0) && c.st != 0 && c.inst == i && decide (bits a 25 0 + n ≤ c.blocks.length * 4096)
  else decide (bits a 62 40 = 0) && (s.movePieces i a 0 n acc).isSome)

/-- The fragments of a range of `n` bytes at destination address `a`: offset and length of each (R157). -/
def fragPieces (a n : Nat) : List (Nat × Nat) := (piecesOf (a % 4096) n).map (fun p => (p.1 - a % 4096, p.2))

/-- Bytes [63:8] of a JOB_MOVE entry as a move; none where it is refused. -/
def Blk.parseMove (s : Blk) (i gen : Nat) (b : List Byte) : Option Move :=
  let src := fieldAt b 0 8
  let dst := fieldAt b 8 8
  let n := fieldAt b 16 4
  let mask := fieldAt b 24 8
  let fr := fragPieces (bits dst 25 0) n
  if decide (n % 64 ≠ 0) || !allZero (slice b 20 4) || !allZero (slice b 32 24) || !(s.moveAddrOk i src n .rd) ||
      !(s.moveAddrOk i dst n .wr) || (decide (fr.length > 64) && decide (mask = 0)) || (decide (mask ≠ 0) && !(s.maskOk i mask fr.length)) then none
  else some { inst := i, gen := gen, host := false, src := src, dst := dst, len := n, maskAddr := mask, nfrag := fr.length,
              todo := List.range fr.length }

/-- Bytes [63:8] of a JOB_HCOPY entry as a move; none where it is refused (R348). -/
def Blk.parseHcopy (s : Blk) (i gen : Nat) (b : List Byte) : Option Move :=
  let aoff := fieldAt b 0 8
  let da := fieldAt b 8 8
  let n := fieldAt b 16 4
  let dir := fieldAt b 20 1
  let mask := fieldAt b 24 8
  let toHost := decide (dir = 1)
  let fr := fragPieces (if toHost then aoff else da) n
  if decide (n % 64 ≠ 0) || decide (dir ≥ 2) || !allZero (slice b 21 3) || !allZero (slice b 32 24) || decide (da ≥ 2 ^ 40) ||
      !(s.moveAddrOk i da n (if toHost then .rd else .wr)) || decide (aoff + n > (s.inst i).aperLimit * 4096) ||
      (decide (fr.length > 64) && decide (mask = 0)) || (decide (mask ≠ 0) && !(s.maskOk i mask fr.length)) then none
  else some { inst := i, gen := gen, host := true, toHost := toHost, src := if toHost then da else aoff, dst := if toHost then aoff else da,
              len := n, maskAddr := mask, nfrag := fr.length, todo := List.range fr.length }

/-- A move whose every fragment has ended completes (R158). -/
def Blk.settleMove (s : Blk) (id : Nat) : Blk :=
  match tblFind id s.moves with
  | none => s
  | some m =>
    if m.todo ≠ [] then s
    else
      let s1 := { s with moves := tblErase id s.moves }
      if m.gen ≠ s.genOf m.inst then s1.genDrop m.inst m.job.isSome
      else
        let s2 := s1.writeMask m.inst m.maskAddr m.nfrag m.failed
        let st := if m.stopped then Status.aborted else if m.failed = [] then .ok else .partialFail
        let mask := maskOf m.failed % 2 ^ 64
        let s3 := match m.job with
          | some (q, idx) => s2.finishEntry q idx (s2.jobCq q) 2 st m.inst m.gen (toLe 8 mask ++ toLe 4 m.nfrag)
          | none => s2
        match m.cmd with
        | some c => s3.reply c st [mask % 2 ^ 32, mask / 2 ^ 32, m.nfrag]
        | none => s3

/-- Moves of the host copy engine in progress (HCE_STATUS). -/
def Blk.hceActive (s : Blk) : Nat := min 64 (s.moves.filter (fun m => m.2.host)).length
/-- The engine runs up to 64 host copies at once, the oldest (R348). -/
def Blk.hceRuns (s : Blk) (id : Nat) : Bool := decide ((s.moves.filter (fun m => m.2.host && decide (m.1 < id))).length < 64)

/-- Start a move (DESIGN CHOICE, log entry 51). -/
def Blk.startMove (s : Blk) (m : Move) : Blk :=
  let id := s.moveNext
  ({ s with moves := tblSet id m s.moves, moveNext := id + 1 }).settleMove id

/-- The next job entry of a queue starts as a move, or is refused. -/
def Blk.jobMove (s : Blk) (q etype : Nat) (parse : Nat → Nat → List Byte → Option Move) : Blk :=
  match s.nextEntry q with
  | none => s
  | some e =>
    if s.getF F.QCFG_TYPE q ≠ qtJob ∨ fieldAt e.data 1 1 ≠ etype ∨ s.rel.fatal then s
    else match s.jobInst q with
      | none => s.refuseJob q e 2
      | some i => match parse i e.gen (slice e.data 8 56) with
        | none => s.refuseJob q e 2
        | some m => if m.host ∧ s.hceActive ≥ 64 then s else (s.startEntry q e.idx).startMove { m with job := some (q, e.idx) }

/-- JOB_MOVE. -/
def jobMoveOp (q : Nat) (s : Blk) : Blk := s.jobMove q 2 (fun i g b => s.parseMove i g b)
/-- JOB_HCOPY. -/
def jobHcopyOp (q : Nat) (s : Blk) : Blk := s.jobMove q 3 (fun i g b => s.parseHcopy i g b)

/-- End a fragment of a move. -/
def Blk.endFrag (s : Blk) (id f : Nat) (fail : Bool) : Blk :=
  let s1 := match tblFind id s.moves with
    | some m => { s with moves := tblSet id { m with todo := m.todo.filter (fun g => g ≠ f), failed := if fail then m.failed ++ [f] else m.failed } s.moves }
    | none => s
  s1.settleMove id

/-- A fragment fails: its destination block is poisoned where it is a drawer or staging (R160). -/
def Blk.failFrag (s : Blk) (id f : Nat) (dst : List (Nat × Nat)) : Blk := (forL dst (fun p t => t.poisonDpa p.1) s).endFrag id f true

/-- MOVE_FRAGMENT_DONE (R158, R159): fragment `f` of move `id` is performed. `corrupt` says that the carried check mismatches at
the destination; `host` is what the host returned for a fragment that is read from it, none where it refused. A fragment whose
drawers lie in a region below PL0 or in a granule in FLUSHING, or to which the hub's flow has no tokens, waits (R189, R344, R443); one whose
packets are discarded on their way never ends (R181). -/
def moveFragmentDoneOp (id f : Nat) (corrupt : Bool) (host : Option (List Byte)) (s : Blk) : Blk :=
  match tblFind id s.moves with
  | none => s
  | some m =>
    if !(m.todo.contains f) then s
    else if m.gen ≠ s.genOf m.inst then s.endFrag id f false
    else if m.lost.contains f ∨ (m.host ∧ !(s.hceRuns id)) then s
    else
      let fr := (fragPieces (if m.host && m.toHost then m.dst else bits m.dst 25 0) m.len).getD f (0, 0)
      let dst := if m.host && m.toHost then some [] else s.movePieces m.inst m.dst fr.1 fr.2 .wr
      let lost (t : Blk) : Blk := { t with moves := tblSet id { m with lost := m.lost ++ [f] } t.moves }
      let src := if m.host && !m.toHost then some [] else s.movePieces m.inst m.src fr.1 fr.2 .rd
      match src, dst with
      | some sp, some dp =>
        if !(s.awake (sp ++ dp)) then s.wakePieces (sp ++ dp)
        else if !(s.engineOpen 0 sp && s.engineOpen 2 dp) then s
        else if m.host ∧ !m.toHost then
          match host with
          | none => s.failFrag id f dp
          | some l =>
            let g := (s.countBy F.HCE_RD_BYTES_COUNT 0 fr.2).engineWrites m.inst dp
            if !g.2 then lost g.1 else (g.1.writePieces dp (slice l 0 fr.2)).endFrag id f false
        else
          let go := s.engineReads m.inst sp
          let g := if go.2 then go.1.engineWrites m.inst dp else go
          if !g.2 then lost g.1
          else
          let r := g.1.readPieces sp
          if r.2.2 then r.1.failFrag id f dp
          else if m.host then
            ((r.1.countBy F.HCE_WR_BYTES_COUNT 0 fr.2).hostWrite (some m.inst) ((s.inst m.inst).haBase + m.dst + fr.1) r.2.1).endFrag id f false
          else
            match sp, dp with
            | [(a, 4096)], [(b, 4096)] =>
              let w := if corrupt then none else r.1.memWriteChecked b r.2.1 (r.1.mem.check a)
              (match w with
              | some s2 => s2.endFrag id f false
              | none =>
                if m.retried.contains f then r.1.failFrag id f dp
                else { r.1 with moves := tblSet id { m with retried := m.retried ++ [f] } r.1.moves })
            | _, _ => (r.1.writePieces dp r.2.1).endFrag id f false
      | _, some dp => s.failFrag id f dp
      | _, none => s.endFrag id f true

end Sys2Proof.Machine
end

