-- ==== Sys2Proof/Machine/Commands.lean ====
section
/-! DEFINITION. Command packets, their acceptance by Tutoby, replies and the reply mailboxes (R378 to R389), and the commands of
the timetable, of moves and the empty one. -/

namespace Sys2Proof.Machine

/-! ## Acceptance (R378 to R380) -/

/-- The opcodes: payload length and whether only the PF may issue it (R382, R391, R402 to R408). -/
def opcodeInfo (op : Nat) : Option (Nat × Bool) :=
  match op with
  | 0x01 => some (0, false)
  | 0x10 => some (256, true)
  | 0x11 => some (0, true)
  | 0x12 => some (0, false)
  | 0x13 => some (8, true)
  | 0x14 => some (32, true)
  | 0x15 => some (12, true)
  | 0x16 => some (0, true)
  | 0x17 => some (48, true)
  | 0x20 => some (12, false)
  | 0x21 => some (16, false)
  | 0x22 => some (8, false)
  | 0x23 => some (0, false)
  | 0x30 => some (8, false)
  | 0x31 => some (2, false)
  | 0x32 => some (2, false)
  | 0x40 => some (8, false)
  | 0x41 => some (48, false)
  | 0x42 => some (2, false)
  | 0x43 => some (2, false)
  | 0x44 => some (32, false)
  | 0x45 => some (4, false)
  | 0x46 => some (4, false)
  | 0x47 => some (8, false)
  | 0x50 => some (64, true)
  | 0x51 => some (0, true)
  | 0x52 => some (64, false)
  | 0x53 => some (2, false)
  | 0x60 => some (12, false)
  | 0x70 => some (56, false)
  | 0x71 => some (56, false)
  | _ => none

/-- Commands that need no instance of their own: NOP, CREATE_INSTANCE, and HDM_BIAS_SET from the PF. -/
def opcodeFree (op : Nat) : Bool := op == 0x01 || op == 0x10 || op == 0x60

/-- The function of a queue's owner. -/
def Blk.fnOfQueue (s : Blk) (q : Nat) : Nat :=
  match s.qOwner q with
  | .inst i _ => s.fnOfInst i
  | _ => 0

/-- The checks 1 to 5 of R380 on the header `h`; `pay` is the payload, none where the host refused its read. The first failing
check gives the status. A command that acts on an instance names one that exists. -/
def Blk.cmdCheck (s : Blk) (fn : Nat) (h : List Byte) (pay : Option (List Byte)) : Option Status :=
  let op := fieldAt h 0 2
  let i := fieldAt h 8 1
  let len := fieldAt h 12 4
  if pay.isNone then some .hostFault
  else match opcodeInfo op with
    | none => some .badOpcode
    | some (n, pf) =>
      if decide (fieldAt h 2 2 ≥ 2) || decide (fieldAt h 9 1 ≠ 0) || !allZero (slice h 24 8) || decide (len ≠ n) ||
          (decide (len ≤ 24) && (decide (fieldAt h 16 8 ≠ 0) || !allZero (slice h (32 + len) (24 - len)))) then some .badDesc
      else if decide (fn ≠ 0) && (decide (s.instOfVf fn ≠ some i) || pf) then some .badDesc
      else if decide (i ≥ 64) && decide (i ≠ 0xFF) then some .badDesc
      else if decide (fieldAt h 2 2 = 1) && decide (fieldAt h 10 2 ≠ s.genOf i) then some .genStale
      else if !opcodeFree op && (decide (i ≥ 64) || (s.inst i).st == .free) then some .badDesc
      else none

/-- The next command entry that Tutoby may accept from a queue: none while an earlier one of the queue has no reply (R379). -/
def Blk.cmdReady (s : Blk) (q : Nat) : Bool :=
  s.emu.fwUp && !s.rel.fatal && decide (s.getF F.QCFG_TYPE q = qtCmd) && (s.nextEntry q).isSome && !(s.accepted.any (fun c => c.q == q))

/-- The function that the round robin serves next: the first after the last one served that has a command ready. -/
def Blk.cmdTurnFn (s : Blk) : Option Nat :=
  let ready := (s.queues.filter (fun p => s.cmdReady p.1)).map (fun p => s.fnOfQueue p.1)
  ((List.range 64).map (fun k => (s.cmdTurn + 1 + k) % 64)).find? (fun f => ready.contains f)

/-- CMD_ACCEPT (R379, R380): Tutoby accepts the next command of queue `q`. `payload` is what the host returned for a payload of
more than 24 bytes, none where it refused. -/
def cmdAcceptOp (q : Nat) (payload : Option (List Byte)) (s : Blk) : Blk :=
  let fn := s.fnOfQueue q
  if !(s.cmdReady q) ∨ s.cmdTurnFn ≠ some fn then s
  else match s.nextEntry q with
    | none => s
    | some e =>
      let h := slice e.data 8 56
      let len := fieldAt h 12 4
      let pay : Option (List Byte) := if len ≤ 24 then some (slice h 32 len) else payload.map (fun l => slice l 0 len)
      let i := fieldAt h 8 1
      let c : CmdRef := { fn := fn, q := q, idx := e.idx, seq := fieldAt h 4 4, opcode := fieldAt h 0 2, inst := i, gen := s.genOf i }
      let s1 := { s.startEntry q e.idx with accepted := s.accepted ++ [c], cmdTurn := fn }
      match s.cmdCheck fn h pay with
      | some st => s1.reply c st []
      | none => { s1 with cmdq := s1.cmdq ++ [(c, pay.getD [])] }

/-- Execute the command at the head of the accepted ones, if it has this opcode (R379). -/
def Blk.withCmd (s : Blk) (op : Nat) (f : CmdRef → List Byte → Blk → Blk) : Blk :=
  match s.cmdq with
  | [] => s
  | (c, p) :: t => if c.opcode = op then f c p { s with cmdq := t } else s

/-! ## Replies (R381, R385) -/

/-- A notice of a function's reply mailbox (R385). -/
def Blk.notice (s : Blk) (fn : Nat) : Blk :=
  if fn = 0 then (s.count F.HRM_NOTICES_COUNT).latch 0 else (s.count F.VHRM_NOTICES_COUNT (fn - 1)).latchVf fn 0

/-- The reply of an FT_WIN_OPEN is written: its window is usable (R274). -/
def Blk.openWins (s : Blk) (c : CmdRef) : Blk :=
  { s with ft := { s.ft with wins := tblMap (fun _ w => if w.opening = some c then { w with opening := none } else w) s.ft.wins } }

/-- CMD_REPLY (R381): the oldest reply of a function is written once it fits in the fill bank. -/
def cmdReplyOp (fn : Nat) (s : Blk) : Blk :=
  match s.replies.find? (fun r => r.ref.fn == fn) with
  | none => s
  | some r =>
    let m := s.hmb fn
    if !(m.fits 256 r.words) then s
    else
      let s1 := { s with hmbox := tblSet fn (m.put r.words) s.hmbox, replies := s.replies.erase r, accepted := s.accepted.erase r.ref }
      ((s1.notice fn).completeEntry r.ref.q r.ref.idx).openWins r.ref

/-- HRM_DATA_READ (R385, R389): an 8-byte read, or a 4-byte read of the low half whose tags R28 keeps in the read shadow. -/
def hrmDataReadOp (fn : Nat) (low : Bool) (s : Blk) : Blk :=
  let r := (s.hmb fn).take
  let v := match r.1 with
    | some w => w.data % 2 ^ 32 + 2 ^ 32 + b2n w.last * 2 ^ 33
    | none => 0
  let s1 := { s with hmbox := tblSet fn r.2 s.hmbox }
  if low then
    (s1.modFn fn (fun x => { x with shadow := some (if fn = 0 then regAddr .HRM_DATA 0 else regAddr .VHRM_DATA (fn - 1), v / 2 ^ 32) })).emit
      (.regData (v % 2 ^ 32))
  else s1.emit (.regData v)

/-! ## Commands with no chapter of their own -/

/-- CMD_NOP. -/
def cmdNopOp (s : Blk) : Blk := s.withCmd 0x01 (fun c _ t => t.reply c .ok [])

/-- TT_LOAD: `image` is what the host returned for the image, none where it refused. -/
def ttLoadOp (image : Option (List Byte)) (s : Blk) : Blk :=
  s.withCmd 0x20 (fun c p t => t.ttLoad c c.inst (image.map (fun l => slice l 0 (fieldAt p 8 4))))
/-- TT_START. -/
def ttStartOp (s : Blk) : Blk := s.withCmd 0x21 (fun c p t => t.ttStart c c.inst (fieldAt p 0 8) (fieldAt p 8 8))
/-- TT_STOP. -/
def ttStopOp (s : Blk) : Blk := s.withCmd 0x22 (fun c p t => t.ttStop c c.inst (fieldAt p 0 8))
/-- TT_UNLOAD. -/
def ttUnloadOp (s : Blk) : Blk := s.withCmd 0x23 (fun c _ t => t.ttUnload c c.inst)

/-- A move by command, or its refusal. -/
def Blk.cmdMove (s : Blk) (c : CmdRef) (m : Option Move) : Blk :=
  match m with
  | none => s.reply c .badDesc []
  | some m => s.startMove { m with cmd := some c }

/-- MOVE. -/
def moveOp (s : Blk) : Blk := s.withCmd 0x70 (fun c p t => t.cmdMove c (t.parseMove c.inst c.gen p))
/-- HCOPY. While the engine runs 64 host copies its fragments wait (R348), and other commands do not (R379). -/
def hcopyOp (s : Blk) : Blk :=
  s.withCmd 0x71 (fun c p t => t.cmdMove c (t.parseHcopy c.inst c.gen p))

end Sys2Proof.Machine
end

