-- ==== Sys2Proof/Machine/Cipher.lean ====
section
/-! DEFINITION. The Hutch and its key commands (R318 to R330). -/

namespace Sys2Proof.Machine

/-- One traffic-key slot by its absolute number. -/
def Blk.slot (s : Blk) (n : Nat) : Slot := tblGet {} n s.hutch.slots
def Blk.setSlot (s : Blk) (n : Nat) (x : Slot) : Blk := { s with hutch := { s.hutch with slots := tblSet n x s.hutch.slots } }

/-- The KEK of an instance. -/
def Blk.kek (s : Blk) (i : Nat) : Option (List Byte) := tblFind i s.hutch.keks
def Blk.setKek (s : Blk) (i : Nat) (k : Option (List Byte)) : Blk :=
  { s with hutch := { s.hutch with keks := match k with
    | some k => tblSet i k s.hutch.keks
    | none => tblErase i s.hutch.keks } }

/-- The bytes of the device root key. -/
def rootKeyBytes : List Byte := toBe 32 Config.deviceRootKey.toNat

/-- An unwrap fails (R321). -/
def Blk.unwrapFail (s : Blk) (c : CmdRef) : Blk :=
  ((s.count F.CIP_UNWRAP_FAIL_CNT_COUNT).event .cip 0 1 { inst := c.inst }).reply c .authFail []

/-- A key record names an algorithm and has its zero bytes (R320). -/
def keyRecordOk (p : List Byte) : Bool := decide (fieldAt p 2 1 ≤ 1) && allZero (slice p 3 5) && allZero (slice p 48 16)

/-- HUTCH_KEK_LOAD (R322). -/
def hutchKekLoadOp (s : Blk) : Blk :=
  s.withCmd 0x50 (fun c p t =>
    if t.hutch.selfFail ∨ !(keyRecordOk p) ∨ fieldAt p 0 2 ≠ 0 then t.reply c .badDesc []
    else match unwrapKey rootKeyBytes (fieldAt p 2 1) (slice p 8 40) with
      | none => t.unwrapFail c
      | some k => (t.setKek c.inst (some k)).reply c .ok [])

/-- HUTCH_KEK_CLEAR (R322). -/
def hutchKekClearOp (s : Blk) : Blk :=
  s.withCmd 0x51 (fun c _ t => if t.hutch.selfFail then t.reply c .badDesc [] else (t.setKek c.inst none).reply c .ok [])

/-- HUTCH_KEY_LOAD (R322, R323). -/
def hutchKeyLoadOp (s : Blk) : Blk :=
  s.withCmd 0x52 (fun c p t =>
    let x := t.inst c.inst
    let n := x.sBase + fieldAt p 0 2
    if t.hutch.selfFail ∨ !(keyRecordOk p) ∨ fieldAt p 0 2 ≥ x.sCount ∨ (t.slot n).st = .bound then t.reply c .badDesc []
    else match t.kek c.inst with
      | none => t.reply c .badDesc []
      | some kek => match unwrapKey kek (fieldAt p 2 1) (slice p 8 40) with
        | none => t.unwrapFail c
        | some k => ((t.setSlot n { t.slot n with st := .loaded, key := k, walg := fieldAt p 2 1 }).count F.SLOT_LOADS_COUNT n).reply c .ok [])

/-- HUTCH_KEY_CLEAR (R322, R323). -/
def hutchKeyClearOp (s : Blk) : Blk :=
  s.withCmd 0x53 (fun c p t =>
    let x := t.inst c.inst
    let n := x.sBase + fieldAt p 0 2
    if t.hutch.selfFail ∨ fieldAt p 0 2 ≥ x.sCount ∨ (t.slot n).st = .bound then t.reply c .badDesc []
    else (t.setSlot n { t.slot n with st := .empty, key := [] }).reply c .ok [])

/-- CIP_EN_WRITE (R330, R332): EN cannot be set while the self-test has failed. -/
def cipEnWriteOp (v : BitVec 32) (s : Blk) : Blk :=
  s.setF F.CIP_CTRL_EN 0 (b2n (v.toNat.testBit 0 && (s.flag F.CIP_CTRL_EN || !s.hutch.selfFail)))

/-- A connection that named the slot leaves RTS and DRAIN (R323). -/
def Blk.unbindSlot (s : Blk) (n conn : Nat) : Blk :=
  let x := s.slot n
  if x.st = .bound ∧ x.conn = conn then s.setSlot n { x with st := .used } else s

/-- Zeroise the KEK and the slots of an instance (R323, R398). -/
def Blk.zeroiseKeys (s : Blk) (i : Nat) : Blk :=
  let x := s.inst i
  forN x.sCount (fun k t => t.setSlot (x.sBase + k) { t.slot (x.sBase + k) with st := .empty, key := [] }) (s.setKek i none)

end Sys2Proof.Machine
end

