-- ==== Sys2Proof/Machine/FtCore.lean ====
section
/-! DEFINITION. Fyrrarel Transport: connections, requests and their completions, receive entries, windows and their fences
(R263 to R277, R283). -/

namespace Sys2Proof.Machine

/-! ## Tables -/

/-- One connection, and one window table entry. -/
def Blk.conn (s : Blk) (c : Nat) : Conn := tblGet {} c s.ft.conns
def Blk.setConn (s : Blk) (c : Nat) (x : Conn) : Blk := { s with ft := { s.ft with conns := tblSet c x s.ft.conns } }
def Blk.modConn (s : Blk) (c : Nat) (f : Conn → Conn) : Blk := s.setConn c (f (s.conn c))
def Blk.win (s : Blk) (n : Nat) : Win := tblGet {} n s.ft.wins
def Blk.setWin (s : Blk) (n : Nat) (w : Win) : Blk := { s with ft := { s.ft with wins := tblSet n w s.ft.wins } }

/-- The connection is in RTS or DRAIN. -/
def Conn.live (x : Conn) : Bool := x.st == .rts || x.st == .drain

/-- Is DSN `a` below `b` (R278: comparisons are modulo 2^32)? -/
def dsnLt (a b : Nat) : Bool := decide ((a + 2 ^ 32 - b) % 2 ^ 32 ≥ 2 ^ 31)
def dsnAdd (a n : Nat) : Nat := (a + n) % 2 ^ 32
/-- How far DSN `a` lies past `b`. -/
def dsnSub (a b : Nat) : Nat := (a + 2 ^ 32 - b) % 2 ^ 32

/-- The connections bound to a send queue, or to a receive queue. -/
def Blk.connOfSq (s : Blk) (q : Nat) : Option Nat := (s.ft.conns.find? (fun c => c.2.st != .free && c.2.sq == q)).map (fun c => c.1)
def Blk.connOfRq (s : Blk) (q : Nat) : Option Nat := (s.ft.conns.find? (fun c => c.2.st != .free && c.2.rq == q)).map (fun c => c.1)

/-! ## The shape of a message (R261, R281, R283) -/

/-- The pieces of a buffer of `n` bytes cut at the multiples of `p` in it, as offsets and lengths, the remainder last; one empty piece when n
is 0 (R261, R327). -/
def cutsOf (p n : Nat) : List (Nat × Nat) :=
  if n = 0 then [(0, 0)] else (List.range ((n + p - 1) / p)).map (fun k => (p * k, min p (n - p * k)))

/-- The packets of a request: offset and length; those of a READ are its segments. -/
def WReq.packets (r : WReq) (pmtu : Nat) : List (Nat × Nat) :=
  match r.wrt with
  | .send | .write | .writeImm => cutsOf pmtu r.len
  | .read => cutsOf 65536 r.len
  | .atomic => [(0, 8)]

/-- Where the fragments of a request are counted from: the window offset, LADDR of a READ, the start of the buffer of a SEND. -/
def WReq.dest (r : WReq) : Nat :=
  match r.wrt with
  | .read => r.laddr
  | .send => 0
  | _ => r.roff

/-- The fragments that bytes [o, o + n) of the message meet. -/
def WReq.frags (r : WReq) (o n : Nat) : List Nat :=
  if n = 0 then [] else
  let d := r.dest
  (List.range ((d + o + n - 1) / 4096 + 1 - (d + o) / 4096)).map (fun k => (d + o) / 4096 - d / 4096 + k)

/-- The number of fragments. -/
def WReq.nfrag (r : WReq) : Nat := (r.frags 0 r.len).length

/-- Mark fragments of a request failed. -/
def WReq.fail (r : WReq) (l : List Nat) : WReq := { r with failed := r.failed ++ l.filter (fun f => !(r.failed.contains f)) }

/-- Is every response byte of segment `j` of a READ placed? -/
def WReq.segDone (r : WReq) (j : Nat) : Bool :=
  decide (((r.got.filter (fun g => g.1 / 65536 = j)).foldl (fun n g => n + g.2) 0) ≥ min 65536 (r.len - j * 65536))

/-! ## Windows and their fences (R273 to R277) -/

/-- Is an access that was classified against the entry still to be performed? -/
def Blk.winHeld (s : Blk) (n : Nat) : Bool :=
  s.ft.conns.any (fun c => c.2.held.any (fun h => match h.win with
    | some (.pass m _) => m == n
    | _ => false))

/-- Does an FT frame that arrived before the window's expiry still wait for the Dresser (R276)? -/
def Blk.winEarly (s : Blk) (w : Win) : Bool := s.lports.any (fun p => p.2.rx.any (fun f => decide (f.beat < w.expiry)))

/-- Free the expired windows that no classified access holds (R276). -/
def Blk.settleWins (s : Blk) : Blk :=
  forL s.ft.wins (fun p t =>
    if p.2.v && p.2.expired && p.2.revoked.isNone && !(t.winHeld p.1) && !(t.winEarly p.2) then
      (t.setWin p.1 { p.2 with v := false, expired := false }).count F.FT_WIN_EXPIRED_CNT_COUNT
    else t) s

/-- The boundary of beat `b`: the windows that expire at it (R276). -/
def Blk.expireWins (s : Blk) (b : Nat) : Blk :=
  (forL s.ft.wins (fun p t => if p.2.v && decide (p.2.expiry ≤ b) then t.setWin p.1 { p.2 with expired := true } else t) s).settleWins

/-! ## Completions (R268, R374) -/

/-- Replace a request in flight. -/
def Blk.putReq (s : Blk) (r : WReq) : Blk :=
  { s with ft := { s.ft with reqs := s.ft.reqs.map (fun x => if x.q = r.q && x.idx = r.idx then r else x) } }

/-- A request completes: the full mask of a long one first, then the completion that SIG or its status asks for. A request of the collective
engine has none. -/
def Blk.reqDone (s : Blk) (r : WReq) (st : Status) : Blk :=
  let c := s.conn r.conn
  let s1 := { s with ft := { s.ft with reqs := s.ft.reqs.filter (fun x => !(x.q == r.q && x.idx == r.idx)) } }
  if r.seg.isSome then s1 else
  let s2 := if st = .partialFail then s1.writeMask c.inst r.aux r.nfrag r.failed else s1
  if r.sig ∨ st ≠ .ok then
    s2.finishEntry r.q r.idx c.scq 3 st c.inst r.gen (toLe 2 r.conn ++ toLe 6 0 ++ toLe 8 (maskOf r.failed % 2 ^ 64))
  else s2.completeEntry r.q r.idx

/-- A request whose work is done completes OK or PARTIAL (R283). -/
def Blk.reqEnd (s : Blk) (r : WReq) : Blk := s.reqDone r (if r.failed = [] then .ok else .partialFail)

/-- A receive completion (R267). -/
def Blk.recvDone (s : Blk) (c q idx : Nat) (st : Status) (placed : Nat) (imm : Option Nat) : Blk :=
  let x := s.conn c
  s.finishEntry q idx x.rcq 4 st x.inst (s.genOf x.inst)
    (toLe 2 c ++ toLe 1 (b2n imm.isSome) ++ toLe 1 0 ++ toLe 4 placed ++ toLe 4 (imm.getD 0))

/-! ## Connection states (R263) -/

/-- The frames of a connection that wait or are held are no longer its own: what becomes of them does not meet its next use. -/
def Blk.forgetFrames (s : Blk) (c : Nat) : Blk :=
  let f := fun (x : TxFrame) => if x.ft.any (fun p => p.1 == c) then { x with ft := none } else x
  { s with lports := tblMap (fun _ x => { x with eqs := tblMap (fun _ l => l.map f) x.eqs,
                                                 wait := x.wait.map (fun w => { w with frame := f w.frame }) }) s.lports }

/-- A connection returns to FREE; a close that waits replies. -/
def Blk.connFree (s0 : Blk) (c : Nat) : Blk :=
  let x := s0.conn c
  let s := s0.forgetFrames c
  let s1 := if x.enc then s.unbindSlot x.slot c else s
  let s2 := { s1 with ft := { s1.ft with conns := tblErase c s1.ft.conns, cache := s1.ft.cache.filter (fun d => d ≠ c),
                                         fetching := s1.ft.fetching.filter (fun d => d ≠ c) } }
  forL x.closing (fun r t => t.reply r .ok []) s2

/-- A draining connection ends when every request that was fetched has completed, those not yet checked among them, and its packets are
acknowledged. -/
def Blk.connSettle (s : Blk) (c : Nat) : Blk :=
  let x := s.conn c
  if x.st = .drain ∧ !(s.ft.reqs.any (fun r => r.conn == c)) ∧ (s.queue x.sq).unchecked = 0 ∧ x.ackDsn = x.txDsn then s.connFree c else s

/-- A connection enters ERROR (R263): the request concerned completes with the status, every other one FLUSHED, and so do the
receive entries. -/
def Blk.connError (s : Blk) (c : Nat) (st : Status) (r : Option WReq) : Blk :=
  let x := s.conn c
  if !x.live then s
  else
    let s1 := s.setConn c { x with st := .error, errStatus := st.code, held := [], rheld := [], msg := none, rnrWait := false, rnr := none,
                                    out := [] }
    let s2 := if x.enc then s1.unbindSlot x.slot c else s1
    let s3 := forL (s2.ft.reqs.filter (fun q => q.conn == c)) (fun q t =>
      t.reqDone q (match r with
        | some y => if y.q = q.q ∧ y.idx = q.idx then st else .flushed
        | none => .flushed)) s2
    let s4 := match x.msg.bind (fun m => m.entry) with
      | some e => s3.recvDone c e.1 e.2.1 .flushed 0 none
      | none => s3
    let mine := s4.ft.recvs.filter (fun e => e.1 == x.rq)
    let s5 := forL mine (fun e t => t.recvDone c e.1 e.2.1 .flushed 0 none)
      { s4 with ft := { s4.ft with recvs := s4.ft.recvs.filter (fun e => e.1 ≠ x.rq) } }
    (s5.event .ft 0 0 { inst := x.inst }).settleWins

/-- The request of a connection that a DSN belongs to. -/
def Blk.reqOfDsn (s : Blk) (c d : Nat) : Option WReq :=
  s.ft.reqs.find? (fun r => r.conn == c && r.started && decide (dsnSub d r.dsn < r.sent))

/-- The MAC discards a committed FT packet with LINK_NOT_READY (R271): the connection enters ERROR, and where it is a packet of a request, that
request completes with LINK_NOT_READY. -/
def Blk.ftLinkLost (s : Blk) (p : Option (Nat × Option Nat)) : Blk :=
  match p with
  | none => s
  | some (c, d) => s.connError c .linkNotReady (d.bind (fun d => s.reqOfDsn c d))

/-! ## Receive counters (R269) -/

/-- A receive counter, by its absolute number, counts. -/
def Blk.rcntInc (s : Blk) (n : Option Nat) : Blk :=
  match n with
  | some n => s.setF F.FT_RCNT_COUNT n ((s.getF F.FT_RCNT_COUNT n + 1) % 2 ^ 32)
  | none => s

/-- ARMED requests whose counter has reached its value (R270). -/
def Blk.armedMet (s : Blk) (r : WReq) : Bool :=
  match r.armed with
  | none => false
  | some (n, v) => decide ((s.getF F.FT_RCNT_COUNT ((s.inst (s.conn r.conn).inst).cBase + n) + 2 ^ 32 - v) % 2 ^ 32 < 2 ^ 31)

end Sys2Proof.Machine
end

