-- ==== Sys2Proof/Machine/Frame.lean ====
section
/-! DEFINITION. Ethernet frames as bytes, from the destination address to the byte before the FCS: their layers, the IPv4 and UDP
checksums, ECN and PTP (R293, R299 to R301, R303, R313). -/

namespace Sys2Proof.Machine

/-- The big-endian field of `k` bytes at offset `o`. -/
def beAt (f : List Byte) (o k : Nat) : Nat := beNat (slice f o k)

/-- The 802.1Q tag control field of a tagged frame. -/
def frTag (f : List Byte) : Option Nat := if beAt f 12 2 = 0x8100 then some (beAt f 14 2) else none
/-- Where the EtherType's payload begins, and the EtherType. -/
def frL3 (f : List Byte) : Nat := if (frTag f).isSome then 18 else 14
def frType (f : List Byte) : Nat := beAt f (frL3 f - 2) 2
def frV4 (f : List Byte) : Bool := frType f == 0x0800
def frV6 (f : List Byte) : Bool := frType f == 0x86DD
/-- Length of the IPv4 header. -/
def frIhl (f : List Byte) : Nat := beAt f (frL3 f) 1 % 16 * 4

/-- The offset of a UDP header that follows the IP header directly (R300; DESIGN CHOICE, log entry 60). -/
def frUdp (f : List Byte) : Option Nat :=
  let o := frL3 f
  if frV4 f ∧ beAt f (o + 9) 1 = 17 ∧ beAt f (o + 6) 2 % 2 ^ 14 = 0 then some (o + frIhl f)
  else if frV6 f ∧ beAt f (o + 6) 1 = 17 then some (o + 40)
  else none

/-- The ones' complement sum of a byte string as 16-bit words. -/
def sum16 : List Byte → Nat
  | [] => 0
  | [a] => a.toNat * 256
  | a :: b :: t => let n := a.toNat * 256 + b.toNat + sum16 t; n % 65536 + n / 65536

/-- The pseudo-header and the UDP segment. -/
def udpSummed (f : List Byte) (u : Nat) : List Byte :=
  let o := frL3 f
  let n := beAt f (u + 4) 2
  let ph := if frV4 f then slice f (o + 12) 8 ++ toBe 2 17 ++ toBe 2 n else slice f (o + 8) 32 ++ toBe 4 n ++ toBe 4 17
  ph ++ slice f u n

/-- Insert the IPv4 header checksum; and both checksums, where UDP follows the IP header directly (R300). -/
def fixV4 (f : List Byte) : List Byte :=
  if frV4 f then
    let g := spliceAt f (frL3 f + 10) [0, 0]
    spliceAt g (frL3 f + 10) (toBe 2 (65535 - sum16 (slice g (frL3 f) (frIhl f))))
  else f
def fixChecksums (f : List Byte) : List Byte :=
  match frUdp f with
  | some u =>
    let g := spliceAt f (u + 6) [0, 0]
    let c := 65535 - sum16 (udpSummed g u)
    fixV4 (spliceAt g (u + 6) (toBe 2 (if c = 0 then 65535 else c)))
  | none => f

/-- Verify the same checksums: other frames pass unchecked (R300). -/
def csumOk (f : List Byte) : Bool :=
  match frUdp f with
  | some u => (!(frV4 f) || decide (sum16 (slice f (frL3 f) (frIhl f)) = 65535)) &&
      (if beAt f (u + 6) 2 = 0 then frV4 f else decide (sum16 (udpSummed f u) = 65535))
  | none => true

/-- DSCP and ECN of an IP packet. -/
def frTos (f : List Byte) : Nat := if frV4 f then beAt f (frL3 f + 1) 1 else beAt f (frL3 f) 2 / 16 % 256
def frDscp (f : List Byte) : Nat := frTos f / 4
def frEcn (f : List Byte) : Nat := if frV4 f || frV6 f then frTos f % 4 else 0
/-- ECT(0) or ECT(1). -/
def frEct (f : List Byte) : Bool := frEcn f == 1 || frEcn f == 2
/-- Set CE (R303, R311). -/
def markCe (f : List Byte) : List Byte :=
  let o := frL3 f + 1
  let b := beAt f o 1
  if frV4 f then fixV4 (spliceAt f o (toBe 1 (b / 4 * 4 + 3))) else spliceAt f o (toBe 1 (b / 64 * 64 + 48 + b % 16))

/-- The PTP header of an event message (R313): EtherType 0x88F7 with messageType 0 to 3, or UDP destination port 319. -/
def ptpEvent (f : List Byte) : Option Nat :=
  if frType f = 0x88F7 ∧ beAt f (frL3 f) 1 % 16 ≤ 3 then some (frL3 f)
  else match frUdp f with
    | some u => if beAt f (u + 2) 2 = 319 then some (u + 8) else none
    | none => none

/-- Pad a frame to the least length (R293). -/
def padFrame (f : List Byte) : List Byte := f ++ List.replicate (60 - f.length) 0

/-- The hash bin of a group address (R299). -/
def hashBin (a : List Byte) : Nat := (crc32 a).toNat % 512

end Sys2Proof.Machine
end

