-- ==== Sys2Proof/Machine/Eth.lean ====
section
/-! DEFINITION. Ethernet ports: states, the receive and transmit paths, meters, pause and PTP stamps (R290 to R317). -/

namespace Sys2Proof.Machine

def Blk.lp (s : Blk) (l : Nat) : LPort := tblGet {} l s.lports
def Blk.setLp (s : Blk) (l : Nat) (x : LPort) : Blk := { s with lports := tblSet l x s.lports }
def Blk.modLp (s : Blk) (l : Nat) (f : LPort → LPort) : Blk := s.setLp l (f (s.lp l))
def Blk.port (s : Blk) (n : Nat) : EthPort := tblGet {} n s.ports
def Blk.modPort (s : Blk) (n : Nat) (f : EthPort → EthPort) : Blk := { s with ports := tblSet n (f (s.port n)) s.ports }

/-- Logical ports of a port in its mode, and lanes of each (R290). -/
def Blk.nLps (s : Blk) (n : Nat) : Nat := 2 ^ s.getF F.PORT_CFG_BRK n
def Blk.lpExists (s : Blk) (l : Nat) : Bool := decide (l < 64) && decide (l % 8 < s.nLps (l / 8))
def Blk.lanesOf (s : Blk) (l : Nat) : List Nat := let w := 8 / s.nLps (l / 8); (List.range w).map (fun k => w * (l % 8) + k)
def laneMask (ls : List Nat) : Nat := ls.foldl (fun m k => m ||| 2 ^ k) 0
/-- The logical ports of a port. -/
def lpsOf (n : Nat) : List Nat := (List.range 8).map (fun k => 8 * n + k)

/-- LP_CFG.FCM, 3 as 0. -/
def Blk.fcm (s : Blk) (l : Nat) : Nat := s.getF F.LP_CFG_FCM l % 3

/-! ## Transmit (R295, R300, R304, R309 to R313) -/

/-- A frame leaves (R313): its counters and its transmit stamp. -/
def Blk.sendFrame (s : Blk) (l : Nat) (f : List Byte) : Blk :=
  let s1 := ((s.emit (.frame l f)).count F.TX_FRAMES_COUNT l).countBy F.TX_BYTES_COUNT l (f.length + 4)
  match ptpEvent f with
  | none => s1
  | some o =>
    let st := ((s.time.ns : Int) + sext 16 (s.getF F.PTP_LAT_TX_LAT (l / 8))).toNat % 2 ^ 64
    if (s.lp l).stamps.length ≥ 16 then s1.lpEvent l 6
    else s1.modLp l (fun x => { x with stamps := x.stamps ++ [(beAt f (o + 30) 2, beAt f o 1 % 16, st)] })

/-- A frame's traffic class (R301). -/
def Blk.frameTc (s : Blk) (l : Nat) (f : List Byte) : Nat :=
  match frTag f with
  | some t => if s.flag F.LP_CFG_PCP_EN l then t / 2 ^ 13
    else if frV4 f || frV6 f then bits (s.reg .DSCP_TC (l * 8 + frDscp f / 8)).toNat (4 * (frDscp f % 8) + 2) (4 * (frDscp f % 8))
    else s.getF F.LP_CFG_DEF_TC l
  | none =>
    if frV4 f || frV6 f then bits (s.reg .DSCP_TC (l * 8 + frDscp f / 8)).toNat (4 * (frDscp f % 8) + 2) (4 * (frDscp f % 8))
    else s.getF F.LP_CFG_DEF_TC l

/-- The state of a priority's pause watchdog. -/
def LPort.pw (x : LPort) (p : Nat) : PwdState := tblGet .normal p x.pwd

/-- Bytes queued in an egress queue (EQ_DEPTH), and in all those of a physical port. -/
def LPort.depth (x : LPort) (q : Nat) : Nat := (tblGet [] q x.eqs).foldl (fun n f => n + f.data.length + 4) 0
def Blk.portDepth (s : Blk) (n : Nat) : Nat :=
  (lpsOf n).foldl (fun m l => m + (s.lp l).eqs.foldl (fun k q => k + q.2.foldl (fun j f => j + f.data.length + 4) 0) 0) 0

/-- The egress queue of a traffic class and instance (R310): only the first NEQ queues carry an instance's packets. -/
def Blk.egressQ (s : Blk) (l tc : Nat) (inst : Option Nat) : Nat :=
  match inst with
  | none => 0
  | some i => ((List.range 64).find? (fun q => decide (q ≠ 0) && s.flag F.EQ_CFG_V (l * 64 + q) &&
      decide (s.getF F.EQ_CFG_TC (l * 64 + q) = tc) && decide (s.getF F.EQ_CFG_INST (l * 64 + q) = i) &&
      decide (((List.range q).filter (fun r => decide (r ≠ 0) && s.flag F.EQ_CFG_V (l * 64 + r) && decide (s.getF F.EQ_CFG_INST (l * 64 + r) = i))).length <
        (s.inst i).neq))).getD 0

/-- Does the queue of a frame of `n` bytes have room (R310)? -/
def Blk.egressRoom (s : Blk) (l tc : Nat) (inst : Option Nat) (n : Nat) : Bool :=
  decide ((s.lp l).depth (s.egressQ l tc inst) + n + 4 ≤ 2 ^ 20) && decide (s.portDepth (l / 8) + n + 4 ≤ 2 ^ 23)

/-- A frame is discarded with LINK_NOT_READY (R295); an FT packet ends its request (R271). The counters of an absent port stay (R290). -/
def Blk.dropNotReady (s : Blk) (l : Nat) (ft : Option (Nat × Option Nat)) : Blk :=
  ((whenD (s.lpExists l) (fun t => t.count F.TX_NOTREADY_DROP_COUNT l) s).lpEvent l 2).ftLinkLost ft

/-- The watchdog sheds the frames of a priority (R308). -/
def Blk.sheds (s : Blk) (l tc : Nat) : Bool := (s.lp l).pw tc == .broken && !(s.flag F.PORT_PWD_PWD_ACT (l / 8))

/-- A frame enters its egress queue (R295, R308, R310, R311). -/
def Blk.commitFrame (s : Blk) (l tc : Nat) (inst : Option Nat) (ft : Option (Nat × Option Nat)) (data : List Byte) : Blk :=
  if !(s.flag F.LP_CFG_LP_EN l) then s.dropNotReady l ft
  else if s.sheds l tc then s.count F.TX_SHED_COUNT l
  else
    let x := s.lp l
    let q := s.egressQ l tc inst
    let f := fixChecksums (padFrame data)
    let thr := s.getF F.LP_PAUSE_ECN_THR l
    let mark := decide (thr ≠ 0) && frEct f && decide (x.depth q ≥ thr * 1024)
    let held := decide (x.st ≠ .up)
    let s1 := whenD mark (fun t => t.count F.TX_ECN_MARK_COUNT l) (whenD held (fun t => t.count F.TX_HELD_COUNT l) s)
    let w : TxFrame := { data := if mark then markCe f else f, tc := tc, ft := ft, held := held }
    s1.modLp l (fun y => { y with eqs := tblSet q (tblGet [] q y.eqs ++ [w]) y.eqs })

/-- The Dresser may commit a frame of `n` bytes: its queue has room, and no frame waits for the same (R310). -/
def Blk.mayCommit (s : Blk) (l tc : Nat) (inst : Option Nat) (n : Nat) : Bool :=
  s.egressRoom l tc inst (max 60 n) && !((s.lp l).wait.any (fun w => w.frame.tc == tc && w.inst == inst))

/-- The Dresser commits a frame once its queue has room (R310); until then it waits. -/
def Blk.commitWhenRoom (s : Blk) (l tc : Nat) (inst : Option Nat) (ft : Option (Nat × Option Nat)) (data : List Byte) : Blk :=
  if s.mayCommit l tc inst data.length || !(s.flag F.LP_CFG_LP_EN l) || s.sheds l tc then s.commitFrame l tc inst ft data
  else s.modLp l (fun x => { x with wait := x.wait ++ [{ frame := { data := data, tc := tc, ft := ft }, inst := inst }] })

/-- Frames have left the egress queues of a port: those that wait for room come in, in their order. -/
def Blk.drainWait (s : Blk) (n : Nat) : Blk :=
  forL (lpsOf n) (fun l t =>
    forL (t.lp l).wait (fun w u => u.commitWhenRoom l w.frame.tc w.inst w.frame.ft w.frame.data) (t.modLp l (fun x => { x with wait := [] }))) s

/-- A queue that has become empty leaves the ring: its deficit is 0 when it joins it again (R312). -/
def LPort.settleRing (x : LPort) : LPort := { x with deficit := x.deficit.filter (fun q => tblGet [] q.1 x.eqs ≠ []) }

/-- A frame of Tutoby enters the system queue (R309; DESIGN CHOICE, log entry 62). -/
def Blk.commitSys (s : Blk) (l : Nat) (data : List Byte) : Blk :=
  let f := fixChecksums (padFrame data)
  if !(s.flag F.LP_CFG_LP_EN l) then s.dropNotReady l none
  else if s.sheds l (s.frameTc l f) then s.count F.TX_SHED_COUNT l
  else
    let held := decide ((s.lp l).st ≠ .up)
    (whenD held (fun t => t.count F.TX_HELD_COUNT l) s).modLp l (fun x => { x with sysq := x.sysq ++ [{ data := f, tc := s.frameTc l f, held := held }] })

/-- The counted length of a frame (R304). -/
def Blk.counted (s : Blk) (l : Nat) (f : List Byte) : Nat := f.length + 4 + s.getF F.PORT_OVH_OVERHEAD (l / 8)

/-- Send the frames at the head of a queue that its deficit covers (R312), but none of a paused class (R306). -/
def Blk.drrSend : Nat → Blk → Nat → Nat → Nat → Blk
  | 0, s, _, _, _ => s
  | k + 1, s, l, q, d =>
    match tblGet [] q (s.lp l).eqs with
    | [] => s.modLp l (fun x => { x with deficit := tblErase q x.deficit })
    | f :: t =>
      let b := s.counted l f.data
      if (s.lp l).pw f.tc ≠ .paused ∧ b ≤ d then Blk.drrSend k ((s.modLp l (fun x => { x with eqs := tblSet q t x.eqs })).sendFrame l f.data) l q (d - b)
      else s.modLp l (fun x => { x with deficit := tblSet q d x.deficit })

/-- EGRESS_VISIT (R309, R312): the system queue is served when it holds a frame that is not paused, else the next active queue
of the ring is visited. -/
def egressVisitOp (l : Nat) (s : Blk) : Blk :=
  let x := s.lp l
  if x.st ≠ .up then s
  else
    let next := ((List.range 64).map (fun k => (x.last + 1 + k) % 64)).find? (fun q => decide (tblGet [] q x.eqs ≠ []))
    let visit : Blk := match next with
      | none => s
      | some q =>
        let fs := tblGet [] q x.eqs
        let s1 := s.modLp l (fun y => { y with last := q })
        match fs with
        | [] => s1
        | f :: _ =>
          if x.pw f.tc = .paused then s1
          else Blk.drrSend (fs.length + 1) s1 l q (tblGet 0 q x.deficit + max 64 (s.getF F.EQ_CFG_QUANTUM (l * 64 + q)))
    match x.sysq.find? (fun f => decide (x.pw f.tc ≠ .paused)) with
    | some f => (s.setLp l { x with sysq := x.sysq.erase f }).sendFrame l f.data
    | none => visit.drainWait (l / 8)

/-- Does an event message at offset `o` belong on logical port `l` (R203)? Its domain is DOMAIN; a Sync transmits time, with PTP_TX_EN = 1 on
every port but PTP_LPORT; a Delay_Req asks on PTP_LPORT; the peer-delay messages belong on each port that carries time. -/
def Blk.ptpMaySend (s : Blk) (l : Nat) (f : List Byte) (o : Nat) : Bool :=
  let rx := l == s.getF F.TT_SRC_CFG_PTP_LPORT
  let tx := s.flag F.TT_SRC_CFG_PTP_TX_EN && !rx
  beAt f (o + 4) 1 == s.getF F.TT_SRC_CFG_DOMAIN &&
  (match beAt f o 1 % 16 with
    | 0 => tx
    | 1 => rx
    | _ => rx || tx)

/-- PTP_EVENT_MESSAGE_TX (R203, R313): Tutoby's frame leaves at once when nothing is before it; Tutoby sends none that does not belong on the
port. -/
def ptpEventMessageTxOp (l : Nat) (frame : List Byte) (s : Blk) : Blk :=
  let x := s.lp l
  let f := fixChecksums (padFrame frame)
  if !((ptpEvent f).any (fun o => s.ptpMaySend l f o)) ∨ (frTag f).isSome then s
  else if x.st = .up ∧ x.sysq = [] ∧ x.pw (s.frameTc l f) ≠ .paused ∧ !(s.sheds l (s.frameTc l f)) then s.sendFrame l f else s.commitSys l frame

/-- PTP_TXTS_POP (R313, R316). -/
def ptpTxtsPopOp (l : Nat) (s : Blk) : Blk :=
  match (s.lp l).stamps with
  | [] => s.setF F.PTP_TXTS_ID_VALID l 0
  | (sq, mt, ns) :: t =>
    ((s.setReg .PTP_TXTS_NS l (BitVec.ofNat 64 ns)).setReg .PTP_TXTS_ID l (BitVec.ofNat 64 (sq + mt * 2 ^ 16 + 2 ^ 31))).modLp l
      (fun x => { x with stamps := t })

/-! ## Pause (R306 to R308) -/

/-- The priorities that a pause of priority `p` governs: all of them in PAUSE mode. -/
def Blk.pauseSet (s : Blk) (l p : Nat) : List Nat := if s.fcm l = 1 then List.range 8 else [p]

/-- A pause for priority `p` is received (R308). -/
def Blk.pauseFor (s : Blk) (l p : Nat) (on : Bool) : Blk :=
  let set := fun (st : PwdState) => s.modLp l (fun x => { x with pwd := (s.pauseSet l p).foldl (fun t r => tblSet r st t) x.pwd })
  match (s.lp l).pw p, on with
  | .normal, true => set .paused
  | .paused, false => set .normal
  | .broken, true => s.count F.PWD_IGNORED_COUNT l
  | _, _ => s

/-- PAUSE_RX: an IEEE 802.3 PAUSE frame; it counts in priority 0 (R306, R316). -/
def pauseRxOp (l quanta : Nat) (s : Blk) : Blk :=
  if (s.lp l).st ≠ .up then s else
  let s1 := s.count F.PAUSE_RX_COUNT (l * 8)
  if s.fcm l = 1 then s1.pauseFor l 0 (decide (quanta ≠ 0)) else s1

/-- PFC_RX: a PFC frame for the priorities of its class-enable vector (R306). -/
def pfcRxOp (l vec : Nat) (times : List Nat) (s : Blk) : Blk :=
  if (s.lp l).st ≠ .up then s else
  forN 8 (fun p t =>
    if vec.testBit p then
      let t1 := t.count F.PAUSE_RX_COUNT (l * 8 + p)
      if t.fcm l = 2 then t1.pauseFor l p (decide (times.getD p 0 ≠ 0)) else t1
    else t) s

/-- PAUSE_TIME_END (R308). -/
def pauseTimeEndOp (l p : Nat) (s : Blk) : Blk := if (s.lp l).pw p = .paused then s.pauseFor l p false else s

/-- PAUSE_WATCHDOG_EXPIRY (R308): SHED discards the queued frames of the priority. -/
def pauseWatchdogExpiryOp (l p : Nat) (s : Blk) : Blk :=
  if (s.lp l).pw p ≠ .paused then s
  else
    let ps := s.pauseSet l p
    let s1 := ((s.modLp l (fun x => { x with pwd := ps.foldl (fun t r => tblSet r .broken t) x.pwd })).lpEvent l 3).count F.PWD_BREAK_CNT_COUNT l
    if s.flag F.PORT_PWD_PWD_ACT (l / 8) then s1
    else
      let gone := fun (f : TxFrame) => ps.contains f.tc
      let n := ((s.lp l).eqs.flatMap (fun q => q.2.filter gone)).length + ((s.lp l).sysq.filter gone).length
      ((s1.modLp l (fun x => { x with eqs := tblMap (fun _ fs => fs.filter (fun f => !gone f)) x.eqs,
                                      sysq := x.sysq.filter (fun f => !gone f) }.settleRing)).countBy F.TX_SHED_COUNT l n).drainWait (l / 8)

/-- PWD_RECOVER_EXPIRY (R308). -/
def pwdRecoverExpiryOp (l p : Nat) (s : Blk) : Blk :=
  if (s.lp l).pw p = .broken then
    (s.modLp l (fun x => { x with pwd := (s.pauseSet l p).foldl (fun t r => tblSet r .normal t) x.pwd })).lpEvent l 4
  else s

/-- A pause frame goes out ahead of every queue (R307, R309). -/
def Blk.sendPause (s : Blk) (l p quanta : Nat) : Blk :=
  if (s.lp l).st ≠ .up then s else
  let body := if s.fcm l = 1 then toBe 2 1 ++ toBe 2 quanta
    else toBe 2 0x0101 ++ toBe 2 (2 ^ p) ++ (List.range 8).flatMap (fun k => toBe 2 (if k = p then quanta else 0))
  let f := toBe 6 0x0180C2000001 ++ toBe 6 (s.reg .LP_MAC l).toNat ++ toBe 2 0x8808 ++ body
  (s.sendFrame l (padFrame f)).count F.PAUSE_TX_COUNT (l * 8 + (if s.fcm l = 1 then 0 else p))

/-- The receive-buffer occupancy of a priority (R307), and that of a physical port. -/
def LPort.occ (x : LPort) (p : Nat) : Nat := x.rx.foldl (fun n f => if f.tc = p then n + f.len else n) 0
def Blk.portOcc (s : Blk) (n : Nat) : Nat := (lpsOf n).foldl (fun m l => m + (s.lp l).rx.foldl (fun k f => k + f.len) 0) 0

/-- The occupancy of a priority has grown: XOFF. -/
def Blk.checkXoff (s : Blk) (l p : Nat) : Blk :=
  if s.fcm l ≠ 0 ∧ !((s.lp l).xoff.contains p) ∧ (s.lp l).occ p ≥ s.getF F.LP_THR_XOFF l * 1024 then
    (s.modLp l (fun x => { x with xoff := p :: x.xoff })).sendPause l p (s.getF F.LP_PAUSE_PAUSE_TIME l)
  else s

/-- The occupancy of a priority has fallen: XON. In PAUSE mode the pause ends when no priority holds it. -/
def Blk.checkXon (s : Blk) (l p : Nat) : Blk :=
  if (s.lp l).xoff.contains p ∧ (s.lp l).occ p ≤ s.getF F.LP_THR_XON l * 1024 then
    let s1 := s.modLp l (fun x => { x with xoff := x.xoff.filter (fun r => r ≠ p) })
    if s.fcm l = 0 ∨ (s.fcm l = 1 ∧ (s1.lp l).xoff ≠ []) then s1 else s1.sendPause l p 0
  else s

/-- PAUSE_REPEAT (R307). -/
def pauseRepeatOp (l p : Nat) (s : Blk) : Blk :=
  if s.fcm l ≠ 0 ∧ (s.lp l).xoff.contains p ∧ (s.lp l).occ p > s.getF F.LP_THR_XON l * 1024 then s.sendPause l p (s.getF F.LP_PAUSE_PAUSE_TIME l) else s

/-! ## Meters (R302 to R305) -/

/-- What a meter does with a frame. -/
inductive MeterAct where
  | pass | mark | drop
  deriving DecidableEq, Repr

def meterAct (c : Nat) : MeterAct := if c = 0 then .pass else if c = 1 then .mark else .drop

/-- A meter judges a frame of `b` counted bytes (R303). Buckets hold 1/8000 byte, what one Mb/s brings in one ns. -/
def Blk.meterFrame (s : Blk) (n m b : Nat) : Blk × MeterAct :=
  let ix := n * 512 + m
  if !(s.flag F.MTR_CTL_EN ix) then (s, .pass)
  else
    let x := tblGet {} m (s.port n).meters
    let dt := s.time.uptime - x.at_
    let tc := min (x.cbs * 8000) (x.tc + x.cir * dt)
    let tp := min (x.pbs * 8000) (x.tp + x.pir * dt)
    let b8 := b * 8000
    let put := fun (tc tp : Nat) => s.modPort n (fun y => { y with meters := tblSet m { x with tc := tc, tp := tp, at_ := s.time.uptime } y.meters })
    if tp < b8 then ((put tc tp).count F.MTR_RED_COUNT ix, meterAct (s.getF F.MTR_CTL_RACT ix))
    else if tc < b8 then ((put tc (tp - b8)).count F.MTR_YELLOW_COUNT ix, meterAct (s.getF F.MTR_CTL_YACT ix))
    else ((put (tc - b8) (tp - b8)).count F.MTR_GREEN_COUNT ix, meterAct (s.getF F.MTR_CTL_GACT ix))

/-- MTR_CTL_WRITE (R303, R305): the shadowed rates apply and both buckets are filled. -/
def mtrCtlWriteOp (n m : Nat) (v : BitVec 32) (s : Blk) : Blk :=
  let ix := n * 512 + m
  let s1 := s.setReg .MTR_CTL ix (BitVec.ofNat 64 (v.toNat % 128))
  let cbs := 64 * max 1 (s.getF F.MTR_BS_CBS ix)
  let pbs := 64 * max 1 (s.getF F.MTR_BS_PBS ix)
  let cir := s.getF F.MTR_CIR_CIR ix
  let x : Meter := { cir := cir, pir := max cir (s.getF F.MTR_PIR_PIR ix), cbs := cbs, pbs := pbs, tc := cbs * 8000, tp := pbs * 8000,
                     at_ := s.time.uptime }
  s1.modPort n (fun y => { y with meters := tblSet m x y.meters })

/-- The meter of a traffic class and instance, or of SYS (R302); a meter outside the instance's range acts as EN = 0 (R393). -/
def Blk.meterSel (s : Blk) (l tc : Nat) (inst : Option Nat) : Option Nat :=
  let e := match inst with
    | some i => bits (s.reg .METSEL (l * 256 + 32 * tc + i / 2)).toNat (16 * (i % 2) + 15) (16 * (i % 2))
    | none => bits (s.reg .METSEL_SYS (l * 4 + tc / 2)).toNat (16 * (tc % 2) + 15) (16 * (tc % 2))
  let m := bits e 8 0
  let own : Bool := match inst with
    | some i => decide ((s.inst i).mtrBase ≤ m) && decide (m < (s.inst i).mtrBase + (s.inst i).mtrCount)
    | none => true
  if e.testBit 15 && own then some m else none

/-! ## Receive (R297 to R301) -/

/-- The address filter (R298). -/
def Blk.addrOk (s : Blk) (l : Nat) (f : List Byte) : Bool :=
  let d := beAt f 0 6
  s.flag F.LP_CFG_PROMISC l || decide (d = (s.reg .LP_MAC l).toNat % 2 ^ 48) ||
  (List.range 7).any (fun k => s.flag F.UC_V (l * 7 + k) && decide (s.getF F.UC_ADDR (l * 7 + k) = d)) ||
  (if d = 2 ^ 48 - 1 then s.flag F.LP_CFG_BCAST_EN l
   else decide (d = 0x0180C200000E) || decide (d = 0x011B19000000) ||
     (d.testBit 40 && s.bitR .HASH (l * 16 + hashBin (slice f 0 6) / 32) (hashBin (slice f 0 6) % 32)))

/-- The UDP payload of a datagram to UDP_PORT. -/
def Blk.ftPayload (s : Blk) (f : List Byte) : Option (List Byte) :=
  match frUdp f with
  | some u => if beAt f (u + 2) 2 = s.getF F.FT_UDP_UDP_PORT then some (slice f (u + 8) (beAt f (u + 4) 2 - 8)) else none
  | none => none

/-- The instance of an FT frame: that of its destination connection (R301). -/
def Blk.ftInst (s : Blk) (p : List Byte) : Option Nat :=
  let c := s.conn (beAt p 8 2)
  if c.st = .free then none else some c.inst

/-- The IPv6 Neighbor Advertisement that answers a solicitation for LP_IP6 (RFC 4861). -/
def Blk.ndAnswer (s : Blk) (l : Nat) (f : List Byte) : Option (List Byte) :=
  let o := frL3 f
  let ip := (s.reg .LP_IP6_HI l).toNat * 2 ^ 64 + (s.reg .LP_IP6_LO l).toNat
  if frV6 f ∧ beAt f (o + 6) 1 = 58 ∧ beAt f (o + 7) 1 = 255 ∧ beAt f (o + 40) 1 = 135 ∧ beAt f (o + 48) 16 = ip ∧ ip ≠ 0 then
    let mac := toBe 6 (s.reg .LP_MAC l).toNat
    let unspec := decide (beAt f (o + 8) 16 = 0)
    let dst := if unspec then 0xFF02 * 2 ^ 112 + 1 else beAt f (o + 8) 16
    let addrs := toBe 16 ip ++ toBe 16 dst
    let body := fun (c : Nat) => toBe 2 (136 * 256) ++ toBe 2 c ++ toBe 4 (if unspec then 0x20000000 else 0x60000000) ++ toBe 16 ip ++ toBe 2 0x0201 ++ mac
    let c := 65535 - sum16 (addrs ++ toBe 4 32 ++ toBe 4 58 ++ body 0)
    some ((if unspec then toBe 6 0x333300000001 else slice f 6 6) ++ mac ++ toBe 2 0x86DD ++ toBe 4 0x60000000 ++ toBe 2 32 ++ toBe 2 (58 * 256 + 255) ++
      addrs ++ body c)
  else none

/-- Forward an FT frame to another device (R182): decryption is not needed, the hop limit is decremented. -/
def Blk.ftForward (s : Blk) (f : List Byte) (dev : Nat) : Blk :=
  let o := frL3 f
  let hop := beAt f (o + 7) 1
  let drop := (s.count F.FWD_DROP_CNT_COUNT).event .fab 0 8
  if !(s.flag F.FAB_CTRL_FWD_EN) ∨ !(s.flag F.DEVRT_V dev) ∨ hop ≤ 1 then drop
  else
    let l := s.getF F.DEVRT_LPORT dev
    let ip := spliceAt (f.drop o) 7 (toBe 1 (hop - 1))
    let g := toBe 6 (Config.neighborMac l).toNat ++ toBe 6 (s.reg .LP_MAC l).toNat ++ toBe 2 0x86DD ++ ip
    s.commitWhenRoom l (s.frameTc l g) none none g

/-- The Dresser's first two checks of an FT frame (R260); a frame that passes waits in the receive buffer (DESIGN CHOICE, log entry 63). -/
def Blk.ftArrive (s : Blk) (l tc : Nat) (f p : List Byte) : Blk :=
  let opc := beAt p 1 1
  if !(s.flag F.FT_CTRL_EN) then s
  else if p.length < 32 ∨ beAt p 0 1 / 16 ≠ 1 ∨ opc = 0 ∨ opc > 8 then (s.count F.FT_DROP_HDR_CNT_COUNT).event .ft 0 2
  else if beAt p 4 2 % 4096 ≠ s.getF F.DEV_ID_DEVNUM then s.ftForward f (beAt p 4 2 % 4096)
  else
    let x : FtRx := { len := f.length + 4, tc := tc, src := beAt f (frL3 f + 8) 16, ce := decide (frEcn f = 3), beat := s.time.beat,
                      fth := slice p 0 32, body := p.drop 32 }
    (s.modLp l (fun y => { y with rx := y.rx ++ [x] })).checkXoff l tc

/-- A basic packet on an Ethernet link (R176): HELLO and LSA wait for the basic-packet path, the others go to Tutoby, and those of a reserved
KIND are discarded. -/
def Blk.basicArrive (s : Blk) (l : Nat) (f : List Byte) : Blk :=
  let o := frL3 f
  let h := beAt f o 8
  let p : BasicPkt := { fmt := bits h 1 0, vc := bits h 3 2, kind := bits h 7 4, dst := bits h 26 8, src := bits h 41 27, seq := bits h 55 48,
                        hops := bits h 63 56, payload := f.drop (o + 8) }
  if p.kind = 0 ∨ p.kind > 6 then s
  else if p.kind ≤ 2 then { s with disc := { s.disc with rx := s.disc.rx ++ [(l, p)] } }
  else s.emit (.toTutoby l f 0)

/-- Delivery by the frame's contents (R297, R313). -/
def Blk.deliver (s : Blk) (l tc : Nat) (f : List Byte) : Blk :=
  match s.ftPayload f with
  | some p => s.ftArrive l tc f p
  | none =>
    if frType f = 0x88B5 then s.basicArrive l f
    else
    let stamp := if (ptpEvent f).isSome then ((s.time.ns : Int) - sext 16 (s.getF F.PTP_LAT_RX_LAT (l / 8))).toNat % 2 ^ 64 else 0
    let s1 := s.emit (.toTutoby l f stamp)
    match s.ndAnswer l f with
    | some a => s1.commitSys l a
    | none => s1

/-- Steps 7 and 8 of R297. -/
def Blk.rxBuffer (s : Blk) (l tc : Nat) (f : List Byte) : Blk :=
  let n := s.portOcc (l / 8) + f.length + 4
  if 4194304 < n then (s.count F.RX_NOBUF_DROP_COUNT l).lpEvent l 7
  else ((s.count F.RX_FRAMES_COUNT l).countBy F.RX_BYTES_COUNT l (f.length + 4)).deliver l tc f

/-- Step 6 of R297: classification and meter. -/
def Blk.rxClass (s : Blk) (l : Nat) (f : List Byte) : Blk :=
  let tc := s.frameTc l f
  let inst := (s.ftPayload f).bind (fun p => s.ftInst p)
  match s.meterSel l tc inst with
  | none => s.rxBuffer l tc f
  | some m =>
    let (s1, act) := s.meterFrame (l / 8) m (s.counted l f)
    match act with
    | .pass => s1.rxBuffer l tc f
    | .mark => s1.rxBuffer l tc (if frEct f then markCe f else f)
    | .drop => s1.count F.RX_METER_DROP_COUNT l

/-- ETH_FRAME_RX (R297): `frame` runs from the destination address to the FCS; `fecBad` says that a codeword was uncorrectable,
`cw` and `sym` count the corrected codewords and symbols. A frame with two tags is refused as one of a bad length (DESIGN CHOICE, log entry 109). -/
def ethFrameRxOp (l : Nat) (frame : List Byte) (fecBad : Bool) (cw sym : Nat) (s : Blk) : Blk :=
  if (s.lp l).st ≠ .up then s
  else
    let s1 := ((s.countBy F.FEC_CORR_CW_COUNT l cw).countBy F.FEC_SYM_ERR_COUNT l sym).modLp l (fun x => { x with fecMs := x.fecMs + sym })
    let f := frame.take (frame.length - 4)
    if fecBad then (s1.count F.FEC_UNCORR_CW_COUNT l).count F.RX_FCS_ERR_COUNT l
    else if frame.length < 4 ∨ frame.drop (frame.length - 4) ≠ toLe 4 (crc32 f).toNat then s1.count F.RX_FCS_ERR_COUNT l
    else if frame.length < 64 ∨ frame.length > max 64 (s.getF F.LP_MAXFR_MAX_FRAME l) ∨ ((frTag f).isSome ∧ frType f = 0x8100) then s1.count F.RX_LEN_ERR_COUNT l
    else if frType f = 0x8808 then
      let o := frL3 f
      if beAt f o 2 = 1 then pauseRxOp l (beAt f (o + 2) 2) s1
      else if beAt f o 2 = 0x0101 then pfcRxOp l (beAt f (o + 2) 2) ((List.range 8).map (fun k => beAt f (o + 4 + 2 * k) 2)) s1
      else s1.count F.RX_FILTER_DROP_COUNT l
    else if !(s.addrOk l f) then s1.count F.RX_FILTER_DROP_COUNT l
    else if !(csumOk f) then s1.count F.RX_CSUM_DROP_COUNT l
    else s1.rxClass l f

/-! ## States of ports and logical ports (R290, R291, R294, R295) -/

/-- Every queued frame of a logical port is discarded with LINK_NOT_READY. -/
def Blk.dropHeld (s : Blk) (l : Nat) : Blk :=
  let x := s.lp l
  let fs := x.sysq ++ x.eqs.flatMap (fun q => q.2)
  (forL fs (fun f t => t.dropNotReady l f.ft) (s.setLp l { x with eqs := [], sysq := [], deficit := [] })).drainWait (l / 8)

/-- Lanes start to calibrate. -/
def Blk.calibrate (s : Blk) (n m : Nat) : Blk :=
  s.modPort n (fun p => { p with busy := p.busy ||| m, lanes := p.lanes &&& (255 - m) })

/-- LANE_CAL_DONE (R294): the lanes of a logical port are locked and adapted, and its link trains. -/
def laneCalDoneOp (l : Nat) (s : Blk) : Blk :=
  let n := l / 8
  let m := laneMask (s.lanesOf l)
  if !(s.lpExists l) ∨ (s.port n).busy &&& m = 0 then s
  else
    let s1 := ((List.range 8).filter (fun k => m.testBit k)).foldl (fun t k => (t.setLock (152 + 16 * n + 2 * k) true).setLock (153 + 16 * n + 2 * k) true)
      (s.modPort n (fun p => { p with busy := p.busy &&& (255 - m), lanes := p.lanes ||| m }))
    let s2 := if (s.lp l).st = .cal then s1.modLp l (fun x => { x with st := .down }) else s1
    if (s1.port n).busy = 0 then s2.event .eth n 1 { info0 := n } else s2

/-- LINK_UP (R294). -/
def linkUpOp (l : Nat) (s : Blk) : Blk := if (s.lp l).st = .down then (s.modLp l (fun x => { x with st := .up })).lpEvent l 0 else s

/-- LINK_DOWN (R294): the frames that are queued are now held (R295). -/
def linkDownOp (l : Nat) (s : Blk) : Blk :=
  if (s.lp l).st ≠ .up then s
  else
    let x := s.lp l
    let fresh := (x.sysq.filter (fun f => !f.held)).length + ((x.eqs.flatMap (fun q => q.2)).filter (fun f => !f.held)).length
    let hold := fun (f : TxFrame) => { f with held := true }
    ((s.setLp l { x with st := .down, eqs := tblMap (fun _ fs => fs.map hold) x.eqs, sysq := x.sysq.map hold }).countBy F.TX_HELD_COUNT l
      fresh).lpEvent l 1

/-- PORT_CFG_WRITE (R290, R291, R294): refused while a logical port is enabled. -/
def portCfgWriteOp (n : Nat) (v : BitVec 32) (s : Blk) : Blk :=
  if (lpsOf n).any (fun l => s.flag F.LP_CFG_LP_EN l) then s.event .eth n 0 { info0 := n }
  else
    let w := v.toNat % 8
    let s1 := s.setReg .PORT_CFG n (BitVec.ofNat 64 w)
    if (s.reg .PORT_CFG n).toNat = w ∨ (lpsOf n).all (fun l => (s.lp l).st == .off) then s1
    else
      let s2 := forL (lpsOf n) (fun l t => t.modLp l (fun x => { x with st := if t.lpExists l then .cal else .off })) s1
      s2.calibrate n 255

/-- The LP_EN of a logical port is written (R294). -/
def Blk.lpEnable (s : Blk) (l : Nat) (on : Bool) : Blk :=
  let st := (s.lp l).st
  if st = .off then s
  else if on then
    if st ≠ .disabled then s
    else
      let m := laneMask (s.lanesOf l)
      if (s.port (l / 8)).lanes &&& m = m then s.modLp l (fun x => { x with st := .down })
      else (s.modLp l (fun x => { x with st := .cal })).calibrate (l / 8) m
  else (s.dropHeld l).modLp l (fun x => { x with st := .disabled })

/-- LP_EN_WRITE: a write of LP_CFG. LP_EN of an absent logical port cannot be set (R290). -/
def lpEnWriteOp (l : Nat) (v : BitVec 32) (s : Blk) : Blk :=
  let w := v.toNat % 2 ^ 9
  let w' := if s.lpExists l then w else w / 2 * 2
  (s.setReg .LP_CFG l (BitVec.ofNat 64 w')).lpEnable l (w'.testBit 0)

/-- A port's domain is powered on or off (R294, R440). -/
def Blk.portPower (s : Blk) (n : Nat) (on : Bool) : Blk :=
  if on then
    if (lpsOf n).any (fun l => (s.lp l).st != .off) then s
    else forL (lpsOf n) (fun l t =>
      if !(t.lpExists l) then t
      else if t.flag F.LP_CFG_LP_EN l then (t.modLp l (fun x => { x with st := .cal })).calibrate n (laneMask (t.lanesOf l))
      else t.modLp l (fun x => { x with st := .disabled })) s
  else
    (List.range 16).foldl (fun t k => t.setLock (152 + 16 * n + k) false)
      { s with ports := tblSet n { meters := (s.port n).meters } s.ports,
               lports := (lpsOf n).foldl (fun t l => tblSet l {} t) s.lports }

/-- PORT_HOLD_EXPIRY (R295): the oldest held frame of queue `q` (64 the system queue) has waited HOLD_MS. -/
def portHoldExpiryOp (l q : Nat) (s : Blk) : Blk :=
  let x := s.lp l
  if x.st = .up then s
  else if q = 64 then
    match x.sysq with
    | f :: t => (s.setLp l { x with sysq := t }).dropNotReady l f.ft
    | [] => s
  else match tblGet [] q x.eqs with
    | f :: t => ((s.setLp l { x with eqs := tblSet q t x.eqs }.settleRing).dropNotReady l f.ft).drainWait (l / 8)
    | [] => s

/-- FEC_RATE_CHECK (R315, R427): the corrected symbols of the last millisecond, those between frames being `extra`. -/
def fecRateCheckOp (l extra : Nat) (s : Blk) : Blk :=
  if (s.lp l).st ≠ .up then s
  else
    let n := (s.lp l).fecMs + extra
    let s1 := (s.countBy F.FEC_SYM_ERR_COUNT l extra).modLp l (fun x => { x with fecMs := 0 })
    if n > s.getF F.PORT_FEC_THR_THR (l / 8) then
      forL (s.lanesOf l) (fun k t => t.histEvent (unitLane (l / 8 * 8 + k))) (s1.lpEvent l 5)
    else s1

end Sys2Proof.Machine
end

