-- ==== Sys2Proof/Machine/LoadStore.lean ====
section
/-! DEFINITION. Loads, stores and the four transfers (R104 to R108, R132 to R141, R149 to R154). -/

namespace Sys2Proof.Machine

/-! ## When a memory access may issue (R137, R138, R121) -/

/-- Two ranges share a byte. -/
def rangesMeet (a n b m : Nat) : Bool := decide (a < b + m) && decide (b < a + n)

/-- The drawer ranges of a transfer. -/
def Xfer.ranges (x : Xfer) : List (Nat × Nat) := (x.dpa, x.len) :: x.sides

/-- Does a transfer write memory? -/
def Xfer.writesMem (x : Xfer) : Bool :=
  match x.kind with
  | .stb _ _ _ | .asave _ => true
  | _ => false

/-- A range meets a transfer of the thread that was issued before place `id` of the issue order: accesses to one byte perform in
program order (R137; log entry 44). -/
def CoreSt.meetsXfer (c : CoreSt) (t id a n : Nat) : Bool :=
  c.xfer.any (fun x => decide (x.id < id) && x.tid == t && x.ranges.any (fun r => rangesMeet a n r.1 r.2))

/-- A range may meet a placement of an earlier MXMS of the thread that is not yet acknowledged: the largest tile has 8,192 bytes. -/
def CoreSt.meetsMxms (c : CoreSt) (t id a n : Nat) : Bool :=
  let hit := fun (x : Nat) => (mxmsDests x).any (fun p => rangesMeet a n (drawerBase p + bits x 58 38) 8208)
  c.mq.any (fun e => decide (e.id < id) && e.tid == t && e.kind == .mxms && hit e.x) ||
    c.deliv.any (fun d => decide (d.id < id) && d.tid == t && d.coll.isNone && hit d.x)

/-- A range meets the tensor descriptor of an earlier matrix instruction of the thread that has yet to read it (R109, R137). -/
def Blk.meetsTd (s : Blk) (p t id a n : Nat) : Bool :=
  (s.core p).mq.any (fun e => decide (e.id < id) && e.tid == t && (e.kind == .mxms || e.kind == .mxmr || e.kind == .mxst) && e.tdRead.isNone &&
    (match s.drawerRange ((s.instOfPos p).getD 0) e.td 32 .rd with
      | some d => rangesMeet a n d 32
      | none => false))

/-- A range of the aperture meets an outstanding aperture load of the thread (R137). -/
def Thread.meetsAper (x : Thread) (off n : Nat) : Bool :=
  x.ops.any (fun o => match o.kind with
    | .load _ sz _ _ => decide (0x80_0000_0000 ≤ o.addr) && rangesMeet (0x80_0000_0000 + off) n o.addr (2 ^ sz)
    | .vload _ => decide (0x80_0000_0000 ≤ o.addr) && rangesMeet (0x80_0000_0000 + off) n o.addr 64
    | _ => false)

/-- The thread's FENCEs and its LKACQ hold an access back (R121, R138). -/
def CoreSt.fenced (c : CoreSt) (t : Nat) (wr : Bool) : Bool :=
  let x := c.th t
  x.fences.any (fun h => (h.all || wr) && h.waits.any (fun id => c.outstanding t id)) ||
    x.ops.any (fun o => match o.kind with
      | .lock _ _ _ rel => !rel
      | _ => false)

/-- A drawer access of the thread waits at issue for a fence, for an earlier access to the same bytes (R137, R138), or for a
granule in FLUSHING (R344). -/
def Blk.memWaits (s : Blk) (p t a n : Nat) (wr : Bool) : Bool :=
  let c := s.core p
  c.fenced t wr || c.meetsXfer t c.seq a n || c.meetsMxms t c.seq a n || s.meetsTd p t c.seq a n || s.flushing a n

/-! ## The drawer, with what the environment's check finds (R149, R150) -/

/-- A read of [a, a+n) meets what the check finds there. -/
def Blk.hwRead (s : Blk) (hw : HwErr) (a : Nat) : Blk :=
  match hw with
  | .eccUncorr => { s with mem := s.mem.setUncorr a }
  | .eccCorr => s.eccCe a
  | .silent o v => { s with mem := s.mem.silentChange (a / 4096 * 4096 + o.toNat) [v] }
  | _ => s

/-- Natural alignment and translation of an access: ALIGN, UNMAPPED or where it leads (R104, R134). ALIGN is judged first
(DESIGN CHOICE, log entry 11). -/
def Blk.locate (s : Blk) (p addr n : Nat) (a : Access) : Except Cause Target :=
  if addr % n ≠ 0 then .error .align
  else match s.translate ((s.instOfPos p).getD 0) addr a with
    | .unmapped => .error .unmapped
    | t => .ok t

/-- The value of a load of 2^sz bytes, extended (R104). -/
def loadValue (sz : Nat) (sx : Bool) (l : List Byte) : Word :=
  if sx then BitVec.ofInt 64 (sext (8 * 2 ^ sz) (leNat l)) else BitVec.ofNat 64 (leNat l)

/-- Add an outstanding operation of a thread. -/
def Blk.addOp (s : Blk) (p t : Nat) (o : OutOp) : Blk := s.modTh p t (fun x => { x with ops := x.ops ++ [o] })

/-- Remove an outstanding operation. -/
def Blk.dropOp (s : Blk) (p t id : Nat) : Blk := s.modTh p t (fun x => { x with ops := x.ops.filter (fun o => o.id ≠ id) })

/-- Outstanding operations of a thread by number. -/
def Blk.findOp (s : Blk) (p t id : Nat) : Option OutOp := (s.th p t).ops.find? (fun o => o.id == id)

/-- The host link takes a request now. -/
def Blk.hostOpen (s : Blk) : Bool := s.link.active

/-- Issue a read of host memory (R134): a fresh tag, the instance's PASID. -/
def Blk.hostReadReq (s : Blk) (rec : HReadRec) : Blk :=
  let tag := s.hnext
  ({ s with hreads := tblSet tag rec s.hreads, hnext := tag + 1 }).emit
    (.hostRead tag (some (s.inst rec.inst).pasid) ((s.inst rec.inst).haBase + rec.off) rec.len)

/-- A load by a core from the aperture. -/
def Blk.aperLoad (s : Blk) (p t off n : Nat) (kind : OpKind) : Blk :=
  let (id, s1) := s.takeSeq p
  let i := (s.instOfPos p).getD 0
  (s1.addOp p t { id := id, kind := kind, addr := 0x80_0000_0000 + off }).hostReadReq
    { pos := p, tid := t, id := id, inst := i, off := off, len := n }

/-- A store by a core to the aperture: a posted write of its enabled bytes (R135). -/
def Blk.aperStore (s : Blk) (p off : Nat) (l : List Byte) : Blk :=
  let i := (s.instOfPos p).getD 0
  s.hostWrite (some i) ((s.inst i).haBase + off) l

/-- A request of a thread to a drawer of another cluster. -/
def Blk.remoteReq (s : Blk) (p t : Nat) (kind : OpKind) (addr iaddr : Nat) (pkts : List StreamPkt) : Blk :=
  let (id, s1) := s.takeSeq p
  let o : OutOp := { id := id, kind := kind, addr := addr, pc := s.pcOf p t, iaddr := iaddr }
  forL pkts (fun pk u => u.request1 { kind := .op t id } pk) (s1.addOp p t o)

/-- Deliver the bytes of a load to its register. -/
def Thread.loaded (x : Thread) (k : OpKind) (l : List Byte) : Thread :=
  match k with
  | .load d sz sx off => x.gw d (loadValue sz sx (slice l off (2 ^ sz)))
  | .vload d => x.vw d (BitVec.ofNat 512 (leNat l))
  | _ => x

/-- LD and VLD: `kind` says the register; `n` bytes. -/
def loadOp (i : Issue) (d : RegRef) (a : Nat) (imm : Word) (n : Nat) (kind : Nat → OpKind) (illegal : Bool) (s : Blk) : Blk :=
  let p := i.pos.toNat
  let t := i.tid.toNat
  let th := s.th p t
  let addr := (th.gr a + imm).toNat
  let pc := th.pc.toNat
  let tgt := s.locate p addr n .rd
  let stall := match tgt with
    | .ok (.drawer x) => s.memWaits p t x n false ||
        (remoteDpa p x && (s.tagRoom p == 0 || !(s.flowOpen p (epPos (posOfDpa x) 0) 0)))
    | .ok (.aperture o) => (s.core p).fenced t false || !s.hostOpen || th.meetsAper o n
    | _ => false
  s.issue i false [d, .g a] (stall && !illegal) illegal false (fun s =>
    match tgt with
    | .error c => s.raiseExc p t c pc addr
    | .ok (.drawer x) =>
      if remoteDpa p x then
        let u := if n = 64 then x else x / 8 * 8
        (s.remoteReq p t (kind (x - u)) x addr [{ pktTo p u kRd with len := if n = 64 then 8 else 1 }]).retire p t false
      else
        let s1 := s.hwRead i.hw x
        if s1.mem.uncorrIn x n then (s1.readCheck x n).raiseExc p t .eccUncorr pc addr (some x)
        else (s1.modTh p t (fun y => y.loaded (kind 0) (s1.mem.bytes x n))).retire p t false
    | .ok (.aperture o) => (s.aperLoad p t o n (kind 0)).retire p t false
    | .ok .unmapped => s)

/-- LD (R104). -/
def ldOp (i : Issue) (f : FmtI) (s : Blk) : Blk :=
  let m := f.m.toNat
  loadOp i (.g f.d.toNat) f.a.toNat f.immW (2 ^ (m % 4)) (fun off => .load f.d.toNat (m % 4) (m / 4 % 2 == 1) off)
    (f.bad true true false false 8) s

/-- VLD (R104). -/
def vldOp (i : Issue) (f : FmtI) (s : Blk) : Blk :=
  loadOp i (.v f.d.toNat) f.a.toNat f.immW 64 (fun _ => .vload f.d.toNat) (f.bad true true false false 1) s

/-- The runs of enabled bytes of a store: offset and bytes. -/
def enabledRuns (l : List Byte) (en : Nat → Bool) : List (Nat × List Byte) :=
  (l.zip (List.range l.length)).foldr (fun b acc =>
    if en b.2 then
      match acc with
      | (o, bs) :: t => if o = b.2 + 1 then (b.2, b.1 :: bs) :: t else (b.2, [b.1]) :: acc
      | [] => [(b.2, [b.1])]
    else acc) []

/-- The WR packets of a store to another cluster (R175): one packet where every 8-byte unit but the last is whole, else one
for each unit with an enabled byte (DESIGN CHOICE, log entry 12). -/
def wrPackets (p dpa : Nat) (l : List Byte) (en : Nat → Bool) : List StreamPkt :=
  let units := l.length / 8
  let mask := fun (u : Nat) => (List.range 8).foldl (fun (a : Nat) k => a + b2n (en (8 * u + k)) * 2 ^ k) 0
  if (List.range (units - 1)).all (fun u => mask u == 255) ∧ mask (units - 1) ≠ 0 then
    [{ pktTo p dpa kWr with len := units, arg := mask (units - 1), payload := l }]
  else
    ((List.range units).filter (fun u => mask u != 0)).map (fun u =>
      { pktTo p (dpa + 8 * u) kWr with len := 1, arg := mask u, payload := slice l (8 * u) 8 })

/-- ST and VST: the bytes from an aligned unit, with their enables. `n` is the size that alignment is judged by. -/
def storeOp (i : Issue) (srcs : List RegRef) (a : Nat) (imm : Word) (n : Nat) (l : List Byte) (en : Nat → Bool)
    (illegal : Bool) (s : Blk) : Blk :=
  let p := i.pos.toNat
  let t := i.tid.toNat
  let th := s.th p t
  let addr := (th.gr a + imm).toNat
  let pc := th.pc.toNat
  let tgt := s.locate p addr n .wr
  let shifted := fun (x : Nat) =>
    let u := x / 8 * 8
    wrPackets p u (slice (List.replicate (x - u) 0 ++ l) 0 (alignUp (x - u + l.length) 8))
      (fun k => decide (x - u ≤ k) && decide (k < x - u + l.length) && en (k - (x - u)))
  let stall := match tgt with
    | .ok (.drawer x) => s.memWaits p t x n true ||
        (remoteDpa p x && (decide (s.tagRoom p < (shifted x).length) || !(s.flowOpen p (epPos (posOfDpa x) 0) 0)))
    | .ok (.aperture o) => (s.core p).fenced t true || !s.hostOpen || th.meetsAper o n
    | _ => false
  s.issue i false (.g a :: srcs) (stall && !illegal) illegal false (fun s =>
    match tgt with
    | .error c => s.raiseExc p t c pc addr
    | .ok (.drawer x) =>
      if remoteDpa p x then
        let pk := shifted x
        if pk.isEmpty then s.retire p t false else (s.remoteReq p t .store x addr pk).retire p t false
      else (forL (enabledRuns l en) (fun r u => u.memWrite (x + r.1) r.2) s).retire p t false
    | .ok (.aperture o) => (forL (enabledRuns l en) (fun r u => u.aperStore p (o + r.1) r.2) s).retire p t false
    | .ok .unmapped => s)

/-- ST (R104). -/
def stOp (i : Issue) (f : FmtI) (s : Blk) : Blk :=
  let n := 2 ^ (f.m.toNat % 4)
  let v := (s.th i.pos.toNat i.tid.toNat).gr f.b.toNat
  storeOp i [.g f.b.toNat] f.a.toNat f.immW n (toLe n v.toNat) (fun _ => true) (f.bad false true true false 4) s

/-- VST (R104): the bytes whose bit in the predicate named by M[2:0] is 1. -/
def vstOp (i : Issue) (f : FmtI) (s : Blk) : Blk :=
  let th := s.th i.pos.toNat i.tid.toNat
  let pr := (th.pr f.m.toNat).toNat
  storeOp i [.v f.b.toNat, .p f.m.toNat] f.a.toNat f.immW 64 (toLe 64 (th.vr f.b.toNat).toNat) (fun k => pr.testBit k)
    (f.bad false true true false 8) s

/-! ## Transfers (R105 to R108) -/

/-- Side bytes of one line (R106). -/
def sideBytes (f : Fmt) (kb : Nat) : Nat := if f = .cb4 then 16 * kb / 256 else kb / 32

/-- The drawer ranges of the side bytes of `n` lines of `k` bytes at SADDR + i · SSTRIDE; none where one is refused. -/
def Blk.sideRanges (s : Blk) (i : Nat) (word n k : Nat) (a : Access) : Option (List (Nat × Nat)) :=
  let l := (List.range n).map (fun j => s.granulePieces i (bits word 39 0 + j * bits word 55 40) k a)
  if l.all Option.isSome then some (l.flatMap (fun o => o.getD [])) else none

/-- Put a transfer in a slot. -/
def Blk.addXfer (s : Blk) (p : Nat) (mk : Nat → Xfer) : Blk :=
  let (id, s1) := s.takeSeq p
  s1.modCore p (fun c => { c with xfer := c.xfer ++ [mk id] })

/-- Why a transfer to a block waits at issue: the four slots are full (R108), or a fence holds it. -/
def Blk.xferStall (s : Blk) (p t : Nat) (wr : Bool) : Bool :=
  decide ((s.core p).xfer.length ≥ 4) || (s.core p).fenced t wr

/-- Where a transfer's block lies: ALIGN, UNMAPPED (the aperture included), or its DPA (R104, R134). -/
def Blk.blockAt (s : Blk) (i addr align n : Nat) (a : Access) : Except Cause Nat :=
  if addr % align ≠ 0 then .error .align
  else match s.drawerRange i addr n a with
    | none => .error .unmapped
    | some d => .ok d

/-- LDB (R105, R106, R124). The causes at issue are judged in the order BAD_FORMAT, ILLEGAL_OP, MX_OWNER, MX_SHAPE, ALIGN,
UNMAPPED after the plain field checks (DESIGN CHOICE, log entry 11). -/
def ldbOp (i : Issue) (f : FmtI) (s : Blk) : Blk :=
  let p := i.pos.toNat
  let t := i.tid.toNat
  let th := s.th p t
  let inst := (s.instOfPos p).getD 0
  let addr := (th.gr f.a.toNat + f.immW).toNat
  let pc := th.pc.toNat
  let tile := f.d.toNat
  let word := (th.gr f.b.toNat).toNat
  let nl := if f.m.toNat = 0 then 16 else 32
  let plainBad := f.bad true true true true 2 || decide (8 ≤ tile)
  let fmt := Fmt.ofCode f.t.toNat
  let side := match fmt with
    | some m => m.isMx || m == .cb4
    | none => false
  let refused := match fmt with
    | some m => !m.isMatrix
    | none => true
  let bad := plainBad || (!refused && (if side then f.b.toNat ≠ 0 && decide (bits word 63 61 ≠ 0)
    else decide (f.b.toNat ≠ 0) || decide (f.m.toNat ≠ 0)))
  let kb := 32 * (bits word 60 56 + 1)
  let m := fmt.getD .e4m3
  let shapeBad := side && (decide (f.b.toNat = 0) || (m == .cb4 && decide (kb % 256 ≠ 0)) || decide (nl * kb * m.width / 8 > 4096))
  s.issue i false [.g f.a.toNat, .g f.b.toNat] (s.xferStall p t false && !bad) bad false (fun s =>
    if refused then s.raiseExc p t .badFormat pc 0
    else if ((s.core p).tile tile).owner ≠ some t then s.raiseExc p t .mxOwner pc 0
    else if shapeBad then s.raiseExc p t .mxShape pc 0
    else
      let sides := if side then s.sideRanges inst word nl (sideBytes m kb) .rd else some []
      match s.blockAt inst addr 4096 4096 .rd, sides with
      | .error c, _ => s.raiseExc p t c pc addr
      | .ok _, none => s.raiseExc p t .unmapped pc (bits word 39 0)
      | .ok d, some sd =>
        (s.addXfer p (fun id => { id := id, tid := t, pc := pc, step := th.step, kind := .ldb tile f.t.toNat nl word,
                                  iaddr := addr, dpa := d, len := 4096, sides := sd, word := word })).retire p t false)

/-- STB (R107, R124). -/
def stbOp (i : Issue) (f : FmtI) (s : Blk) : Blk :=
  let p := i.pos.toNat
  let t := i.tid.toNat
  let th := s.th p t
  let inst := (s.instOfPos p).getD 0
  let addr := (th.gr f.a.toNat + f.immW).toNat
  let pc := th.pc.toNat
  let tile := f.d.toNat
  let word := (th.gr f.b.toNat).toNat
  let len := 1024 * (f.m.toNat % 4 + 1)
  let side := decide (f.b.toNat ≠ 0)
  let bad := f.bad true true true false 4 || decide (8 ≤ tile) || (side && decide (bits word 63 56 ≠ 0))
  s.issue i false [.g f.a.toNat, .g f.b.toNat] (s.xferStall p t true && !bad) bad false (fun s =>
    if ((s.core p).tile tile).owner ≠ some t then s.raiseExc p t .mxOwner pc 0
    else
      let sides := if side then s.sideRanges inst word (16 * len / 512) 1 .wr else some []
      match s.blockAt inst addr 4096 len .wr, sides with
      | .error c, _ => s.raiseExc p t c pc addr
      | .ok _, none => s.raiseExc p t .unmapped pc (bits word 39 0)
      | .ok d, some sd =>
        (s.addXfer p (fun id => { id := id, tid := t, pc := pc, step := th.step, kind := .stb tile len (if side then some word else none),
                                  iaddr := addr, dpa := d, len := len, sides := sd, word := word })).retire p t false)

/-- ASAVE and ARST (R81, R117): the address in gGX, 16 KiB-aligned, in a drawer. -/
def accXferOp (save : Bool) (i : Issue) (f : FmtM) (s : Blk) : Blk :=
  let p := i.pos.toNat
  let t := i.tid.toNat
  let th := s.th p t
  let inst := (s.instOfPos p).getD 0
  let addr := (th.gr f.gx.toNat).toNat
  let pc := th.pc.toNat
  let acc := f.acc.toNat
  let bad := f.bad { acc := true, gx := true }
  s.issue i true [.g f.gx.toNat] (s.xferStall p t save && !bad) bad false (fun s =>
    if ((s.core p).acc acc).owner ≠ some t then s.raiseExc p t .mxOwner pc 0
    else match s.blockAt inst addr 16384 16384 (if save then .wr else .rd) with
      | .error c => s.raiseExc p t c pc addr
      | .ok d =>
        (s.addXfer p (fun id => { id := id, tid := t, pc := pc, step := th.step, kind := if save then .asave acc else .arst acc,
                                  iaddr := addr, dpa := d, len := 16384 })).retire p t true)

/-! ## The save image (R81) -/

/-- The state tag of an element in the image, and back. -/
def tagByte : WTag → Nat
  | .fin => 0 | .ovr => 1 | .nan => 2 | .pinf => 3 | .ninf => 4
def tagOfByte : Nat → Option WTag
  | 0 => some .fin
  | 1 => some .ovr
  | 2 => some .nan
  | 3 => some .pinf
  | 4 => some .ninf
  | _ => none

/-- ACCST of an accumulator (R51). -/
def Acc.accst (a : Acc) : Nat :=
  a.terms + 2 ^ 17 * b2n a.tlim + 2 ^ 18 * b2n a.ovf + 2 ^ 19 * b2n a.unf + 2 ^ 20 * b2n a.nan + 2 ^ 21 * b2n a.inf + 2 ^ 22 * b2n a.csat

/-- One element of an accumulator. -/
def Acc.elem (a : Acc) (k : Nat) : AccElem := a.elems.getD k {}

/-- The 16 KiB save image. -/
def Acc.image (a : Acc) : List Byte :=
  (List.range 512).flatMap (fun k =>
    let e := a.elem k
    toLe 18 e.sum.toNat ++ toLe 1 (tagByte e.tag) ++ toLe 5 0 ++
      (if k = 0 then toLe 4 a.accst ++ toLe 2 (BitVec.ofInt 16 a.we).toNat ++ toLe 1 (b2n a.weSet) ++ toLe 1 0 else toLe 8 0))

/-- Is one element of an image valid? -/
def imageElemOk (l : List Byte) (k : Nat) : Bool :=
  (tagOfByte (fieldAt l 18 1)).isSome && allZero (slice l 19 5) &&
    (if k = 0 then decide (fieldAt l 24 4 < 2 ^ 23) &&
        decide (bits (fieldAt l 28 2) 15 9 = 0 ∨ bits (fieldAt l 28 2) 15 9 = 127) && decide (fieldAt l 30 1 < 2) && decide (fieldAt l 31 1 = 0)
     else allZero (slice l 24 8))

/-- The accumulator that an image holds; none where the image is invalid. -/
def accOfImage (l : List Byte) (owner : Option Nat) : Option Acc :=
  let el := fun k => slice l (32 * k) 32
  if (List.range 512).all (fun k => imageElemOk (el k) k) then
    let e0 := el 0
    let st := fieldAt e0 24 4
    some { elems := (List.range 512).map (fun k =>
             { sum := BitVec.ofNat 144 (fieldAt (el k) 0 18), tag := (tagOfByte (fieldAt (el k) 18 1)).getD .fin })
           terms := bits st 16 0, tlim := bitOf st 17, ovf := bitOf st 18, unf := bitOf st 19, nan := bitOf st 20,
           inf := bitOf st 21, csat := bitOf st 22, we := sext 10 (fieldAt e0 28 2), weSet := bitOf (fieldAt e0 30 1) 0,
           owner := owner }
  else none

/-! ## The end of a transfer (R105 to R108) -/

/-- The side bytes of an LDB as the side store holds them: line after line (R106). -/
def Blk.gatherSides (s : Blk) (x : Xfer) : List Byte := x.sides.flatMap (fun r => s.mem.bytes r.1 r.2)

/-- Remove a transfer from its slot. -/
def Blk.dropXfer (s : Blk) (p id : Nat) : Blk :=
  s.modCore p (fun c => { c with xfer := c.xfer.filter (fun x => x.id ≠ id) }.settleTiles)

/-- An LDB performs (R105, R106): the stored check, then its own read, then the side bytes, beside which the side store keeps its
contents. The buffer becomes VALID, and stays so while a thread owns it or work names it (R78). `l`, `chk` and `ue` are the block, its
check as the read began and whether the read found an uncorrectable word. -/
def Blk.ldbFinish (s : Blk) (p : Nat) (x : Xfer) (tile : Nat) (l : List Byte) (chk : BitVec 32) (ue : Bool) : Blk :=
  let s1 := s.modCore p (fun c => c.setTile tile { c.tile tile with valid := false })
  let s2 := s1.dropXfer p x.id
  if ue then s2.raiseExc p x.tid .eccUncorr x.pc x.iaddr (some x.dpa)
  else if chk = poisonVal then s2.raiseExc p x.tid .poisoned x.pc x.iaddr
  else if chk ≠ checkOfCrc (crc32c l) then s2.raiseExc p x.tid .blockCheck x.pc x.iaddr (some x.dpa)
  else match x.sides.find? (fun r => s2.mem.uncorrIn r.1 r.2) with
    | some r => (s2.readCheck r.1 r.2).raiseExc p x.tid .eccUncorr x.pc (bits x.word 39 0) (some r.1)
    | none =>
      s2.modCore p (fun c =>
        let b := c.tile tile
        (c.setTile tile { b with data := l, side := spliceAt b.side 0 (s2.gatherSides x), valid := true }).settleTiles)

/-- A read of a whole block with its check (R105, R150, R152): the state after it, the data, the check as the read began, and
whether it found an uncorrectable word in a block not yet poisoned. -/
def Blk.readBlock (s : Blk) (a : Nat) (hw : HwErr) : Blk × List Byte × BitVec 32 × Bool :=
  let chk := s.mem.check a
  let s1 := s.hwRead hw a
  let ue := s1.mem.uncorrIn a 4096
  (s1.readCheck a 4096, s1.mem.bytes a 4096, chk, ue && chk != poisonVal)

/-- An STB performs (R107). -/
def Blk.stbDone (s : Blk) (p : Nat) (x : Xfer) (tile len : Nat) (hw : HwErr) : Blk :=
  let b := (s.core p).tile tile
  let s1 := s.dropXfer p x.id
  if !b.valid then s1.raiseExc p x.tid .tbInvalid x.pc 0
  else if hw = .eccUncorr ∧ x.sides ≠ [] then s1.raiseExc p x.tid .eccUncorr x.pc x.iaddr
  else forL (x.sides.zip (List.range x.sides.length)) (fun r u => u.memWrite r.1.1 [b.side.getD r.2 0])
    (s1.memWrite x.dpa (slice b.data 0 len))

/-- An ARST takes its image (R81): an invalid one leaves the accumulator cleared and raises MX_SHAPE. -/
def Blk.arstPut (s : Blk) (p : Nat) (x : Xfer) (acc : Nat) (l : List Byte) : Blk :=
  let a := (s.core p).acc acc
  match accOfImage l a.owner with
  | some b => s.modCore p (fun c => c.setAcc acc b)
  | none => (s.modCore p (fun c => c.setAcc acc a.clear)).raiseExc p x.tid .mxShape x.pc x.iaddr

/-- An ARST from a drawer of the core's cluster performs. -/
def Blk.arstDone (s : Blk) (p : Nat) (x : Xfer) (acc : Nat) (hw : HwErr) : Blk :=
  let s1 := (s.dropXfer p x.id).hwRead hw x.dpa
  if s1.mem.uncorrIn x.dpa 16384 then (s1.readCheck x.dpa 16384).raiseExc p x.tid .eccUncorr x.pc x.iaddr (some x.dpa)
  else s1.arstPut p x acc (s1.mem.bytes x.dpa 16384)

/-- Change a transfer in its slot. -/
def Blk.modXfer (s : Blk) (p id : Nat) (f : Xfer → Xfer) : Blk :=
  s.modCore p (fun c => { c with xfer := c.xfer.map (fun x => if x.id = id then f x else x) })

/-! ## Transfers to and from drawers of other clusters (R12, R166, R173, R175; DEDUCED, log entry 17) -/

/-- The packet that places bytes of one drawer block: WR for up to 64 of them within one 8-byte unit, else DATA. -/
def putPkt (p dpa : Nat) (l : List Byte) : List StreamPkt :=
  if l.length ≤ 8 - dpa % 8 then
    let u := dpa / 8 * 8
    wrPackets p u (slice (List.replicate (dpa - u) 0 ++ l) 0 8) (fun k => decide (dpa - u ≤ k) && decide (k < dpa - u + l.length))
  else [{ pktTo p dpa kData with len := l.length / 8, payload := l }]

/-- The runs of bytes that an STB or ASAVE writes: its block or its image by blocks, and its side bytes. -/
def Xfer.puts (x : Xfer) (c : CoreSt) : List (Nat × List Byte) :=
  match x.kind with
  | .stb tile len _ =>
    let b := c.tile tile
    (x.dpa, slice b.data 0 len) :: (x.sides.zip (List.range x.sides.length)).map (fun r => (r.1.1, [b.side.getD r.2 0]))
  | .asave acc => (List.range 4).map (fun k => (x.dpa + 4096 * k, slice (c.acc acc).image (4096 * k) 4096))
  | _ => []

/-- The packets of the runs that lie in drawers of other clusters. -/
def Xfer.putPkts (x : Xfer) (p : Nat) (c : CoreSt) : List StreamPkt :=
  ((x.puts c).filter (fun r => remoteDpa p r.1)).flatMap (fun r => putPkt p r.1 r.2)

/-- The source has a free tag for every packet, and the flow of each is open (R173, R189). -/
def Blk.pktsOpen (s : Blk) (p : Nat) (l : List StreamPkt) : Bool :=
  decide (l.length ≤ s.tagRoom p) && l.all (fun k => s.flowOpen p k.dst k.vc)

/-- An STB or ASAVE whose writes leave the cluster writes what is its cluster's own and sends the rest, and stays in its slot until every
acknowledgement has come. -/
def Blk.putRemote (s : Blk) (p : Nat) (x : Xfer) : Blk :=
  let c := s.core p
  let pk := x.putPkts p c
  if x.asked then (if x.acks = 0 then s.dropXfer p x.id else s)
  else if !(s.pktsOpen p pk) then s
  else
    let s1 := forL ((x.puts c).filter (fun r => !(remoteDpa p r.1))) (fun r u => u.memWrite r.1 r.2) s
    forL pk (fun k u => u.request1 { kind := .xfer x.tid x.id } k) (s1.modXfer p x.id (fun y => { y with asked := true, acks := pk.length }))

/-- An ARST from a drawer of another cluster asks for its four blocks, and ends once they have come. -/
def Blk.arstRemote (s : Blk) (p : Nat) (x : Xfer) (acc : Nat) : Blk :=
  if x.asked then
    let got := (List.range 4).map (fun k => tblFind k x.blocks)
    if got.any (fun g => g.isNone) then s
    else
      let s1 := s.dropXfer p x.id
      if got.any (fun g => match g with
        | some (_, _, ue) => ue
        | none => false) then s1.raiseExc p x.tid .eccUncorr x.pc x.iaddr (some x.dpa)
      else s1.arstPut p x acc (got.flatMap (fun g => match g with
        | some (l, _, _) => l
        | none => []))
  else
    let pk := (List.range 4).map (fun k => pktTo p (x.dpa + 4096 * k) kRdblk)
    if !(s.pktsOpen p pk) then s
    else forL (pk.zip (List.range 4)) (fun k u => u.request1 { kind := .xblk x.tid x.id k.2 } k.1)
      (s.modXfer p x.id (fun y => { y with asked := true }))

/-- TRANSFER_DONE: the transfer in a slot performs its accesses and leaves the slot. One that still waits under R79 or R108,
or behind an earlier access of its thread to the same bytes (R137), does nothing. One whose drawer lies in another cluster first sends its
packets, and ends once their answers have come. -/
def transferDoneOp (pos : Pos) (slot : BitVec 2) (hw : HwErr) (s : Blk) : Blk :=
  let p := pos.toNat
  let c := s.core p
  match c.xfer[slot.toNat]? with
  | none => s
  | some x =>
    let earlier := (c.th x.tid).ops.any (fun o => decide (o.id < x.id) && o.kind != .send && x.ranges.any (fun r => rangesMeet o.addr 64 r.1 r.2)) ||
      x.ranges.any (fun r => c.meetsXfer x.tid x.id r.1 r.2 || c.meetsMxms x.tid x.id r.1 r.2 || s.meetsTd p x.tid x.id r.1 r.2)
    if !(c.xferReady x) || earlier || x.ranges.any (fun r => s.flushing r.1 r.2) then s
    else match x.kind with
      | .ldb tile _ _ _ =>
        if remoteDpa p x.dpa then
          match x.got with
          | some g => s.ldbFinish p x tile g.1 g.2.1 g.2.2
          | none =>
            if x.asked ∨ s.tagRoom p = 0 ∨ !(s.flowOpen p (epPos (posOfDpa x.dpa) 0) 0) then s
            else (s.modXfer p x.id (fun y => { y with asked := true })).request1 { kind := .xfer x.tid x.id } (pktTo p x.dpa kRdblk)
        else
          let r := s.readBlock x.dpa hw
          r.1.ldbFinish p x tile r.2.1 r.2.2.1 r.2.2.2
      | .stb tile len _ =>
        if (x.putPkts p c).isEmpty then s.stbDone p x tile len hw
        else if !x.asked ∧ !(c.tile tile).valid then (s.dropXfer p x.id).raiseExc p x.tid .tbInvalid x.pc 0
        else if !x.asked ∧ hw = .eccUncorr ∧ x.sides ≠ [] then (s.dropXfer p x.id).raiseExc p x.tid .eccUncorr x.pc x.iaddr
        else s.putRemote p x
      | .asave acc => if (x.putPkts p c).isEmpty then (s.dropXfer p x.id).memWrite x.dpa (c.acc acc).image else s.putRemote p x
      | .arst acc => if remoteDpa p x.dpa then s.arstRemote p x acc else s.arstDone p x acc hw

end Sys2Proof.Machine
end

