-- ==== Sys2Proof/Machine/Matrix.lean ====
section
/-! DEFINITION. The matrix unit (R75 to R81, R109 to R117): operands, products, read-out, conversion and delivery. -/

namespace Sys2Proof.Machine

/-! ## Operands (R111, R112) -/

/-- Lines of operand B that its first buffer holds (R111). -/
def bSplit (lb wb : Nat) : Nat := min 32 (4096 / (lb * wb / 8))

/-- One element of an operand line, with its unbiased block-scale exponent (R38 to R42, R111). -/
def lineElem (f : Fmt) (b : TileBuf) (lk line k : Nat) : FVal × Int :=
  let w := f.width
  let raw := packedElem w (slice b.data (line * (lk * w / 8)) (lk * w / 8)) k
  if f = .cb4 then
    let code := (b.side.getD (line * sideBytes f lk + 16 * (k / 256) + raw) 0).toNat
    (f.elem code, 0)
  else if f.isMx then
    let sc := (b.side.getD (line * sideBytes f lk + k / 32) 0).toNat
    if sc = 0xFF then (.nan, 0) else (f.elem raw, (sc : Int) - 127)
  else (f.elem raw, 0)

/-- The operands of a matrix instruction. -/
structure Operands where
  fa : Fmt
  fb : Fmt
  la : Nat
  lb : Nat
  a : TileBuf
  b0 : TileBuf
  b1 : TileBuf
  deriving DecidableEq, Repr

/-- The operands that an entry names. -/
def operandsOf (c : CoreSt) (f : FmtM) : Operands :=
  { fa := (Fmt.ofCode f.fa.toNat).getD .e4m3, fb := (Fmt.ofCode f.fb.toNat).getD .e4m3,
    la := 32 * (f.kba.toNat + 1), lb := 32 * (f.kbb.toNat + 1),
    a := c.tile f.ta.toNat, b0 := c.tile f.tb.toNat, b1 := c.tile (f.tb.toNat + 1) }

def Operands.elemA (o : Operands) (i k : Nat) : FVal × Int := lineElem o.fa o.a o.la i k
def Operands.elemB (o : Operands) (j k : Nat) : FVal × Int :=
  let n0 := bSplit o.lb o.fb.width
  if j < n0 then lineElem o.fb o.b0 o.lb j k else lineElem o.fb o.b1 o.lb (j - n0) k

/-! ## Accumulation (R44 to R51) -/

/-- What one element gathers: its tag and sum, and the flags its products raise. -/
structure Gather where
  tag : WTag
  sum : Int
  ovf : Bool := false
  unf : Bool := false
  deriving DecidableEq, Repr

/-- Add one product. -/
def Gather.add (g : Gather) (p : WProd) : Gather :=
  { tag := g.tag.join p.tag, sum := g.sum + p.p, ovf := g.ovf || p.ovf, unf := g.unf || p.unf }

/-- The element (i, j) after the products of K indices ko to ko + kx − 1 (R112). -/
def Operands.dot (o : Operands) (we : Int) (ko kx i j : Nat) (e : AccElem) : Gather :=
  (List.range kx).foldl (fun g q =>
    let a := o.elemA i (ko + q)
    let b := o.elemB j (ko + q)
    g.add (wProduct a.1 b.1 a.2 b.2 we)) { tag := e.tag, sum := e.sum.toInt }

/-- Put gathered elements into an accumulator, raising its flags, and count `n` terms (R47, R49, R51).
The flags tell the states the instruction leaves (DEDUCED, log entry 93). -/
def Acc.absorb (a : Acc) (gs : List Gather) (n : Nat) : Acc :=
  let old := a.elem
  let pairs := gs.zip (List.range gs.length)
  let entered := fun (t : WTag) => pairs.any (fun p => p.1.tag == t && (old p.2).tag != t)
  let terms := min (a.terms + n) 0x1FFFF
  { a with elems := gs.map (fun g => { sum := BitVec.ofInt 144 g.sum, tag := g.tag }), terms := terms,
           tlim := a.tlim || decide (terms > 65536), ovf := a.ovf || gs.any (fun g => g.ovf), unf := a.unf || gs.any (fun g => g.unf),
           nan := a.nan || entered .nan, inf := a.inf || entered .pinf || entered .ninf }

/-- The accumulator that an instruction adds into: cleared where Z = 1, its WE taken where none is set (R50, R112); none on a
mismatch of WE. -/
def Acc.enter (a : Acc) (f : FmtM) : Option Acc :=
  let a1 := if f.z = 1 then a.clear else a
  if a1.weSet then (if a1.we = f.we.toInt then some a1 else none) else some { a1 with we := f.we.toInt, weSet := true }

/-- The MXM of an entry's fields (R112). -/
def mxmResult (c : CoreSt) (f : FmtM) : Except Cause Acc :=
  let o := operandsOf c f
  let n0 := bSplit o.lb o.fb.width
  if !o.a.valid || !o.b0.valid || (decide (n0 < 32) && !o.b1.valid) then .error .tbInvalid
  else match (c.acc f.acc.toNat).enter f with
    | none => .error .weMismatch
    | some a => .ok (a.absorb ((List.range 512).map (fun k =>
        o.dot f.we.toInt f.ko.toNat f.kx.toNat (k / 32) (k % 32) (a.elem k))) f.kx.toNat)

/-- Byte `n` of a buffer pair. -/
def pairByte (c : CoreSt) (tb n : Nat) : Byte :=
  if n < 4096 then (c.tile tb).data.getD n 0 else (c.tile (tb + 1)).data.getD (n - 4096) 0

/-- MXAW (R116): adds the stored W128 tile of the pair. -/
def mxawResult (c : CoreSt) (f : FmtM) : Except Cause Acc :=
  let tb := f.tb.toNat
  if !(c.tile tb).valid || !(c.tile (tb + 1)).valid then .error .tbInvalid
  else match (c.acc f.acc.toNat).enter f with
    | none => .error .weMismatch
    | some a => .ok (a.absorb ((List.range 512).map (fun k =>
        let w := w128Read (BitVec.ofNat 128 (leNat ((List.range 16).map (fun q => pairByte c tb (16 * k + q)))))
        let e := a.elem k
        { tag := e.tag.join w.1, sum := e.sum.toInt + w.2 })) 1)

/-! ## The tensor descriptor (R109) and read-out (R110, R54 to R61) -/

/-- A checked tensor descriptor. -/
structure TDesc where
  seed : Nat
  width : Nat
  row : Nat
  col : Nat
  osh : Int
  fmt : Fmt
  rmode : Nat
  sat : Bool
  deriving DecidableEq, Repr

/-- Check a descriptor: reserved encodings before a refused OFMT; a W128 output reads only OFMT (R109). -/
def tdParse (l : List Byte) : Except Cause TDesc :=
  let ofmt := fieldAt l 22 1
  let conv := fieldAt l 23 1
  let osh := fieldAt l 20 2
  if ofmt = 0xD then
    .ok { seed := 0, width := 0, row := 0, col := 0, osh := 0, fmt := .w128, rmode := 0, sat := false }
  else if ofmt ≥ 16 ∨ conv ≥ 8 ∨ conv % 4 = 3 ∨ !allZero (slice l 24 8) ∨ (sext 16 osh < -512 ∨ 511 < sext 16 osh) then .error .illegalOp
  else match Fmt.ofCode ofmt with
    | none => .error .badFormat
    | some m =>
      if !m.isOutput then .error .badFormat
      else .ok { seed := fieldAt l 0 8, width := fieldAt l 8 4, row := fieldAt l 12 4, col := fieldAt l 16 4,
                 osh := sext 16 osh, fmt := m, rmode := conv % 4, sat := bitOf conv 2 }

/-- What read-out gives: the tile's bytes, its scale bytes and the flags OVF and CSAT. -/
structure TileOut where
  data : List Byte
  scales : List Byte := []
  ovf : Bool := false
  csat : Bool := false
  deriving DecidableEq, Repr

/-- An accumulator's elements as read-out sees them (R48, R110): the state, the value, whether it was FIN, and OVF. -/
def Acc.readElems (a : Acc) : List (WTag × Int × Bool × Bool) :=
  (List.range 512).map (fun k =>
    if !a.weSet then (WTag.fin, 0, true, false)
    else
      let e := a.elem k
      let r := wReadOut e.tag e.sum.toInt
      (r.2.1, e.sum.toInt, e.tag == .fin, r.2.2))

/-- Read an accumulator out under a descriptor (R48, R54 to R61, R110). -/
def Acc.readTile (a : Acc) (d : TDesc) : TileOut :=
  let es := a.readElems
  let ovf := es.any (fun e => e.2.2.2)
  if d.fmt = .w128 then
    { data := es.flatMap (fun e => toLe 16 (wReadOut e.1 e.2.1).1.toNat), ovf := ovf }
  else
    let idx := fun (r c : Nat) => ((d.row + r) * d.width + (d.col + c)) % 2 ^ 64
    let rm := fun (k : Nat) => rmodeOf d.rmode d.seed (idx (k / 32) (k % 32))
    if d.fmt.isMx then
      let rows := (List.range 16).map (fun r =>
        let row := (es.drop (32 * r)).take 32
        let sp := row.any (fun e => e.1 != .fin)
        let m := mxRow d.fmt sp (row.map (fun e => e.2.1)) (a.we - d.osh) ((List.range 32).map (fun c => rm (32 * r + c)))
        (m.1, m.2.1, m.2.2 || row.any (fun e => e.1 != .fin && e.2.2.1)))
      { data := packElems d.fmt.width (rows.flatMap (fun r => r.2.1)), scales := rows.map (fun r => BitVec.ofNat 8 r.1),
        ovf := ovf, csat := rows.any (fun r => r.2.2) }
    else
      let cs := (es.zip (List.range 512)).map (fun ek =>
        wConvert d.fmt ek.1.1 ek.1.2.2.1 ek.1.2.1 a.we d.osh (rm ek.2) d.sat)
      { data := packElems d.fmt.width (cs.map (fun c => c.1)), ovf := ovf, csat := cs.any (fun c => c.2) }

/-! ## Issue (R112 to R117, R124) -/

/-- MX_SHAPE at issue (R111, R112). -/
def mxmShapeBad (f : FmtM) : Bool :=
  let la := 32 * (f.kba.toNat + 1)
  let lb := 32 * (f.kbb.toNat + 1)
  let fa := (Fmt.ofCode f.fa.toNat).getD .e4m3
  let fb := (Fmt.ofCode f.fb.toNat).getD .e4m3
  let bb := lb * fb.width / 8
  let n0 := bSplit lb fb.width
  decide (f.kx.toNat = 0) || decide (f.ko.toNat + f.kx.toNat > la) || decide (f.ko.toNat + f.kx.toNat > lb) || decide (f.tb.toNat % 2 = 1) ||
    decide (16 * la * fa.width / 8 > 4096) || decide ((32 - n0) * bb > 4096) ||
    (fa == .cb4 && decide (la % 256 ≠ 0)) || (fb == .cb4 && decide (lb % 256 ≠ 0))

/-- A refused operand format (R33). -/
def operandRefused (code : Nat) : Bool :=
  match Fmt.ofCode code with
  | some m => !m.isMatrix
  | none => true

/-- Does the thread own these tile buffers and the accumulator? -/
def CoreSt.owns (c : CoreSt) (t : Nat) (tiles : List Nat) (acc : Nat) : Bool :=
  tiles.all (fun n => (c.tile n).owner == some t) && (c.acc acc).owner == some t

/-- The buffers of the pair that begins at TB: TB and TB + 1, where there is one. -/
def pairTiles (tb : Nat) : List Nat := if tb < 7 then [tb, tb + 1] else [tb]

/-- The causes that a matrix instruction's MXM part raises at issue, in the order BAD_FORMAT, MX_OWNER, MX_SHAPE (DESIGN CHOICE, log
entry 11). `products` says that it has one. -/
def mxmCause (c : CoreSt) (t : Nat) (f : FmtM) (products : Bool) : Option Cause :=
  if products then
    if operandRefused f.fa.toNat || operandRefused f.fb.toNat then some .badFormat
    else if !(c.owns t (f.ta.toNat :: pairTiles f.tb.toNat) f.acc.toNat) then some .mxOwner
    else if mxmShapeBad f then some .mxShape
    else none
  else if !(c.owns t [] f.acc.toNat) then some .mxOwner
  else none

/-- The tensor descriptor's address (R109): 32-byte aligned, in a drawer. -/
def Blk.tdCause (s : Blk) (inst addr : Nat) : Option Cause :=
  if addr % 32 ≠ 0 then some .align else if (s.drawerRange inst addr 32 .rd).isNone then some .unmapped else none

/-- An MXST names the pair: TB is even and the descriptor in memory asks for a W128 output (R113). -/
def Blk.mxstPair (s : Blk) (p : Nat) (f : FmtM) (td : Nat) : Bool :=
  decide (f.tb.toNat % 2 = 0) && (match s.drawerRange ((s.instOfPos p).getD 0) td 32 .rd with
    | some d => fieldAt (s.mem.bytes d 32) 22 1 == 0xD
    | none => false)

/-- Put a matrix instruction in the queue. -/
def Blk.enqueueMx (s : Blk) (p t : Nat) (kind : MqKind) (f : FmtM) : Blk :=
  let th := s.th p t
  let (id, s1) := s.takeSeq p
  let e : MqEntry := { id := id, tid := t, pc := th.pc.toNat, step := th.step, kind := kind, f := f,
                       td := (th.gr f.gt.toNat).toNat, x := (th.gr f.gx.toNat).toNat,
                       pair := kind == .mxst && s.mxstPair p f (th.gr f.gt.toNat).toNat }
  (s1.modCore p (fun c => { c with mq := c.mq ++ [e] })).retire p t true

/-- The matrix queue is full (R79). -/
def Blk.mqFull (s : Blk) (p : Nat) : Bool := decide ((s.core p).mq.length ≥ 4)

/-- MXM (R112). -/
def mxmOp (i : Issue) (f : FmtM) (s : Blk) : Blk :=
  let p := i.pos.toNat
  let t := i.tid.toNat
  let bad := f.bad { acc := true, ta := true, tb := true, mx := true, we := true }
  s.issue i true [] (s.mqFull p && !bad) bad false (fun s =>
    match mxmCause (s.core p) t f true with
    | some c => s.raiseExc p t c (s.pcOf p t) 0
    | none => s.enqueueMx p t .mxm f)

/-- MXAW (R116): TB odd breaks the pair (R77). -/
def mxawOp (i : Issue) (f : FmtM) (s : Blk) : Blk :=
  let p := i.pos.toNat
  let t := i.tid.toNat
  let tb := f.tb.toNat
  let bad := f.bad { acc := true, tb := true, we := true }
  s.issue i true [] (s.mqFull p && !bad) bad false (fun s =>
    if !((s.core p).owns t (pairTiles tb) f.acc.toNat) then s.raiseExc p t .mxOwner (s.pcOf p t) 0
    else if tb % 2 = 1 then s.raiseExc p t .mxShape (s.pcOf p t) 0
    else s.enqueueMx p t .mxaw f)

/-- With KX = 0, the fields of the MXM part must be 0 (R114). -/
def mxPartBad (f : FmtM) : Bool :=
  decide (f.kx.toNat = 0) && (f.ta != 0 || f.tb != 0 || f.fa != 0 || f.fb != 0 || f.kba != 0 || f.kbb != 0 || f.ko != 0 || f.we != 0 || f.z != 0)

/-- MXMS (R114). -/
def mxmsOp (i : Issue) (f : FmtM) (s : Blk) : Blk :=
  let p := i.pos.toNat
  let t := i.tid.toNat
  let th := s.th p t
  let inst := (s.instOfPos p).getD 0
  let x := (th.gr f.gx.toNat).toNat
  let bad := f.bad { acc := true, ta := true, tb := true, mx := true, we := true, gt := true, gx := true } || mxPartBad f || destBad x
  s.issue i true [.g f.gt.toNat, .g f.gx.toNat] ((s.mqFull p || (s.core p).fenced t true) && !bad) bad false (fun s =>
    let td := (th.gr f.gt.toNat).toNat
    match mxmCause (s.core p) t f (decide (f.kx.toNat ≠ 0)) with
    | some c => s.raiseExc p t c (s.pcOf p t) 0
    | none => match s.tdCause inst td with
      | some c => s.raiseExc p t c (s.pcOf p t) td
      | none => if s.destUnmapped inst x then s.raiseExc p t .unmapped (s.pcOf p t) (bits x 58 38)
        else s.enqueueMx p t .mxms f)

/-- MXMR (R115, R239). -/
def mxmrOp (i : Issue) (f : FmtM) (s : Blk) : Blk :=
  let p := i.pos.toNat
  let t := i.tid.toNat
  let th := s.th p t
  let inst := (s.instOfPos p).getD 0
  let x := (th.gr f.gx.toNat).toNat
  let bad := f.bad { acc := true, ta := true, tb := true, mx := true, we := true, gt := true, gx := true } || mxPartBad f ||
    s.mxmrRefused inst p x
  s.issue i true [.g f.gt.toNat, .g f.gx.toNat] ((s.mqFull p || (s.core p).fenced t false) && !bad) bad false (fun s =>
    let td := (th.gr f.gt.toNat).toNat
    match mxmCause (s.core p) t f (decide (f.kx.toNat ≠ 0)) with
    | some c => s.raiseExc p t c (s.pcOf p t) 0
    | none => match s.tdCause inst td with
      | some c => s.raiseExc p t c (s.pcOf p t) td
      | none => s.enqueueMx p t .mxmr f)

/-- MXST (R113). -/
def mxstOp (i : Issue) (f : FmtM) (s : Blk) : Blk :=
  let p := i.pos.toNat
  let t := i.tid.toNat
  let th := s.th p t
  let inst := (s.instOfPos p).getD 0
  let bad := f.bad { acc := true, tb := true, tout := true, gt := true }
  s.issue i true [.g f.gt.toNat] ((s.mqFull p || (s.core p).fenced t false) && !bad) bad false (fun s =>
    let td := (th.gr f.gt.toNat).toNat
    if !((s.core p).owns t [f.tb.toNat] f.acc.toNat) then s.raiseExc p t .mxOwner (s.pcOf p t) 0
    else match s.tdCause inst td with
      | some c => s.raiseExc p t c (s.pcOf p t) td
      | none => s.enqueueMx p t .mxst f)

/-- ACLR (R117) takes effect after the instructions queued on ACC: it waits at issue for them (DESIGN CHOICE, log entry 13). -/
def aclrOp (i : Issue) (f : FmtM) (s : Blk) : Blk :=
  let p := i.pos.toNat
  let t := i.tid.toNat
  let acc := f.acc.toNat
  let bad := f.bad { acc := true }
  s.issue i true [] ((s.core p).busy (8 + acc) && !bad) bad false (fun s =>
    if ((s.core p).acc acc).owner ≠ some t then s.raiseExc p t .mxOwner (s.pcOf p t) 0
    else (s.modCore p (fun c => c.setAcc acc (c.acc acc).clear)).retire p t true)

/-- ASTAT (R117), with the same wait. -/
def astatOp (i : Issue) (f : FmtM) (s : Blk) : Blk :=
  let p := i.pos.toNat
  let t := i.tid.toNat
  let acc := f.acc.toNat
  let bad := f.bad { acc := true, d := true }
  s.issue i true [.g f.d.toNat] ((s.core p).busy (8 + acc) && !bad) bad false (fun s =>
    if ((s.core p).acc acc).owner ≠ some t then s.raiseExc p t .mxOwner (s.pcOf p t) 0
    else (s.modTh p t (fun y => y.gw f.d.toNat (BitVec.ofNat 64 ((s.core p).acc acc).accst))).retire p t true)

/-- The resources that masks name (R76). -/
def maskRes (f : FmtM) : List Res := (List.range 12).filter (fun r => (f.tbm.toNat + 256 * f.acm.toNat).testBit r)

/-- A resource that a MALLOC of the thread cannot have: owned by another thread, or free but busy (R76). -/
def CoreSt.refuses (c : CoreSt) (t : Nat) (r : Res) : Bool :=
  match c.resOwner r with
  | some u => u != t
  | none => c.busy r

/-- Grant a resource: a free accumulator is cleared, one already owned stays as it is (R76). -/
def CoreSt.grant (c : CoreSt) (t : Nat) (r : Res) : CoreSt :=
  if c.resOwner r = some t then c
  else if r < 8 then c.setTile r { c.tile r with owner := some t, valid := false }
  else c.setAcc (r - 8) { owner := some t }

/-- MALLOC (R76, R117): all or nothing. The owned-by-other mask shows the requested resources alone (DESIGN CHOICE, log entry 100). -/
def mallocOp (i : Issue) (f : FmtM) (s : Blk) : Blk :=
  let p := i.pos.toNat
  let t := i.tid.toNat
  let bad := f.bad { mask := true, d := true }
  s.issue i true [.g f.d.toNat] false bad false (fun s =>
    let c := s.core p
    let no := (maskRes f).filter (fun r => c.refuses t r)
    let v := no.foldl (fun a r => a + 2 ^ r) 0
    let c1 := if no.isEmpty then (maskRes f).foldl (fun c r => c.grant t r) c else c
    ((s.setCore p c1).modTh p t (fun y => y.gw f.d.toNat (BitVec.ofNat 64 v))).retire p t true)

/-- MFREE (R76, R117). -/
def mfreeOp (i : Issue) (f : FmtM) (s : Blk) : Blk :=
  let p := i.pos.toNat
  let t := i.tid.toNat
  let bad := f.bad { mask := true }
  s.issue i true [] false bad false (fun s =>
    (s.modCore p (fun c => (maskRes f).foldl (fun c r => if c.resOwner r = some t then c.release r else c) c)).retire p t true)

/-! ## The matrix unit at work -/

/-- Read the tensor descriptor of an entry: ECC_UNCORR, then its checks (R109, R150). -/
def Blk.readTd (s : Blk) (p : Nat) (e : MqEntry) (hw : HwErr) : Blk × Except (Cause × Option Nat) (List Byte × TDesc) :=
  let inst := (s.instOfPos p).getD 0
  match s.drawerRange inst e.td 32 .rd with
  | none => (s, .error (.unmapped, none))
  | some d =>
    let s1 := match hw with
      | .eccUncorr => s.hwRead .eccUncorr d
      | .eccCorr => s.eccCe d
      | _ => s
    if s1.mem.uncorrIn d 32 then (s1.readCheck d 32, .error (.eccUncorr, some d))
    else
      let l := s1.mem.bytes d 32
      match tdParse l with
      | .error c => (s1, .error (c, none))
      | .ok td => (s1, .ok (l, td))

/-- Take the head off the matrix queue. -/
def Blk.popMq (s : Blk) (p : Nat) : Blk := s.modCore p (fun c => { c with mq := c.mq.drop 1 }.settleTiles)

/-- An instruction at the head raises an exception: it leaves the queue, and neither the accumulator nor ACCST changes. At its read-out
the accumulator is again what it was before the products (R124). -/
def Blk.mqFault (s : Blk) (p : Nat) (e : MqEntry) (c : Cause) (addr : Nat) (d : Option Nat) (res : Bool := false) : Blk :=
  let acc := e.f.acc.toNat
  let s1 := match e.saved with
    | some a => s.modCore p (fun k => k.setAcc acc { a with owner := (k.acc acc).owner })
    | none => s
  (s1.popMq p).raiseExc p e.tid c e.pc addr d res

/-- MATRIX_OP_DONE (R112, R116, R413): the instruction at the head ends its work in the matrix unit and its residue check is
judged. An MXM or MXAW leaves the queue; an MXMS or MXMR with products goes on to its read-out, once its descriptor is
found good. -/
def matrixOpDoneOp (pos : Pos) (hw : HwErr) (s : Blk) : Blk :=
  let p := pos.toNat
  let c := s.core p
  match c.mq with
  | [] => s
  | e :: _ =>
    if !(c.mqReady e) || e.readout then s
    else if hw = .datapath ∧ (e.kind ≠ .mxst) then s.mqFault p e .datapath 0 none true
    else
      let put := fun (a : Acc) (s : Blk) => s.modCore p (fun c => c.setAcc e.f.acc.toNat a)
      match e.kind with
      | .mxst => s
      | .mxaw => match mxawResult c e.f with
        | .error x => s.mqFault p e x 0 none
        | .ok a => put a (s.popMq p)
      | .mxm => match mxmResult c e.f with
        | .error x => s.mqFault p e x 0 none
        | .ok a => put a (s.popMq p)
      | _ =>
        if e.f.kx = 0 then s
        else match mxmResult c e.f with
          | .error x => s.mqFault p e x 0 none
          | .ok a =>
            match s.readTd p e hw with
            | (s1, .error (x, d)) => s1.mqFault p e x e.td d
            | (s1, .ok (l, _)) =>
              (put a s1).modCore p (fun c =>
                { c with mq := { e with readout := true, tdRead := some l, saved := some ((s.core p).acc e.f.acc.toNat) } :: c.mq.drop 1 })

/-- Set OVF and CSAT of an accumulator after a read-out (R48, R57, R58). -/
def Blk.readFlags (s : Blk) (p acc : Nat) (o : TileOut) : Blk :=
  s.modCore p (fun c => let a := c.acc acc; c.setAcc acc { a with ovf := a.ovf || o.ovf, csat := a.csat || o.csat })

/-- MXST writes its tile (R113). -/
def Blk.mxstWrite (s : Blk) (p : Nat) (e : MqEntry) (d : TDesc) (o : TileOut) : Blk :=
  let tb := e.f.tb.toNat
  let c := s.core p
  if d.fmt = .w128 then
    if tb % 2 = 1 ∨ e.f.tout ≠ 0 then s.mqFault p e .mxShape 0 none
    else if (c.tile (tb + 1)).owner ≠ some e.tid then s.mqFault p e .mxOwner 0 none
    else
      ((s.popMq p).readFlags p e.f.acc.toNat o).modCore p (fun c =>
        let c1 := c.setTile tb { c.tile tb with data := o.data.take 4096, valid := true }
        (c1.setTile (tb + 1) { c1.tile (tb + 1) with data := o.data.drop 4096, valid := true }).settleTiles)
  else
    let off := 512 * e.f.tout.toNat
    if off + tileSize d.fmt > 4096 then s.mqFault p e .mxShape 0 none
    else
      ((s.popMq p).readFlags p e.f.acc.toNat o).modCore p (fun c =>
        let b := c.tile tb
        (c.setTile tb { b with data := spliceAt b.data off o.data,
                               side := if d.fmt.isMx then spliceAt b.side (16 * e.f.tout.toNat) o.scales else b.side,
                               valid := true }).settleTiles)

/-- The packets of an MXMS tile (R114, R155): a W128 tile whose DOFF is block-aligned goes as whole blocks with their check,
any other tile as DATA. Each packet of a tile with NOTE = 1 says which tile `id` it is of and in how many parts. -/
def mxmsPackets (p x id : Nat) (l : List Byte) : List StreamPkt :=
  let ep := bits x 29 0
  let doff := bits x 58 38
  let base : StreamPkt := { vc := 2, kind := kData, dst := ep, src := p, mc := bits x 31 30, mlo := bits x 34 32, mhi := bits x 37 35 }
  let n := (l.length + 4095) / 4096
  (List.range n).map (fun k =>
    let part := (l.drop (4096 * k)).take 4096
    let note := if bitOf x 63 then some doff else none
    let tile := if bitOf x 63 then some (id, n) else none
    if l.length = 8192 ∧ doff % 4096 = 0 then
      { base with kind := kWblk, off := doff + 4096 * k, check := checkOfCrc (crc32c part), payload := part, note := note, tile := tile }
    else { base with off := doff + 4096 * k, len := part.length / 8, payload := part, note := note, tile := tile })

/-- READOUT_DONE (R80, R113 to R115): the read-out of the head ends. MXST writes its buffer; MXMS sends its tile and waits for
acknowledgements outside the queue; MXMR holds its tile for the collective engine. -/
def readoutDoneOp (pos : Pos) (hw : HwErr) (s : Blk) : Blk :=
  let p := pos.toNat
  let c := s.core p
  match c.mq with
  | [] => s
  | e :: _ =>
    let go := e.readout || e.kind == .mxst || ((e.kind == .mxms || e.kind == .mxmr) && e.f.kx == 0)
    if !(c.mqReady e) || !go then s
    else if hw = .datapath then s.mqFault p e .datapath 0 none
    else
      let rd := match e.tdRead with
        | some l => (s, match tdParse l with
          | .ok d => Except.ok (l, d)
          | .error x => .error (x, none))
        | none => s.readTd p e hw
      match rd with
      | (s1, .error (x, d)) => s1.mqFault p e x e.td d
      | (s1, .ok (_, d)) =>
        let o := (c.acc e.f.acc.toNat).readTile d
        let tile := o.data ++ o.scales
        match e.kind with
        | .mxst => s1.mxstWrite p e d o
        | .mxms =>
          let pk := mxmsPackets p e.x e.id tile
          let dests := (mxmsDests e.x).length
          if bits e.x 58 38 + tile.length > 2 ^ 21 then s1.mqFault p e .mxShape 0 none
          else if s1.tagRoom p < pk.length ∨ !(s1.flowOpen p (bits e.x 29 0) 2) then s
          else
            let s2 := ((s1.popMq p).readFlags p e.f.acc.toNat o).modCore p (fun c =>
              { c with deliv := c.deliv ++ [{ id := e.id, tid := e.tid, step := e.step, acks := dests * pk.length, x := e.x }] })
            forL pk (fun k u => u.request1 { kind := .deliv e.id, answers := dests } k) s2
        | .mxmr =>
          let ctx := bits e.x 15 0
          let a := c.acc e.f.acc.toNat
          match s1.mxmrCause e.x d.fmt (if a.weSet then some a.we else none) with
          | some k => s1.mqFault p e k 0 none
          | none =>
            ((s1.popMq p).readFlags p e.f.acc.toNat o).modCore p (fun c =>
              { c with deliv := c.deliv ++ [{ id := e.id, tid := e.tid, step := e.step, acks := 0,
                                              coll := some (ctx, bits e.x 39 16, tile) }] })
        | _ => s

/-- MXMS_DELIVERED (R114): an MXMS whose every destination has acknowledged placement finishes (DESIGN CHOICE, log entry 45). -/
def mxmsDeliveredOp (pos : Pos) (s : Blk) : Blk :=
  s.modCore pos.toNat (fun c => { c with deliv := c.deliv.filter (fun d => !(d.coll.isNone && d.acks == 0 && !d.bad)) })

end Sys2Proof.Machine
end

