-- ==== Sys2Proof/Machine/Comm.lean ====
section
/-! DEFINITION. SEND and MBRD, and a core's mailbox (R118, R119, R384 to R386). -/

namespace Sys2Proof.Machine

/-- SEND (R118): the packet leaves on VC3 and the operation stays outstanding until the mailbox accepts it. -/
def sendOp (i : Issue) (f : FmtC) (s : Blk) : Blk :=
  let p := i.pos.toNat
  let t := i.tid.toNat
  let th := s.th p t
  let inst := (s.instOfPos p).getD 0
  let m := f.m.toNat
  let ep := (th.gr f.b.toNat).toNat
  let n := f.n.toNat + 1
  let data := if m = 0 then (toLe 64 (th.vr f.a.toNat).toNat).take (8 * n) else toLe 8 f.imm64.toNat
  let bad := f.bad false (m = 0) true false (m = 0) (m = 1) 2 || decide (bits ep 63 18 ≠ 0)
  s.issue i true ((if m = 0 then [.v f.a.toNat] else []) ++ [.g f.b.toNat]) ((s.core p).fenced t true && !bad) bad true (fun s =>
    if s.ownerOf (bits ep 17 12) ≠ some inst then s.raiseExc p t .unmapped (s.pcOf p t) 0
    else
      let (id, s1) := s.takeSeq p
      ((s1.addOp p t { id := id, kind := .send, addr := 0 }).inject
        { vc := 3, kind := kMbx, dst := ep, src := p, len := n, payload := data, note := some id }).retire p t true)

/-- MBRD (R118): one word with its tags, or the count of waiting packets. Where D and C name one register, the value it holds
is open (DESIGN CHOICE, log entry 15). -/
def mbrdOp (i : Issue) (f : FmtC) (s : Blk) : Blk :=
  let p := i.pos.toNat
  let t := i.tid.toNat
  let m := f.m.toNat
  let d := f.d.toNat
  let c := f.c.toNat
  s.issue i true [.g d, .g c] false (f.bad true false false (m = 0) false false 2) true (fun s =>
    if m = 1 then (s.modTh p t (fun y => y.gw d (BitVec.ofNat 64 (s.mb p).pkts))).retire p t true
    else
      let (w, mb) := (s.mb p).take
      let data := match w with
        | some x => x.data
        | none => 0
      let tags := match w with
        | some x => 1 + 2 * b2n x.last
        | none => 0
      let s1 := s.setMb p mb
      let s2 := if d = c then (s1.modTh p t (fun y => y.gw d (Config.freeValue s.fresh))).drawFree
        else s1.modTh p t (fun y => (y.gw d (BitVec.ofNat 64 data)).gw c (BitVec.ofNat 64 tags))
      s2.retire p t true)

/-- MBRD, and then the packets that its reads make room for. -/
def mbrdDrainOp (i : Issue) (f : FmtC) (s : Blk) : Blk :=
  let s1 := mbrdOp i f s
  Blk.mbDrain ((s1.mb i.pos.toNat).waiting.length + 1) s1 i.pos.toNat

/-- SEND_ACCEPTED (R118): the SENDs of the thread whose packet a mailbox has accepted finish (DESIGN CHOICE, log entry 92). -/
def sendAcceptedOp (pos : Pos) (tid : BitVec 4) (s : Blk) : Blk :=
  let p := pos.toNat
  let t := tid.toNat
  let mine := (s.th p t).ops.filter (fun o => o.kind == .send && s.sendAcc.contains (p, o.id))
  let ids := mine.map (fun o => o.id)
  { s.modTh p t (fun x => { x with ops := x.ops.filter (fun o => !ids.contains o.id) }) with
    sendAcc := s.sendAcc.filter (fun a => !(a.1 == p && ids.contains a.2)) }

end Sys2Proof.Machine
end

