-- ==== Sys2Proof/Machine/Sync.lean ====
section
/-! DEFINITION. Atomics, locks, fences, WAITB, COMMIT and their events (R120 to R122, R138, R142 to R148). -/

namespace Sys2Proof.Machine

/-! ## The read-modify-write at the drawer (R142) -/

/-- The operation codes of an AMO packet, ARG[3:0]; the spec gives no list (DESIGN CHOICE, log entry 16). -/
inductive AmoOp where
  | fadd | swap | cas | lkTry | lkWait | lkRel
  deriving DecidableEq, Repr

def AmoOp.code : AmoOp → Nat
  | .fadd => 0 | .swap => 1 | .cas => 2 | .lkTry => 3 | .lkWait => 4 | .lkRel => 5
def AmoOp.ofCode : Nat → Option AmoOp
  | 0 => some .fadd
  | 1 => some .swap
  | 2 => some .cas
  | 3 => some .lkTry
  | 4 => some .lkWait
  | 5 => some .lkRel
  | _ => none

/-- The new word of an atomic (R120): `b` is gB, `d` is gD. -/
def amoWord (op : AmoOp) (old b d : Nat) : Nat :=
  match op with
  | .fadd => (old + b) % 2 ^ 64
  | .swap => b
  | .cas => if old = d then b else old
  | _ => old

/-- The word at a DPA. -/
def Blk.word (s : Blk) (a : Nat) : Nat := leNat (s.mem.bytes a 8)

/-- Perform an atomic at the drawer; none where the word is uncorrectable (R150). -/
def Blk.amo (s : Blk) (op : AmoOp) (a b d : Nat) : Option Nat × Blk :=
  if s.mem.uncorrIn a 8 then (none, s.readCheck a 8)
  else
    let old := s.word a
    (some old, s.memWrite a (toLe 8 (amoWord op old b d)))

/-! ## The lock word (R143 to R146) -/

def lkHpos (w : Nat) : Nat := bits w 15 2
def lkHtid (w : Nat) : Nat := bits w 19 16
def lkHser (w : Nat) : Nat := bits w 35 20

/-- The holder fields of a thread, as the lock word lays them out. -/
def holderFields (pos tid sser epoch : Nat) : Nat := pos * 2 ^ 2 + tid * 2 ^ 16 + sser * 2 ^ 20 + epoch * 2 ^ 36
def Blk.holderOf (s : Blk) (pos tid : Nat) : Nat := holderFields pos tid (s.core pos).sser.toNat (s.epoch (clusterOfPos pos))

/-- Do two words name the same POS, TID and SSER? -/
def sameHolder (a b : Nat) : Bool := bits a 35 2 == bits b 35 2

/-- What LKACQ finds (R145): a status and the word it leaves, or a live test still to be made. -/
inductive LkEval where
  | done (st : Status) (word : Nat)
  | ask
  deriving DecidableEq, Repr

/-- R145 by rows: `me` holds this thread's fields, `live` the liveness of the holder where it is known. -/
def lkacqEval (w me : Nat) (live : Option Bool) : LkEval :=
  let held := bitOf w 0
  let abnd := bitOf w 1
  if bits w 63 52 ≠ 0 ∨ (!held ∧ abnd) then .done .badLock w
  else if !held then .done .ok (me + 1)
  else if sameHolder w me then .done .lockSelf w
  else match live with
    | none => .ask
    | some true => .done .lockBusy w
    | some false => .done .abandoned (me + 3)

/-- LKREL (R146). -/
def lkrelEval (w me : Nat) : Status × Nat :=
  if bitOf w 0 ∧ sameHolder w me then (.ok, w - w % 4) else (.lockNotHeld, w)

/-- Liveness of a lock word's holder, tested from the drawer (R144): the region of HPOS belongs to the owner of the lock word's
region. -/
def Blk.lkLive (s : Blk) (dpa w : Nat) : Bool := s.holderLive (lkHpos w) (lkHtid w) (lkHser w) (s.ownerOf (regionOfDpa dpa))

/-- The holder is in a cluster other than that of the lock word's drawer (R147). -/
def lkFar (dpa w : Nat) : Bool := decide (clusterOfPos (lkHpos w) ≠ clusterOfPos (posOfDpa dpa))

/-- Write the lock word where it changes. -/
def Blk.putLock (s : Blk) (a old new : Nat) : Blk := if old = new then s else s.memWrite a (toLe 8 new)

/-! ## Ends of operations -/

/-- The operations that an acquire FENCE waits for (R138): loads, VLD, LDB, atomics and ARST before `id`. -/
def CoreSt.acqSet (c : CoreSt) (t id : Nat) : List Nat :=
  ((c.th t).ops.filter (fun o => decide (o.id < id) && (match o.kind with
    | .store => false
    | .send => false
    | _ => true))).map (fun o => o.id) ++
  (c.xfer.filter (fun x => decide (x.id < id) && x.tid == t && !x.writesMem)).map (fun x => x.id)

/-- The operations that a release FENCE waits for (R138): every memory access, MXMS, SEND. -/
def CoreSt.relSet (c : CoreSt) (t id : Nat) : List Nat :=
  ((c.th t).ops.filter (fun o => decide (o.id < id))).map (fun o => o.id) ++
  (c.xfer.filter (fun x => decide (x.id < id) && x.tid == t)).map (fun x => x.id) ++
  (c.mq.filter (fun e => decide (e.id < id) && e.tid == t && (e.kind == .mxms || e.kind == .mxmr || e.kind == .mxst))).map (fun e => e.id) ++
  (c.deliv.filter (fun d => decide (d.id < id) && d.tid == t && d.coll.isNone)).map (fun d => d.id)

/-- Add a FENCE. -/
def Blk.addFence (s : Blk) (p t : Nat) (waits : List Nat) (all : Bool) : Blk :=
  s.modTh p t (fun x => { x with fences := x.fences ++ [{ waits := waits, all := all }] })

/-- An LKACQ or LKREL returns (R121): gD holds the status; OK and ABANDONED act as an acquire FENCE (R138). -/
def Blk.lockReturn (s : Blk) (p t id d : Nat) (st : Status) (acq : Bool) : Blk :=
  let s1 := (s.dropOp p t id).modTh p t (fun x => x.gw d (BitVec.ofNat 64 st.code))
  if acq ∧ (st = .ok ∨ st = .abandoned) then s1.addFence p t ((s1.core p).acqSet t id) true else s1

/-- Send a liveness probe for a lock word (R147). -/
def Blk.probe (s : Blk) (dpa w pos tid id : Nat) (wait : Bool) (pk : Option StreamPkt) : Blk :=
  s.request1 { kind := .probe dpa w pos tid id wait pk }
    { vc := 3, kind := kLkprobe, dst := epPos (lkHpos w) (lkHtid w), src := posOfDpa dpa, len := 1, payload := toLe 8 w }

/-- LKACQ at a drawer of the thread's own cluster, its operation being outstanding as `id`. -/
def Blk.lkacqLocal (s : Blk) (p t id d dpa : Nat) (wait : Bool) (live : Option Bool) : Blk :=
  let w := s.word dpa
  let me := s.holderOf p t
  let known := match live with
    | some b => some b
    | none => if lkFar dpa w then none else some (s.lkLive dpa w)
  match lkacqEval w me known with
  | .ask => s.probe dpa w p t id wait none
  | .done st new =>
    if st = .lockBusy ∧ wait then s else (s.putLock dpa w new).lockReturn p t id d st true

/-! ## Instructions (R120, R121) -/

/-- An instruction on an 8-byte word: the checks at issue, then the local or the remote form. -/
def wordOp (i : Issue) (f : FmtI) (srcs : List RegRef) (wr : Bool) (mOk : Nat → Bool) (useB useT : Bool) (op : AmoOp)
    (body : Blk → Nat → Nat → Blk) (s : Blk) : Blk :=
  let p := i.pos.toNat
  let t := i.tid.toNat
  let th := s.th p t
  let addr := (th.gr f.a.toNat + f.immW).toNat
  let pc := th.pc.toNat
  let bad := f.bad true true useB useT 16 || !(mOk f.m.toNat)
  let tgt := s.locate p addr 8 .rw
  let stall := match tgt with
    | .ok (.drawer x) => s.memWaits p t x 8 wr ||
        (op == .lkRel && ((s.core p).relSet t (s.core p).seq).length != 0) ||
        (remoteDpa p x && (s.tagRoom p == 0 || !(s.flowOpen p (epPos (posOfDpa x) 0) 0))) ||
        (s.tagRoom (posOfDpa x) == 0)
    | _ => false
  s.issue i false ([.g f.d.toNat, .g f.a.toNat] ++ srcs) (stall && !bad) bad false (fun s =>
    match tgt with
    | .error c => s.raiseExc p t c pc addr
    | .ok (.drawer x) =>
      if remoteDpa p x then
        let isLk := op == .lkTry || op == .lkWait || op == .lkRel
        let b := if isLk then s.holderOf p t else (th.gr f.b.toNat).toNat
        let kind := if isLk then OpKind.lock f.d.toNat x (op == .lkWait) (op == .lkRel) else .atomic f.d.toNat
        let data := toLe 8 b ++ toLe 8 (th.gr f.d.toNat).toNat
        (s.remoteReq p t kind x addr [{ pktTo p x kAmo with len := 2, arg := op.code, payload := data }]).retire p t false
      else
        let s1 := s.hwRead i.hw x
        if s1.mem.uncorrIn x 8 then (s1.readCheck x 8).raiseExc p t .eccUncorr pc addr (some x)
        else (body s1 x addr).retire p t false
    | .ok _ => s.raiseExc p t .unmapped pc addr)

/-- AFADD, ASWAP and ACAS (R120): M names the operation, 0, 1 or 2. -/
def amoOp (op : AmoOp) (i : Issue) (f : FmtI) (s : Blk) : Blk :=
  let p := i.pos.toNat
  let t := i.tid.toNat
  let th := s.th p t
  wordOp i f [.g f.b.toNat] true (fun m => m == op.code) true false op (fun s x _ =>
    let r := s.amo op x (th.gr f.b.toNat).toNat (th.gr f.d.toNat).toNat
    r.2.modTh p t (fun y => y.gw f.d.toNat (BitVec.ofNat 64 (r.1.getD 0)))) s

/-- LKACQ (R121, R145). -/
def lkacqOp (i : Issue) (f : FmtI) (s : Blk) : Blk :=
  let p := i.pos.toNat
  let t := i.tid.toNat
  let wait := f.m.toNat == 1
  wordOp i f [] false (fun m => decide (m < 2)) false false (if wait then .lkWait else .lkTry) (fun s x addr =>
    let (id, s1) := s.takeSeq p
    (s1.addOp p t { id := id, kind := .lock f.d.toNat x wait false, addr := x, pc := s.pcOf p t, iaddr := addr }).lkacqLocal p t id f.d.toNat x wait none) s

/-- LKREL (R121, R146). -/
def lkrelOp (i : Issue) (f : FmtI) (s : Blk) : Blk :=
  let p := i.pos.toNat
  let t := i.tid.toNat
  wordOp i f [] true (fun m => m == 0) false false .lkRel (fun s x _ =>
    let w := s.word x
    let r := lkrelEval w (s.holderOf p t)
    (s.putLock x w r.2).modTh p t (fun y => y.gw f.d.toNat (BitVec.ofNat 64 r.1.code))) s

/-- FENCE (R138): it does not stall; later accesses wait for what it names. -/
def fenceOp (i : Issue) (f : FmtI) (s : Blk) : Blk :=
  let p := i.pos.toNat
  let t := i.tid.toNat
  s.issue i false [] false (f.bad false false false false 3 || f.imm != 0) false (fun s =>
    let c := s.core p
    let acq := c.acqSet t c.seq
    let rel := c.relSet t c.seq
    let s1 := match f.m.toNat with
      | 0 => s.addFence p t acq true
      | 1 => s.addFence p t rel false
      | _ => s.addFence p t (acq ++ rel) true
    s1.retire p t false)

/-- WAITB (R85, R120). -/
def waitbOp (i : Issue) (f : FmtI) (s : Blk) : Blk :=
  let p := i.pos.toNat
  let t := i.tid.toNat
  let target := (s.th p t).gr f.a.toNat + f.immW
  s.issue i false [.g f.a.toNat] false (f.bad false true false false 1) true (fun s =>
    let s1 := s.retire p t false
    if s.time.beat < target.toNat then s1.modTh p t (fun y => { y with st := .waiting target }) else s1)

/-- COMMIT (R84): the thread issues nothing more and waits for its earlier instructions. -/
def commitOp (i : Issue) (f : FmtI) (s : Blk) : Blk :=
  let p := i.pos.toNat
  let t := i.tid.toNat
  s.issue i false [] false (f.bad false false false false 1 || f.imm != 0) true (fun s =>
    (s.retire p t false).modTh p t (fun y => { y with committing := true }))

/-- Nothing of the thread is outstanding (R84, R122). -/
def CoreSt.quiet (c : CoreSt) (t : Nat) : Bool :=
  (c.th t).ops.isEmpty && !(c.mq.any (fun e => e.tid == t)) && !(c.xfer.any (fun x => x.tid == t)) && !(c.deliv.any (fun d => d.tid == t))

/-- THREAD_COMMIT (R84): a COMMIT whose earlier instructions have finished takes the thread to COMMITTED, and the step commits
when that was its last thread. -/
def threadCommitOp (pos : Pos) (tid : BitVec 4) (s : Blk) : Blk :=
  let p := pos.toNat
  let t := tid.toNat
  let x := s.th p t
  if x.st = .running ∧ x.committing ∧ (s.core p).quiet t then
    (s.modTh p t (fun y => { y with st := .committed, committing := false })).tryCommit x.step
  else s

/-- Does a request of an operation still await its answer, or a probe for it? -/
def Blk.opInFlight (s : Blk) (p t id : Nat) : Bool :=
  s.reqs.any (fun r => match r.2.kind with
    | .op t' id' => r.1.1 == p && t' == t && id' == id
    | .probe _ _ p' t' id' _ pk => pk.isNone && p' == p && t' == t && id' == id
    | _ => false)

/-- LOCK_REEVALUATE (R147): a waiting LKACQ looks at the lock word again (DEDUCED, log entry 49). -/
def lockReevaluateOp (pos : Pos) (tid : BitVec 4) (hw : HwErr) (s : Blk) : Blk :=
  let p := pos.toNat
  let t := tid.toNat
  match (s.th p t).ops.find? (fun o => match o.kind with
    | .lock _ _ w _ => w && !(s.opInFlight p t o.id)
    | _ => false) with
  | none => s
  | some o => match o.kind with
    | .lock d dpa _ _ =>
      if remoteDpa p dpa then
        if s.tagRoom p = 0 then s
        else s.request1 { kind := .op t o.id } { pktTo p dpa kAmo with len := 2, arg := AmoOp.lkWait.code,
                                                                          payload := toLe 8 (s.holderOf p t) ++ toLe 8 0 }
      else
        let s1 := s.hwRead hw dpa
        if s1.mem.uncorrIn dpa 8 then ((s1.readCheck dpa 8).dropOp p t o.id).raiseExc p t .eccUncorr o.pc o.iaddr (some dpa)
        else if s.tagRoom (posOfDpa dpa) = 0 then s
        else s1.lkacqLocal p t o.id d dpa true none
    | _ => s

end Sys2Proof.Machine
end

