-- ==== Sys2Proof/Machine/Fabric.lean ====
section
/-! DEFINITION. Arrivals of stream packets, link ends and their states, the rate law and the samples (R171 to R189, R197,
R422). -/

namespace Sys2Proof.Machine

/-! ## The checks at arrival (R175, R180, R422) -/

/-- The register index of the port by which a packet is delivered. -/
def inPort (p : StreamPkt) : Nat := portIx (regionOfPos (dstPos p.dst), dstPos p.dst / 16 % 16)

/-- A packet that arrives, after its checks: none where it is discarded. -/
def Blk.checkIn (s : Blk) (p : StreamPkt) : Blk × Bool :=
  if p.fmt ≠ 0 then (s.count F.LINKERR_CRC_ERR (inPort p), false)
  else if p.kind ≥ 14 then (s.dropRoute, false)
  else if s.instBad p then (s.dropInst p, false)
  else if p.vc ≠ 1 ∧ !srcHub p.src ∧
        p.pep ≠ s.epoch (clusterOfPos p.src) % (if p.kind = kWblk ∨ p.kind = kRblk then 128 else 256) then
      ((s.count F.REL_CNT_COUNT relCntEpochDrop).relEvent relEpochDrop { inst := p.inst }, false)
    else (s, true)

/-- The hub engine of a destination (R168). -/
def dstEngine (d : Nat) : Nat := d / 2 ^ 14 % 16

/-- Does a request name memory: a drawer, or the collective engine's staging? -/
def atMemory (p : StreamPkt) : Bool := !(dstHub p.dst) || dstEngine p.dst == engColl

/-- The DPA that a request names: the destination drawer's OFFSET, or the staging block of a collective endpoint. -/
def StreamPktDpa (p : StreamPkt) : Nat :=
  if dstHub p.dst then stagingBase + (p.dst % 2 ^ 14) * 4096 + p.off else drawerBase (dstPos p.dst) + p.off

/-- The answer to a request (R173, R188): DST and SRC change places, TAG is copied, a mark is echoed. -/
def answerTo (p : StreamPkt) (kind status : Nat) (data : List Byte) : StreamPkt :=
  { vc := 1, kind := kind, dst := p.src * 16, src := p.dst / 16, inst := p.inst, sys := p.sys, cm := p.cm, tag := p.tag,
    len := data.length / 8, arg := status, payload := data }

/-- Packets of one channel from one source to one destination (R169). -/
def sameStream (p q : StreamPkt) : Bool := p.vc == q.vc && p.src == q.src && p.dst == q.dst

/-- A packet that has passed its checks waits at its region's router: the region is below PL0 (R443), it names bytes of a granule in
FLUSHING (R344), or an earlier packet of its channel, source and destination waits (R169). -/
def Blk.pktWaits (s : Blk) (p : StreamPkt) : Bool :=
  !(dstHub p.dst) && (s.waitPkts.any (fun q => sameStream q p) || s.regionAsleep (regionOfPos (dstPos p.dst)) ||
    ((p.vc == 0 || p.vc == 2) && s.flushing (StreamPktDpa p) (if p.kind = kRdblk ∨ p.kind = kWblk then 4096 else 64)))

/-- A request at a hub engine that has no memory: one that carries data is an engine's own message, kept for it and acknowledged; a read,
and any request for a reserved ENGINE code, is discarded like a reserved KIND (DESIGN CHOICE, log entry 102). -/
def Blk.engineMsg (s : Blk) (p : StreamPkt) : Blk :=
  if p.vc = 2 ∨ p.kind = kWr then
    if [engDresser, engMove, engHcopy, engTt, 8, 9, 10, 11].contains (dstEngine p.dst) then
      { s with ctrlIn := s.ctrlIn ++ [(p.dst, p.payload)] }.inject (answerTo p kAck 0 [])
    else s.dropRoute
  else s.dropRoute

/-- Run `f` on a packet that passes its checks, or keep the packet waiting. -/
def arrive (p : StreamPkt) (f : Blk → Blk) (s : Blk) : Blk :=
  let r := s.checkIn p
  if !r.2 then r.1
  else if r.1.pktWaits p then ({ r.1 with waitPkts := r.1.waitPkts ++ [p] }).wake (regionOfPos (dstPos p.dst))
  else f r.1

/-! ## Requests at a drawer (R175) -/

/-- RD. -/
def rdArrive (p : StreamPkt) (hw : HwErr) (s : Blk) : Blk :=
  arrive p (fun s =>
    if !(atMemory p) then s.engineMsg p else
    let a := StreamPktDpa p
    let n := 8 * min p.len 8
    let s1 := s.hwRead hw a
    if s1.mem.uncorrIn a n then (s1.readCheck a n).inject (answerTo p kRsp 1 [])
    else s1.inject (answerTo p kRsp 0 (s1.mem.bytes a n))) s

/-- WR: whole units but the last, whose enables ARG[7:0] gives. -/
def wrArrive (p : StreamPkt) (s : Blk) : Blk :=
  arrive p (fun s =>
    if !(atMemory p) then s.engineMsg p else
    let a := StreamPktDpa p
    let l := p.payload.take 64
    let n := l.length / 8
    let runs := enabledRuns l (fun k => if k / 8 + 1 = n then p.arg.testBit (k % 8) else true)
    (forL runs (fun r u => u.memWrite (a + r.1) r.2) s).inject (answerTo p kAck 0 [])) s

/-- The answer of a lock operation: its status in the data. -/
def lockAnswer (p : StreamPkt) (st : Status) : StreamPkt := answerTo p kRsp 0 (toLe 8 st.code)

/-- LKACQ at the drawer for a thread of another cluster. Where the drawer's position has no free tag for the liveness probe, the packet
waits there until one is free (R173). -/
def Blk.lkacqRemote (s : Blk) (p : StreamPkt) (dpa : Nat) (wait : Bool) (live : Option Bool) : Blk :=
  let w := s.word dpa
  let me := fieldAt p.payload 0 8
  let known := match live with
    | some b => some b
    | none => if lkFar dpa w then none else some (s.lkLive dpa w)
  match lkacqEval w me known with
  | .ask => if s.tagRoom (posOfDpa dpa) = 0 then { s with waitPkts := s.waitPkts ++ [p] }
            else s.probe dpa w (lkHpos me) (lkHtid me) 0 wait (some p)
  | .done st new => (s.putLock dpa w new).inject (lockAnswer p st)

/-- AMO: an operation code that the model's list lacks is discarded like a reserved KIND. -/
def amoArrive (p : StreamPkt) (hw : HwErr) (s : Blk) : Blk :=
  arrive p (fun s =>
    if !(atMemory p) then s.engineMsg p else
    let a := StreamPktDpa p
    match AmoOp.ofCode (p.arg % 16) with
    | none => s.dropRoute
    | some op =>
      let s1 := s.hwRead hw a
      if s1.mem.uncorrIn a 8 then (s1.readCheck a 8).inject (answerTo p kRsp 1 [])
      else
        let b := fieldAt p.payload 0 8
        match op with
        | .lkTry => s1.lkacqRemote p a false none
        | .lkWait => s1.lkacqRemote p a true none
        | .lkRel =>
          let w := s1.word a
          let r := lkrelEval w b
          (s1.putLock a w r.2).inject (lockAnswer p r.1)
        | _ =>
          let r := s1.amo op a b (fieldAt p.payload 8 8)
          r.2.inject (answerTo p kRsp 0 (toLe 8 (r.1.getD 0)))) s

/-- RDBLK: the block and its check (R152). The mark tells that this read found an uncorrectable word. -/
def rdblkArrive (p : StreamPkt) (hw : HwErr) (s : Blk) : Blk :=
  arrive p (fun s =>
    if !(atMemory p) then s.engineMsg p else
    let r := s.readBlock (StreamPktDpa p / 4096 * 4096) hw
    let a := answerTo p kRblk 0 r.2.1
    r.1.inject { a with check := r.2.2.1, len := 0, note := if r.2.2.2 then some 1 else none }) s

/-- The note of an MXMS tile, once every packet of the tile is placed (R114): sent by the destination to its own core (DESIGN CHOICE, log
entry 14). -/
def Blk.sendNote (s : Blk) (p : StreamPkt) : Blk :=
  match p.note with
  | none => s
  | some doff =>
    let (id, parts) := p.tile.getD (0, 1)
    let k := (dstPos p.dst, p.src, id)
    let n := tblGet 0 k s.placedOf + 1
    if n < parts then { s with placedOf := tblSet k n s.placedOf }
    else ({ s with placedOf := tblErase k s.placedOf }).inject
      { vc := 3, kind := kNote, dst := p.dst, src := p.dst / 16, len := 1, payload := toLe 8 (p.src % 2 ^ 14 + doff * 2 ^ 14) }

/-- DATA. -/
def dataArrive (p : StreamPkt) (s : Blk) : Blk :=
  arrive p (fun s => if !(atMemory p) then s.engineMsg p else ((s.memWrite (StreamPktDpa p) p.payload).inject (answerTo p kAck 0 [])).sendNote p) s

/-- WBLK (R155): nothing is written where the check mismatches, and the ACK says so. -/
def wblkArrive (p : StreamPkt) (s : Blk) : Blk :=
  arrive p (fun s => if !(atMemory p) then s.engineMsg p else
    match s.memWriteChecked (StreamPktDpa p / 4096 * 4096) (slice p.payload 0 4096) p.check with
    | some s1 => (s1.inject (answerTo p kAck 0 [])).sendNote p
    | none => s.inject (answerTo p kAck 1 [])) s

/-! ## Answers at a requester (R173, R188, R422) -/

/-- An answer that matches no outstanding request, or whose thread has been discarded. -/
def Blk.discardRsp (s : Blk) : Blk := s.count F.REL_CNT_COUNT relCntDiscardRsp

/-- Count the echo of a request's flow (R189). -/
def Blk.echo (s : Blk) (rec : ReqRec) (p : StreamPkt) : Blk :=
  match rec.flow with
  | none => s
  | some k => let f := s.flow k; { s with flows := tblSet k { f with a := f.a + 1, m := f.m + b2n p.cm } s.flows }

/-- An operation of a thread ends with its answer. -/
def Blk.opAnswered (s : Blk) (src t id status : Nat) (l : List Byte) : Blk :=
  match s.findOp src t id with
  | none => s.discardRsp
  | some o =>
    if status ≠ 0 then (s.dropOp src t id).raiseExc src t .eccUncorr o.pc o.iaddr (some o.addr)
    else match o.kind with
      | .load _ _ _ _ | .vload _ => (s.dropOp src t id).modTh src t (fun x => x.loaded o.kind l)
      | .atomic d => (s.dropOp src t id).modTh src t (fun x => x.gw d (BitVec.ofNat 64 (leNat (slice l 0 8))))
      | .lock d _ wait rel =>
        let code := leNat (slice l 0 8)
        if wait ∧ code = Status.lockBusy.code then s
        else
          let st := if code = 0 then Status.ok else if code = Status.abandoned.code then .abandoned else .lockBusy
          let s1 := s.lockReturn src t id d st (!rel)
          s1.modTh src t (fun x => x.gw d (BitVec.ofNat 64 code))
      | .store => if s.opInFlight src t id then s else s.dropOp src t id
      | .send => s

/-- RSP and ACK: the answer of a request of the destination position (R173, R175). -/
def answerArrive (p : StreamPkt) (s : Blk) : Blk :=
  arrive p (fun s =>
    let src := p.dst / 16
    match tblFind (src, p.tag) s.reqs with
    | none => s.discardRsp
    | some rec =>
      let left := rec.answers - 1
      let s1 := s.echo rec p
      let s2 := { s1 with reqs := if left = 0 then tblErase (src, p.tag) s1.reqs else tblSet (src, p.tag) { rec with answers := left } s1.reqs }
      match rec.kind with
      | .op t id => s2.opAnswered src t id (p.arg % 256) p.payload
      | .deliv id =>
        if (s2.core src).deliv.any (fun d => d.id == id) then
          s2.modCore src (fun c => { c with deliv := c.deliv.map (fun d =>
            if d.id = id then { d with acks := d.acks - 1, bad := d.bad || decide (p.arg % 256 ≠ 0) } else d) })
        else s2.discardRsp
      | .xfer _ id =>
        if (s2.core src).xfer.any (fun x => x.id == id) then s2.modXfer src id (fun x => { x with acks := x.acks - 1 }) else s2.discardRsp
      | .engine _ => s2
      | _ => s2.discardRsp) s

/-- RBLK: the block of an LDB from another cluster's drawer. -/
def rblkArrive (p : StreamPkt) (s : Blk) : Blk :=
  arrive p (fun s =>
    let src := p.dst / 16
    match tblFind (src, p.tag) s.reqs with
    | none => s.discardRsp
    | some rec =>
      let s1 := { s.echo rec p with reqs := tblErase (src, p.tag) s.reqs }
      match rec.kind with
      | .xfer _ id =>
        if (s1.core src).xfer.any (fun x => x.id == id) then
          s1.modXfer src id (fun x => { x with got := some (slice p.payload 0 4096, p.check, p.note.isSome) })
        else s1.discardRsp
      | .xblk _ id k =>
        if (s1.core src).xfer.any (fun x => x.id == id) then
          s1.modXfer src id (fun x => { x with blocks := tblSet k (slice p.payload 0 4096, p.check, p.note.isSome) x.blocks })
        else s1.discardRsp
      | .engine _ => s1
      | _ => s1.discardRsp) s

/-! ## VC3 (R147, R175, R184) -/

/-- MBX and NOTE reach the mailbox of the destination core. -/
def mbxArrive (p : StreamPkt) (s : Blk) : Blk :=
  arrive p (fun s =>
    if dstHub p.dst then { s with ctrlIn := s.ctrlIn ++ [(p.dst, p.payload)] }
    else s.mbArrive (dstPos p.dst) (mbxWords p.payload) (match p.note with
      | some id => some (p.src, id)
      | none => none)) s
def noteArrive (p : StreamPkt) (s : Blk) : Blk :=
  arrive p (fun s => s.mbArrive (dstPos p.dst) (mbxWords p.payload) none) s

/-- CTRL: a control message for Tutoby, an engine or the core's router; the spec gives it no further effect (DESIGN CHOICE, log entry 19). A
mask that is 0 is discarded and counted (R184). -/
def ctrlArrive (p : StreamPkt) (s : Blk) : Blk :=
  if p.mc = 3 ∧ fieldAt p.payload 0 8 = 0 then s.dropRoute
  else arrive p (fun s => { s with ctrlIn := s.ctrlIn ++ [(p.dst, p.payload)] }) s

/-- LKPROBE: the holder's cluster router answers whether the holder is live (R144, R147). The asking drawer's region is that of
the packet's source. -/
def lkprobeArrive (p : StreamPkt) (s : Blk) : Blk :=
  arrive p (fun s =>
    let w := fieldAt p.payload 0 8
    let live := s.holderLive (lkHpos w) (lkHtid w) (lkHser w) (s.ownerOf (regionOfPos p.src))
    let a := answerTo p kLkreply (b2n live) []
    s.inject { a with vc := 3 }) s

/-- LKREPLY completes the evaluation that asked (R147). A word that has changed meanwhile is evaluated afresh. -/
def lkreplyArrive (p : StreamPkt) (s : Blk) : Blk :=
  arrive p (fun s =>
    let src := p.dst / 16
    match tblFind (src, p.tag) s.reqs with
    | none => s.discardRsp
    | some rec =>
      let s1 := { s with reqs := tblErase (src, p.tag) s.reqs }
      match rec.kind with
      | .probe dpa w pos tid id wait pk =>
        let live := if s1.word dpa = w then some (p.arg.testBit 0) else none
        match pk with
        | some q => s1.lkacqRemote q dpa wait live
        | none => match s1.findOp pos tid id with
          | some o => match o.kind with
            | .lock d _ _ _ => s1.lkacqLocal pos tid id d dpa wait live
            | _ => s1.discardRsp
          | none => s1.discardRsp
      | _ => s1.discardRsp) s

/-! ## Link ends (R177, R178) -/

/-- The regions that a package link joins: two regions, or one and the hub. -/
def linkRegions (e : Nat) : List Nat :=
  if e < 256 then [e / 4, otherEnd e / 4] else if e < 260 then [hubRegion (e - 256)] else [hubRegion (e - 260)]

/-- A link end is PRESENT: the link exists and the regions it joins are powered (R178, R200). -/
def Blk.linkPresent (s : Blk) (e : Nat) : Bool := endPresent e && (linkRegions e).all (fun r => s.level r != 7)

/-- The links whose ends are PRESENT, each by its lower end. -/
def Blk.presentLinks (s : Blk) : List Nat := (List.range 264).filter (fun e => s.linkPresent e && decide (e < otherEnd e))

/-- Links with an end in a state. -/
def Blk.linksIn (s : Blk) (st : LinkState) : Nat :=
  (s.presentLinks.filter (fun e => (s.lnk e).st == st || (s.lnk (otherEnd e)).st == st)).length

/-- FAB_STATUS.READY (R199): there are links, and every one is in STREAM. -/
def Blk.fabReady (s : Blk) : Bool :=
  !s.presentLinks.isEmpty && s.presentLinks.all (fun e => (s.lnk e).st == .stream && (s.lnk (otherEnd e)).st == .stream)

/-- Count in LINKERR of a link end. -/
def Blk.linkErr (s : Blk) (e : Nat) (retry : Bool) : Blk :=
  if 256 ≤ e ∧ e < 260 then s.count (if retry then F.HLINKERR_RETRY else F.HLINKERR_CRC_ERR) (e - 256)
  else s.count (if retry then F.LINKERR_RETRY else F.LINKERR_CRC_ERR)
    (if e < 256 then portIx (e / 4, 16 + e % 4) else portIx (hubRegion (e - 260), 20))

/-- Byte j of LTEST packet i (R178). -/
def ltestPayload (i : Nat) : List Byte := (List.range 256).map (fun j => BitVec.ofNat 8 (37 * i + j))

/-- Start a link test: 64 LTEST packets. LTEST_END follows once the partner's last LTEST is here, so that it can say how many were good
(DESIGN CHOICE, log entry 103). -/
def Blk.linkTest (s : Blk) (e : Nat) : Blk :=
  let s1 := s.modLnk e (fun l => { l with good := 0, bad := false, passed := false })
  forN 64 (fun i t => t.emit (.basic e { fmt := 2, vc := 2, kind := 3, seq := i, payload := ltestPayload i })) s1

/-- A link end enters STREAM: the packets of its replay buffer are sent again, and those that waited go on. -/
def Blk.enterStream (s : Blk) (e : Nat) : Blk :=
  let s1 := s.modLnk e (fun l => { l with st := .stream, froze := false, resends := 0 })
  (forL (s1.flights.filter (fun f => f.place == .wire e)) (fun f t => t.emit (.hop e f.pkt)) s1).pump

/-- A link end in BASIC that has passed its test enters STREAM while STREAM_EN = 1. -/
def Blk.tryStream (s : Blk) (e : Nat) : Blk :=
  let l := s.lnk e
  if l.st = .basic ∧ l.passed ∧ s.flag F.FAB_CTRL_STREAM_EN then s.enterStream e else s

/-- A link end leaves STREAM for BASIC: its stream credits freeze. -/
def Blk.toBasic (s : Blk) (e : Nat) (test : Bool) : Blk :=
  let s1 := s.modLnk e (fun l => { l with st := .basic, froze := true, passed := false, fails := 0, resends := 0 })
  if test then s1.linkTest e else s1

/-- The regions that a DOWN link cuts off from some region or from the hub under XY routing (R179, R181): a link between columns, every
region; a link between rows, its column; a hub link, its die. -/
def cutOff (e : Nat) : List Nat :=
  if e < 256 then
    if e % 4 = 1 ∨ e % 4 = 3 then List.range 64 else (List.range 8).map (fun y => y * 8 + e / 4 % 8)
  else (List.range 64).filter (fun r => dieOf r == e % 4)

/-- Packets queued for or on a link end: the copies that leave a router by it, and those of its replay buffer. -/
def Flight.behind (f : Flight) (e : Nat) : List Nat :=
  if f.place = .wire e then f.dsts
  else match f.place, f.router with
    | .src n, _ => if n ≥ 1024 ∧ !(dstHub f.pkt.dst) ∧ hubEnd (n - 1024) = e then f.dsts else []
    | _, some r => f.dsts.filter (fun d => let port := nextPort (dstPos f.pkt.dst / 16 % 16) r d; decide (16 ≤ port) && endOf r port == e)
    | _, none => []

/-- A link end enters DOWN: FABRIC_LINK_FAILED; queued stream packets are discarded and counted, and Tutoby clears the REGION_OK bits of the
regions cut off (R178, R181; the moment is a DESIGN CHOICE, log entry 103). -/
def Blk.linkDown (s : Blk) (e : Nat) : Blk :=
  let s1 := s.modLnk e (fun l => { l with st := .down, froze := false, fails := 0, passed := false, good := 0, bad := false })
  let n := (s.flights.filter (fun f => f.behind e != [])).length
  let keep := s.flights.filterMap (fun f =>
    let l := f.behind e
    if l = [] then some f
    else if f.dsts.all (fun d => l.contains d) then none else some { f with dsts := f.dsts.filter (fun d => !(l.contains d)) })
  let s2 := ({ s1 with flights := keep }.event .fab 0 1 { unit := unitLink e }).setReg .REGION_OK 0
    (BitVec.ofNat 64 (((List.range 64).filter (fun r => (s.reg .REGION_OK).toNat.testBit r && !((cutOff e).contains r))).foldl (fun n r => n + 2 ^ r) 0))
  if n = 0 then s2 else ((s2.countBy F.DROP_ROUTE_CNT_COUNT 0 n).event .fab 0 3).pump

/-- A failed test: the third in a row takes the end DOWN, else the test runs again. -/
def Blk.testFailed (s : Blk) (e : Nat) : Blk :=
  let n := (s.lnk e).fails + 1
  if n ≥ 3 then s.linkDown e else (s.modLnk e (fun l => { l with fails := n })).linkTest e

/-- The first packet on the way to link end `e` whose bytes these are. Of several planes and channels each keeps its order. -/
def Blk.onWire (s : Blk) (e : Nat) (l : List Byte) : Option Flight :=
  s.heads.find? (fun f => f.place == .wire (otherEnd e) && StreamPktWire f.pkt == l)

/-- A good stream packet enters the input buffer of its link end. In a mesh router it takes its AGE where it comes from the hub (R191). -/
def Blk.hopIn (s : Blk) (e : Nat) (f : Flight) : Blk :=
  match bufOf e with
  | .buf b => ((s.unqueue f).enterBuf b (if 260 ≤ e then { f.pkt with age := s.ageNow } else f.pkt) f.dsts).pump
  | _ => s

/-- The partner of link end `e` sends again from its failed packet (R177). -/
def Blk.resendTo (s : Blk) (e : Nat) : Blk :=
  forL (s.flights.filter (fun f => f.place == .wire (otherEnd e))) (fun f t => t.emit (.hop (otherEnd e) f.pkt))
    ((s.linkErr (otherEnd e) true).emit (.resend e))

/-- LINK_PACKET_RX (R170, R177): the bytes of a packet and the CRC of the sideband. A mismatch counts and asks for a resend; after three
failed resends the end enters BASIC with FABRIC_LINK_RETRY, asks its partner for BASIC by RECOVER and tests the link. A good stream packet
that was sent on the link enters its input buffer; a basic packet performs by its own command; the reserved format counts a CRC error. -/
def linkPacketRxOp (e : Nat) (l : List Byte) (crc : BitVec 32) (s : Blk) : Blk :=
  if !(endPresent e) ∨ (s.lnk e).st = .down then s
  else if crc32c l = crc then
    if (l.getD 0 0).toNat % 4 = 3 then s.linkErr e false
    else
      let s1 := s.modLnk e (fun k => { k with resends := 0 })
      match s.onWire e l with
      | some f => if (s.lnk e).st = .stream then s1.hopIn e f else s1
      | none => s1
  else
    let s1 := s.linkErr e false
    let n := (s.lnk e).resends
    if n ≥ 3 then
      let s2 := s1.event .fab 0 0 { unit := unitLink e }
      if (s.lnk e).st = .stream then (s2.toBasic e true).emit (.basic e { fmt := 1, vc := 3, kind := 5, payload := toLe 24 0 })
      else s2.modLnk e (fun k => { k with resends := 0, bad := true })
    else (s1.modLnk e (fun k => { k with resends := n + 1 })).resendTo e

/-- LINK_TRAINED (R178). -/
def linkTrainedOp (e : Nat) (s : Blk) : Blk :=
  if s.linkPresent e ∧ (s.lnk e).st = .down then
    (s.modLnk e (fun l => { l with st := .basic, fails := 0, froze := false })).linkTest e
  else s

/-- LINK_TEST_TIMEOUT (R178): 100 µs pass without the test passing. A frozen end goes DOWN. -/
def linkTestTimeoutOp (e : Nat) (s : Blk) : Blk :=
  let l := s.lnk e
  if l.st ≠ .basic ∨ l.passed then s
  else if l.froze then s.linkDown e
  else s.testFailed e

/-- LTEST (R178): good while the packets come in SEQ order. After the last one this end sends LTEST_END with its count. -/
def ltestOp (e : Nat) (p : BasicPkt) (s : Blk) : Blk :=
  if (s.lnk e).st = .down then s
  else
    let s1 := s.modLnk e (fun l => if p.seq = l.good ∧ !l.bad then { l with good := l.good + 1 } else { l with bad := true })
    if p.seq = 63 then s1.emit (.basic e { fmt := 1, vc := 3, kind := 4, payload := toLe 24 (s1.lnk e).good }) else s1

/-- LTEST_END (R178): the test passes when this end has received all 64 packets and the partner says the same of itself. -/
def ltestEndOp (e : Nat) (p : BasicPkt) (s : Blk) : Blk :=
  let l := s.lnk e
  if l.st ≠ .basic then s
  else if l.good = 64 ∧ !l.bad ∧ fieldAt p.payload 0 1 = 64 then
    (s.modLnk e (fun l => { l with passed := true, fails := 0 })).tryStream e
  else s.testFailed e

/-- RECOVER (R178). -/
def recoverOp (e : Nat) (s : Blk) : Blk := if (s.lnk e).st = .stream then s.toBasic e true else s

/-- The link end by which a basic packet that came in at link end `e` goes on to its destination (R179): none where it is there. -/
def basicNext (e : Nat) (p : BasicPkt) : Option Nat :=
  if 256 ≤ e ∧ e < 260 then
    if dstHub p.dst then none else some (hubEnd (dieOf (regionOfPos (dstPos p.dst))))
  else
    let r := if e < 256 then e / 4 else hubRegion (e - 260)
    let port := nextPort 0 r (if dstHub p.dst then 64 else regionOfPos (dstPos p.dst))
    if port < 16 then none else some (endOf r port)

/-- CTRLMSG (R176, R179): a Tutoby message on a package link, delivered at its destination or sent on along its route; at a link end in DOWN
it is lost. -/
def ctrlmsgOp (e : Nat) (p : BasicPkt) (s : Blk) : Blk :=
  if (s.lnk e).st = .down then s
  else match basicNext e p with
    | none => { s with ctrlIn := s.ctrlIn ++ [(p.dst, p.payload)] }
    | some k => if (s.lnk k).st = .down then s else s.emit (.basic k p)

/-- STREAM_EN_WRITE (R178, R199): a write of FAB_CTRL. With STREAM_EN = 1 an end that has passed its test enters STREAM, and a frozen one
tests its link; with 0 every end in STREAM freezes. -/
def streamEnWriteOp (v : BitVec 32) (s : Blk) : Blk :=
  let s1 := s.setReg .FAB_CTRL 0 (BitVec.ofNat 64 (v.toNat % 2 ^ 11))
  let ends := s1.links.map (fun x => x.1)
  if v.toNat.testBit 0 then forL ends (fun e t =>
    let l := t.lnk e
    if l.st = .basic ∧ l.froze ∧ !l.passed ∧ !(s.flag F.FAB_CTRL_STREAM_EN) then t.linkTest e else t.tryStream e) s1
  else forL ends (fun e t => if (t.lnk e).st = .stream then t.toBasic e false else t) s1

/-! ## The rate law and the samples (R189, R197) -/

/-- RL_PERIOD with 0 as 1,000 (R199). -/
def Blk.rlPeriod (s : Blk) : Nat := let n := s.getF F.RL_CFG_RL_PERIOD; if n = 0 then 1000 else n

/-- One period of the law (R189): α in units of 2^-32, the rate in units of 2^-16 · 0.25 GB/s, tokens in 2^-16 bytes (DESIGN CHOICE, log
entry 18; DESIGN CHOICE, log entry 18). -/
def rlStep (g ai rmin rmax period : Nat) (f : Flow) : Flow :=
  let f1 := if f.a = 0 then f else
    let target : Int := ((f.m * 2 ^ 32 / f.a : Nat) : Int)
    let al := ((f.alpha : Int) + (target - (f.alpha : Int)) / (2 ^ g : Nat)).toNat
    let r := if f.m > 0 then max (rmin * 65536) (f.rate - f.rate * al / 2 ^ 33) else min rmax (f.rate + ai * 65536)
    { f with alpha := al, rate := r }
  { f1 with a := 0, m := 0, tokens := min (8192 * 65536) (f.tokens + ((f.rate * period / 4 : Nat) : Int)) }

/-- RL_PERIOD_UPDATE: every flow of the package (R189, R190). -/
def rlPeriodUpdateOp (s : Blk) : Blk :=
  let g := s.getF F.RL_CFG_RL_G
  let ai := s.getF F.RL_CFG_RL_AI
  let mn := s.getF F.RL_MIN_RL_MIN
  { s with flows := tblMap (fun k f => rlStep g ai mn (rlMax k.1) s.rlPeriod f) s.flows }.pump

/-- QDEPTH_SAMPLE (R197): the depths of a port's four channels; a port of a router, or a hub side. STALL counts mesh cycles, which the
environment tells. -/
def qdepthSampleOp (hub : Bool) (port : Nat) (stall : Nat) (s : Blk) : Blk :=
  if hub then
    let i := port % 4
    ((s.setF F.HQDEPTH_DEPTH i (s.depths (bufHub i))).peak (1344 + i)).countBy F.HSTALL_COUNT i stall
  else
    let i := port % (64 * 21)
    ((s.setF F.QDEPTH_DEPTH i (s.depths (.buf i))).peak i).countBy F.STALL_COUNT i stall

/-- DEV_ID_WRITE (R196): with DISC_BUSY = 0, a manager's write with ORIGIN 3 also writes BBR_DEVNUM, word 1 of the battery domain
(R458). Another ORIGIN stores the register alone. A write while DISC_BUSY = 1, which software must not make, is not performed. -/
def devIdWriteOp (v : BitVec 32) (s : Blk) : Blk :=
  let n := v.toNat % 2 ^ 15
  if s.disc.busy then s
  else
    let s1 := s.setReg .DEV_ID 0 (BitVec.ofNat 64 n)
    if bits n 14 13 = 3 then s1.setReg .BBR_WORD 1 (BitVec.ofNat 64 (n % 2 ^ 13)) else s1

end Sys2Proof.Machine
end

