-- ==== Sys2Proof/Machine/FtTx.lean ====
section
/-! DEFINITION. Fyrrarel Transport, the sender: packets and frames, encryption, slices, retransmission, acknowledgements and
responses (R256 to R262, R271, R278 to R286). -/

namespace Sys2Proof.Machine

/-! ## Packets (R256 to R261) -/

/-- One packet to send, but for what the connection adds. -/
structure PktSpec where
  opc : Nat
  first : Bool
  last : Bool
  ar : Bool := false
  blk : Bool := false
  pad : Nat := 0
  dsn : Nat
  check : Nat := 0
  ext : List Byte
  data : List Byte := []
  deriving DecidableEq, Repr

/-- Requests of a connection whose responses are incomplete: the DSNs of READ segments and of ATOMICs (R257, R281). -/
def Blk.openResps (s : Blk) (c : Nat) : List Nat :=
  (s.ft.reqs.filter (fun r => r.conn == c && r.started)).flatMap (fun r =>
    match r.wrt with
    | .read => ((List.range r.sent).filter (fun j => !(r.segDone j))).map (fun j => dsnAdd r.dsn j)
    | .atomic => if r.sent = 0 then [] else [r.dsn]
    | _ => [])

/-- RACK (R257): the lowest DSN with an incomplete response, or that of the next request to be sent: of the next segment where a READ goes on,
past the packets of a message that goes on. -/
def Blk.rack (s : Blk) (c : Nat) : Nat :=
  let x := s.conn c
  match s.openResps c with
  | d :: t => t.foldl (fun m e => if dsnLt e m then e else m) d
  | [] => match s.ft.reqs.find? (fun r => r.conn == c && r.started && decide (r.sent < (r.packets x.pmtu).length)) with
    | some r => if r.wrt = .read then x.txDsn else dsnAdd r.dsn (r.packets x.pmtu).length
    | none => x.txDsn

/-- The FTH (R257). -/
def Blk.fth (s : Blk) (c psn : Nat) (p : PktSpec) : List Byte :=
  let x := s.conn c
  toBe 1 0x10 ++ toBe 1 p.opc ++
    toBe 1 (b2n x.enc * 128 + b2n p.first * 64 + b2n p.last * 32 + b2n p.ar * 16 + b2n p.blk * 8) ++ toBe 1 p.pad ++
    toBe 2 x.peerDev ++ toBe 2 (s.getF F.DEV_ID_DEVNUM) ++ toBe 2 x.peerConn ++ toBe 2 c ++ toBe 8 psn ++ toBe 4 p.dsn ++ toBe 4 (s.rack c) ++
    toBe 4 p.check

/-- The frame of an FT packet: Ethernet, IPv6 and UDP headers before `l` (R256). -/
def Blk.ftFrame (s : Blk) (c : Nat) (l : List Byte) : List Byte :=
  let x := s.conn c
  let dev := s.getF F.DEV_ID_DEVNUM
  let tos := x.dscp * 4 + (if s.flag F.FT_CTRL_ECN_EN then 2 else 0)
  let hop := s.getF F.FT_UDP_HOP_LIMIT
  let n := l.length + 8
  toBe 6 (Config.neighborMac x.lport).toNat ++ toBe 6 (s.reg .LP_MAC x.lport).toNat ++ toBe 2 0x86DD ++
    toBe 4 (6 * 2 ^ 28 + tos * 2 ^ 20 + dev % 16 * 2 ^ 16 + c) ++ toBe 2 n ++ toBe 1 17 ++ toBe 1 (if hop = 0 then 64 else hop) ++
    toBe 8 (s.reg .LP_IP6_HI x.lport).toNat ++ toBe 8 (s.reg .LP_IP6_LO x.lport).toNat ++ toBe 16 x.ip ++
    toBe 2 (0xC000 + c % 2 ^ 14) ++ toBe 2 (s.getF F.FT_UDP_UDP_PORT) ++ toBe 2 n ++ toBe 2 0 ++ l

/-- The round keys of a connection's traffic key, and an IV (R326). -/
def Blk.connKeys (s : Blk) (c : Nat) : List (List Nat) := roundKeys (natsOf (s.slot (s.conn c).slot).key)
def ivOf (salt psn : Nat) : List Byte := toBe 4 salt ++ toBe 8 psn

/-- Spend tokens of the connection's flow (R189, R284). -/
def Blk.ftSpend (s : Blk) (c n : Nat) : Blk :=
  if !(s.flag F.FT_CTRL_RL_EN) then s else s.modConn c (fun x => { x with flow := { x.flow with tokens := x.flow.tokens - (n : Int) * 65536 } })

/-- Send one packet of a connection (R262): `ftid` is the DSN of a packet of a request; `resp` the response bytes that a READ_REQ
is charged for. With `lose` a parity check of the header path fails, and the packet is discarded (R415). -/
def Blk.sendPkt (s : Blk) (c : Nat) (ftid : Option Nat) (resp : Nat) (p : PktSpec) (t : TxState) (lose : Bool := false) : Blk × TxState :=
  let x := s.conn c
  if !x.live then (s, t)
  else
    let psn := x.txPsn
    let h := s.fth c psn p
    let plain := p.ext ++ p.data
    let t0 : TxState := if p.first then { psn0 := psn } else t
    let rk := if x.enc then s.connKeys c else []
    let iv := ivOf x.txSalt t0.psn0
    let body := if x.enc then gcmCtr rk iv (t0.ct.length / 16 + 2) plain else plain
    let t1 : TxState := { t0 with aad := t0.aad ++ h, ct := t0.ct ++ body }
    let trailer := if !x.enc then toBe 4 (crc32c (h ++ plain)).toNat else if p.last then gcmTag rk iv t1.aad t1.ct else []
    let l := h ++ body ++ trailer
    let s1 := s.modConn c (fun y => { y with txPsn := (psn + 1) % 2 ^ 64 })
    let s2 := if ftid.isSome then s1.ftSpend c (l.length + resp) else s1
    let s3 := (whenD x.enc (fun u => u.countBy F.CIP_TX_BYTES_COUNT 0 plain.length) s2).count F.FT_HDR_CNT_COUNT
    (if lose then s3.hubFault 0 else s3.commitWhenRoom x.lport x.tc (some x.inst) (some (c, ftid)) (s3.ftFrame c l),
     if x.enc && !p.last then t1 else {})

/-! ## The packets of a request (R258, R259, R261, R283) -/

/-- A RETH or a SETH. -/
def reth (wtag roff mlen : Nat) : List Byte := toBe 4 wtag ++ toBe 8 roff ++ toBe 4 mlen
def seth (mlen moff : Nat) : List Byte := toBe 4 mlen ++ toBe 4 moff ++ toBe 8 0

/-- The pieces of drawers of an instance address range. -/
def Blk.drawerPieces (s : Blk) (i a n : Nat) (acc : Access) : Option (List (Nat × Nat)) :=
  if n = 0 then some [] else if a + n ≤ 2 ^ 40 then s.movePieces i a 0 n acc else none

/-- Packet `k` of a request, with the source read now; the fragments that fail are noted in the request (R283). -/
def Blk.mkPacket (s : Blk) (r : WReq) (k : Nat) : Blk × WReq × PktSpec :=
  let x := s.conn r.conn
  let ps := r.packets x.pmtu
  let (o, n) := ps.getD k (0, 0)
  let last := decide (k + 1 = ps.length)
  let dsn := dsnAdd r.dsn k
  match r.wrt with
  | .read => (s, r, { opc := 4, first := true, last := true, ar := true, dsn := dsn, ext := reth r.wtag (r.roff + o) n })
  | .atomic =>
    let ext := toBe 4 r.wtag ++ toBe 8 r.roff ++ toBe 1 (b2n r.casop) ++ toBe 3 0 ++ toBe 8 r.opnd ++ toBe 8 r.aux
    (s, r, { opc := 6, first := true, last := true, ar := true, dsn := dsn, ext := ext })
  | w =>
    let (ext, opc) := if w = .send then (seth r.len o, 1)
      else if w = .write then (reth r.wtag (r.roff + o) r.len, 2)
      else (reth r.wtag (r.roff + o) r.len ++ (if last then toBe 4 r.opnd ++ toBe 12 0 else []), 3)
    let pad := if last then r.pad else 0
    match r.seg with
    | some (l, bad) =>
      let poison := bad.any (fun b => decide (b.1 < o + n) && decide (o < b.1 + b.2))
      (s, r, { opc := opc, first := decide (k = 0), last := last, ar := last, dsn := dsn, check := if poison then poisonVal.toNat else 0, ext := ext,
               pad := pad, data := slice l o n })
    | none => match s.drawerPieces x.inst (r.laddr + o) n .rd with
    | none =>
      let p : PktSpec := { opc := opc, first := decide (k = 0), last := last, ar := last, dsn := dsn, check := poisonVal.toNat, ext := ext,
                           pad := pad, data := List.replicate n 0 }
      (s, r.fail (r.frags o n), p)
    | some pieces =>
      let q := s.readPieces pieces
      let blk := decide (n = 4096) && decide ((r.laddr + o) % 4096 = 0) && decide ((r.dest + o) % 4096 = 0)
      let bad := q.2.2 || (blk && (r.frags o n).any (fun f => r.failed.contains f))
      let chk := if bad then poisonVal.toNat else if blk then (match pieces with
        | [(a, _)] => (s.mem.check a).toNat
        | _ => 0) else 0
      let p : PktSpec := { opc := opc, first := decide (k = 0), last := last, ar := last, blk := blk, pad := pad,
                           dsn := dsn, check := chk, ext := ext, data := q.2.1 }
      (q.1, if bad then r.fail (r.frags o n) else r, p)

/-- Response bytes that a packet of a READ is charged for (R284). -/
def WReq.respBytes (r : WReq) (k : Nat) : Nat := if r.wrt = .read then min 65536 (r.len - k * 65536) else 0

/-- Keep the transmission of a request that goes on. -/
def Blk.putTx (s : Blk) (q idx : Nat) (t : TxState) : Blk :=
  match s.ft.reqs.find? (fun y => y.q == q && y.idx == idx) with
  | some y => s.putReq { y with tx := t }
  | none => s

/-- The drawer ranges that packet `k` of a request is read from. -/
def Blk.srcPieces (s : Blk) (r : WReq) (k : Nat) : List (Nat × Nat) :=
  if r.wrt = .read ∨ r.wrt = .atomic ∨ r.seg.isSome then []
  else
    let p := (r.packets (s.conn r.conn).pmtu).getD k (0, 0)
    (s.drawerPieces (s.conn r.conn).inst (r.laddr + p.1) p.2 .rd).getD []

/-- Packet `k` of a request can be read now: no source read of the request was lost, the hub's flow has tokens, and its regions are awake
(R181, R189, R443). -/
def Blk.srcOpen (s : Blk) (r : WReq) (k : Nat) : Bool := !r.lost && s.engineOpen 0 (s.srcPieces r k)

/-- Read the source of packet `k` of a request and go on with it; a read that is discarded leaves the request waiting for good. -/
def Blk.withSource (s : Blk) (r : WReq) (k : Nat) (f : Blk → Blk) : Blk :=
  let g := s.engineReads (s.conn r.conn).inst (s.srcPieces r k)
  if g.2 then f g.1 else g.1.putReq { r with lost := true }

/-- Commit the next packet of a request; its first one starts the request (R271). -/
def Blk.txPacket (s : Blk) (r : WReq) (lose : Bool) : Blk :=
  let x := s.conn r.conn
  let r1 := if r.started then r else { r with started := true, dsn := x.txDsn }
  let s1 := if r.started || r.seg.isSome then s else s.startEntry r.q r.idx
  (s1.putReq r1).withSource r1 r1.sent (fun u =>
    let (s2, r2, p) := u.mkPacket r1 r1.sent
    let s3 := (s2.putReq { r2 with sent := r1.sent + 1 }).modConn r.conn (fun y => { y with txDsn := dsnAdd y.txDsn 1 })
    let (s4, t) := s3.sendPkt r.conn (some p.dsn) (r.respBytes r1.sent) p r.tx lose
    s4.putTx r.q r.idx t)

/-! ## Retransmissions and responses (R280, R281, R286) -/

/-- Packets wait for slices of their connection, after those that wait already; an earlier wait of one of them ends. -/
def Blk.queueOut (s : Blk) (c : Nat) (l : List OutPkt) : Blk :=
  s.modConn c (fun x => { x with out := x.out.filter (fun o => !(l.contains o)) ++ l })

/-- Packets `ks` of a request are to be sent again. -/
def Blk.resendPkts (s : Blk) (r : WReq) (ks : List Nat) : Blk :=
  (s.queueOut r.conn (ks.map (fun k => .retx r.q r.idx k))).modConn r.conn (fun x =>
    { x with resent := x.resent ++ (ks.map (fun k => dsnAdd r.dsn k)).filter (fun d => !(x.resent.contains d)) })

/-- A response is to be sent (R281), or sent again from its first packet. -/
def Blk.sendResp (s : Blk) (c : Nat) (e : RCache) : Blk :=
  if (s.conn c).live then s.queueOut c ((List.range (if e.atomic then 1 else e.pkts.length)).map (fun k => .resp e.dsn k)) else s

/-- Packet `k` of a response. -/
def RCache.packet (e : RCache) (k : Nat) : Option PktSpec :=
  if e.atomic then some { opc := 7, first := true, last := true, dsn := e.dsn, ext := toBe 8 e.old ++ toBe 8 0 }
  else e.pkts[k]?.map (fun p =>
    { opc := 5, first := decide (k = 0), last := decide (k + 1 = e.pkts.length), blk := p.blk, dsn := e.dsn, check := p.check,
      ext := toBe 4 p.moff ++ toBe 12 0, data := p.data })

/-- Send a packet that has waited: what it is sent again from is read now. -/
def Blk.txOut (s : Blk) (c : Nat) (o : OutPkt) (lose : Bool) : Blk :=
  match o with
  | .retx q idx k =>
    match s.ft.reqs.find? (fun y => y.q == q && y.idx == idx) with
    | none => s
    | some r => s.withSource r k (fun u =>
      let (s1, r1, p) := u.mkPacket r k
      let s2 := ((s1.putReq r1).count F.FT_RETX_CNT_COUNT).count F.FTC_RETX_COUNT c
      let (s3, t) := s2.sendPkt c (some p.dsn) (r.respBytes k) p r.tx lose
      s3.putTx q idx t)
  | .resp d k =>
    match (s.conn c).rcache.find? (fun e => e.dsn == d) with
    | none => s
    | some e => match e.packet k with
      | none => s
      | some p =>
        let (s1, t) := s.sendPkt c none 0 p e.tx lose
        s1.modConn c (fun x => { x with rcache := x.rcache.map (fun y => if y.dsn = d then { y with tx := t } else y) })

/-- Resend a DSN: alone, or on an encrypted connection the transmission of its message that has been sent so far. -/
def Blk.resendDsn (s : Blk) (c d : Nat) : Blk :=
  match s.reqOfDsn c d with
  | none => s
  | some r =>
    if (s.conn c).enc ∧ r.wrt ≠ .read then s.resendPkts r (List.range r.sent) else s.resendPkts r [dsnSub d r.dsn]

/-- Resend several DSNs; on an encrypted connection one message once. -/
def Blk.resendDsns (s : Blk) (c : Nat) (ds : List Nat) : Blk :=
  let once := if (s.conn c).enc then
      ds.foldl (fun (l : List Nat) d => if l.any (fun e => (s.reqOfDsn c e).isSome &&
        (s.reqOfDsn c e).map (fun r => (r.q, r.idx)) == (s.reqOfDsn c d).map (fun r => (r.q, r.idx)) &&
        (s.reqOfDsn c d).any (fun r => r.wrt != .read)) then l else l ++ [d]) []
    else ds
  forL once (fun d t => t.resendDsn c d) s

/-- The oldest DSN without acknowledgement or without its response. -/
def Blk.oldestDsn (s : Blk) (c : Nat) : Option Nat :=
  let x := s.conn c
  let l := (if x.ackDsn = x.txDsn then [] else [x.ackDsn]) ++ s.openResps c
  match l with
  | [] => none
  | d :: t => some (t.foldl (fun m e => if dsnLt e m then e else m) d)

/-- FT_RTO_EXPIRY (R280; DESIGN CHOICE, log entry 65). -/
def ftRtoExpiryOp (c : Nat) (s : Blk) : Blk :=
  let x := s.conn c
  if !x.live ∨ x.rnrWait then s
  else match s.oldestDsn c with
    | none => s
    | some d =>
      let s1 := s.count F.FT_TIMEOUT_CNT_COUNT
      let n := x.timeouts + 1
      if n ≥ max 1 (s.getF F.FT_RETRY_CFG_RETRY_LIM) then s1.connError c .retryExceeded (s1.reqOfDsn c d)
      else (s1.setConn c { x with timeouts := n }).resendDsn c d

/-- FT_RNR_DELAY_EXPIRY (R280). -/
def ftRnrDelayExpiryOp (c : Nat) (s : Blk) : Blk :=
  let x := s.conn c
  match x.rnrWait, x.rnr with
  | true, some (d, _) => (s.setConn c { x with rnrWait := false }).resendDsn c d
  | _, _ => s

/-! ## Slices (R225, R271, R286) -/

/-- A send queue's requests may start: it is named by no SEND_WINDOW of its instance's timetable, or a window is open. -/
def Blk.sendGate (s : Blk) (q : Nat) : Bool :=
  match s.qOwner q with
  | .inst i b =>
    let t := s.tt i
    t.st == .empty || !(t.entries.any (fun e => e.action == 3 && bits e.arg0 15 0 == q - b)) || t.wins.any (fun w => w.isOpen && w.q == q - b)
  | _ => true

/-- The request of a connection whose packet would go next. -/
def Blk.txNext (s : Blk) (c : Nat) : Option WReq :=
  s.ft.reqs.find? (fun r => r.conn == c && decide (r.sent < (r.packets (s.conn c).pmtu).length))

/-- The length of a frame of the connection, but for its FCS: an extension header of `ext` bytes, a payload of `n` and the trailer (R256). -/
def Conn.frameLen (x : Conn) (ext n : Nat) (last : Bool) : Nat := 94 + ext + n + (if !x.enc then 4 else if last then 16 else 0)

/-- The length of the frame of packet `k` of a request, and of a response. -/
def WReq.frameLen (r : WReq) (x : Conn) (k : Nat) : Nat :=
  let ps := r.packets x.pmtu
  match r.wrt with
  | .read => x.frameLen 16 0 true
  | .atomic => x.frameLen 32 0 true
  | w =>
    let last := decide (k + 1 = ps.length)
    x.frameLen (if w = .writeImm ∧ last then 32 else 16) (ps.getD k (0, 0)).2 last
def RCache.frameLen (e : RCache) (x : Conn) (k : Nat) : Nat :=
  x.frameLen 16 ((e.pkts[k]?.map (fun p => p.data.length)).getD 0) (e.atomic || decide (k + 1 = e.pkts.length))

/-- The connection may send at all (R288, R319, R434), on a link of the fabric that is not kept to basic packets (R195). -/
def Blk.mayTx (s : Blk) (c : Nat) : Bool :=
  let x := s.conn c
  x.live && s.flag F.FT_CTRL_EN && !s.rel.fatal && (!x.enc || s.flag F.CIP_CTRL_EN) && !(s.disc.overflow && s.flag F.NBR_INFO_PRESENT x.lport)
/-- The token rule (R189, R284). -/
def Blk.hasTokens (s : Blk) (c : Nat) : Bool := !(s.flag F.FT_CTRL_RL_EN) || decide (0 ≤ (s.conn c).flow.tokens)
/-- A frame of the connection has room (R310). -/
def Blk.connRoom (s : Blk) (c n : Nat) : Bool := let x := s.conn c; s.mayCommit x.lport x.tc (some x.inst) n

/-- A waiting packet still has what it is sent from; a retransmission is one of a request, under the rate of its connection. -/
def Blk.outHeld (s : Blk) (c : Nat) (o : OutPkt) : Bool :=
  match o with
  | .retx q idx _ => s.ft.reqs.any (fun r => r.q == q && r.idx == idx)
  | .resp d k => (s.conn c).rcache.any (fun e => e.dsn == d && (e.packet k).isSome)
def Blk.outReady (s : Blk) (c : Nat) (o : OutPkt) : Bool :=
  let x := s.conn c
  match o with
  | .retx q idx k => !x.rnrWait && s.hasTokens c && s.ft.reqs.any (fun r => r.q == q && r.idx == idx && s.srcOpen r k && s.connRoom c (r.frameLen x k))
  | .resp d k => x.rcache.any (fun e => e.dsn == d && (e.packet k).isSome && s.connRoom c (e.frameLen x k))

/-- The packet that has waited longest of those that may go. -/
def Blk.nextOut (s : Blk) (c : Nat) : Option OutPkt := if s.mayTx c then (s.conn c).out.find? (fun o => s.outReady c o) else none

/-- The request of the connection whose next packet may go: started or startable, with tokens, an open window and room, behind every
retransmission (R281, R286, R287, R310). -/
def Blk.nextNew (s : Blk) (c : Nat) : Option WReq :=
  let x := s.conn c
  (s.txNext c).filter (fun r =>
    s.mayTx c && !x.rnrWait && r.armed.isNone && (r.started || s.sendGate r.q) && s.hasTokens c && s.srcOpen r r.sent && decide (dsnSub x.txDsn x.ackDsn < 256) &&
    (!(r.wrt == .read || r.wrt == .atomic) || decide ((s.openResps c).length < 64)) && s.connRoom c (r.frameLen x r.sent) &&
    x.out.all (fun o => match o with
      | .retx .. => !(s.outHeld c o)
      | .resp .. => true))

/-- A slice would send a packet of the connection. -/
def Blk.txReady (s : Blk) (c : Nat) : Bool := (s.nextOut c).isSome || (s.nextNew c).isSome

/-- One packet of a connection: one that waits, or the next of a request. -/
def Blk.txServe (s : Blk) (c : Nat) (lose : Bool) : Blk :=
  match s.nextOut c with
  | some o => (s.modConn c (fun x => { x with out := (x.out.erase o).filter (fun y => s.outHeld c y) })).txOut c o lose
  | none => match s.nextNew c with
    | some r => s.txPacket r lose
    | none => s

/-- A context that is not in the cache is fetched (R286). -/
def Blk.fetchCtx (s : Blk) (c : Nat) : Blk :=
  if s.ft.cache.contains c ∨ s.ft.fetching.contains c then s
  else ({ s with ft := { s.ft with fetching := s.ft.fetching ++ [c] } }.count F.FT_CACHE_MISS_CNT_COUNT).emit (.ctxFetch c)

/-- FTI_CFG.WEIGHT with 0 as 1. -/
def Blk.ftWeight (s : Blk) (i : Nat) : Nat := max 1 (s.getF F.FTI_CFG_WEIGHT i)

/-- The sources of a connection's packets that wait for nothing but their regions or granules (R344, R443). -/
def Blk.srcWaits (s : Blk) (c : Nat) : List (Nat × Nat) :=
  let x := s.conn c
  let mine (r : WReq) (k : Nat) : List (Nat × Nat) :=
    let ps := s.srcPieces r k
    if r.lost || !(s.engineTokens 0 ps) || s.awake ps then [] else ps
  if !(s.mayTx c) || x.rnrWait || !(s.hasTokens c) then []
  else x.out.flatMap (fun o => match o with
      | .retx q idx k => (s.ft.reqs.filter (fun r => r.q == q && r.idx == idx)).flatMap (fun r => mine r k)
      | .resp .. => []) ++
    (match s.txNext c with
      | none => []
      | some r => if r.armed.isNone && (r.started || s.sendGate r.q) then mine r r.sent else [])

/-- FT_TX_SLICE (R286): one packet of the connection whose turn it is; with `lose` it meets a parity failure (R415). -/
def ftTxSliceOp (lose : Bool) (s : Blk) : Blk :=
  let ready := (s.ft.conns.map (fun p => p.1)).filter (fun c => s.txReady c)
  let s1 := forL ready (fun c t => t.fetchCtx c) (s.wakePieces (s.ft.conns.flatMap (fun p => s.srcWaits p.1)))
  let go := ready.filter (fun c => s.ft.cache.contains c)
  let inst := fun (i : Nat) => go.any (fun c => (s.conn c).inst == i)
  let pick := if s.ft.left > 0 ∧ inst s.ft.turn then some (s.ft.turn, s.ft.left - 1)
    else (((List.range 64).map (fun k => (s.ft.turn + 1 + k) % 64)).find? inst).map (fun i => (i, s.ftWeight i - 1))
  match pick with
  | none => s1
  | some (i, left) =>
    let mine := go.filter (fun c => (s.conn c).inst == i)
    let last := tblGet 65535 i s.ft.lastConn
    -- the first connection after the one served last, in ascending order around the ring
    let key := fun (c : Nat) => (c + 65536 - last - 1) % 65536
    match mine with
    | [] => s1
    | c0 :: t =>
      let c := t.foldl (fun m e => if key e < key m then e else m) c0
      ({ s1 with ft := { s1.ft with turn := i, left := left, lastConn := tblSet i c s1.ft.lastConn } }).txServe c lose

/-! ## Acknowledgements and responses (R279, R281, R282) -/

/-- The expected DSN: the lowest not yet received (R278). -/
def nextMissing : Nat → Nat → List Nat → Nat
  | 0, d, _ => d
  | k + 1, d, l => if l.contains d then nextMissing k (dsnAdd d 1) l else d
def Conn.expected (x : Conn) : Nat := nextMissing (x.held.length + 1) x.cdsn (x.held.map (fun h => h.dsn))

/-- Send an ACK or a NAK (R259, R279, R282). -/
def Blk.sendAck (s : Blk) (c syn ndsn : Nat) : Blk :=
  let x := s.conn c
  let sack := x.held.foldl (fun (m : Nat) h => let d := dsnSub h.dsn x.cdsn; if 1 ≤ d ∧ d ≤ 256 then m ||| 2 ^ (d - 1) else m) 0
  let ext := toBe 4 x.cdsn ++ toBe 1 syn ++ toBe 1 0 ++ toBe 2 (min x.npkt 65535) ++ toBe 2 (min x.nce 65535) ++ toBe 2 0 ++ toBe 4 ndsn ++ toLe 32 sack
  let p : PktSpec := { opc := 8, first := true, last := true, dsn := 0, ext := ext }
  ((s.setConn c { x with npkt := 0, nce := 0, placed := 0 }).sendPkt c none 0 p {}).1

/-- FT_ACK_DELAY_EXPIRY (R279). -/
def ftAckDelayExpiryOp (c : Nat) (s : Blk) : Blk := if s.mayTx c ∧ (s.conn c).placed > 0 then s.sendAck c 0 0 else s

/-- FT_CTX_FETCH_DONE (R286): a context arrives; `evict` makes room when the cache of 8,192 is full. -/
def ftCtxFetchDoneOp (c evict : Nat) (s : Blk) : Blk :=
  if !(s.ft.fetching.contains c) then s
  else
    let full := decide (s.ft.cache.length ≥ 8192)
    if full && (!(s.ft.cache.contains evict) || (s.conn evict).pin) then s
    else { s with ft := { s.ft with fetching := s.ft.fetching.filter (fun d => d ≠ c),
                                    cache := (if full then s.ft.cache.filter (fun d => d ≠ evict) else s.ft.cache) ++ [c] } }

/-- FT_ARMED_FIRE (R270). -/
def ftArmedFireOp (q idx : Nat) (s : Blk) : Blk :=
  match s.ft.reqs.find? (fun r => r.q == q && r.idx == idx) with
  | some r => if s.armedMet r then s.putReq { r with armed := none } else s
  | none => s

/-- RL_PERIOD_UPDATE of a connection (R284, R285). -/
def Blk.connPeriod (s : Blk) (c : Nat) : Blk :=
  let x := s.conn c
  if !x.live then s
  else
    let p := s.getF F.FT_RL_CFG_RL_PERIOD
    let f := rlStep (s.getF F.FT_RL_CFG_RL_G) (s.getF F.FT_RL_CFG_RL_AI) (s.getF F.FT_RL_MIN_RL_MIN) (x.rlMax * 65536) (if p = 0 then 4000 else p) x.flow
    s.setConn c { x with flow := f }

/-- RL_PERIOD_UPDATE: the flows of the package, or one connection. -/
def rlPeriodOp (conn : Option Nat) (s : Blk) : Blk :=
  match conn with
  | none => rlPeriodUpdateOp s
  | some c => s.connPeriod c

end Sys2Proof.Machine
end

