-- ==== Sys2Proof/Machine/FtRx.lean ====
section
/-! DEFINITION. Fyrrarel Transport, the receiver: the checks of R260, the reorder pool and encrypted transmissions, placement in DSN
order, windows, the response cache, and acknowledgements (R260 to R269, R275 to R284). -/

namespace Sys2Proof.Machine

/-! ## Reception (R260, R286) -/

/-- The fields of a frame that waits. -/
def FtRx.opc (f : FtRx) : Nat := beAt f.fth 1 1
def FtRx.conn (f : FtRx) : Nat := beAt f.fth 8 2

/-- The frame of a port that the Dresser serves next: in arrival order, but for those that wait for their context. -/
def Blk.ftNext (s : Blk) (l : Nat) : Option (Nat × FtRx) :=
  let rx := (s.lp l).rx
  ((List.range rx.length).find? (fun i => match rx[i]? with
    | some f => !(s.ft.fetching.contains f.conn)
    | none => false)).bind (fun i => rx[i]?.map (fun f => (i, f)))

/-- Take frame `i` out of the receive buffer. -/
def Blk.rxTake (s : Blk) (l i : Nat) (tc : Nat) : Blk :=
  ((s.modLp l (fun x => { x with rx := x.rx.take i ++ x.rx.drop (i + 1) })).checkXon l tc).count F.FT_HDR_CNT_COUNT

/-- Check 3 of R260. -/
def Conn.matches (x : Conn) (f : FtRx) : Bool :=
  x.live && decide (beAt f.fth 6 2 % 4096 = x.peerDev) && decide (beAt f.fth 10 2 = x.peerConn) && decide (f.src = x.ip) &&
    ((beAt f.fth 2 1).testBit 7 == x.enc)

/-- A packet as it waits. -/
def FtRx.pkt (f : FtRx) (enc : Bool) : HeldPkt :=
  let fl := beAt f.fth 2 1
  let body := if enc then f.body else f.body.take (f.body.length - 4)
  { dsn := beAt f.fth 20 4, moff := 0, psn := beAt f.fth 12 8, opc := f.opc, flags := fl, pad := beAt f.fth 3 1 % 16,
    check := beAt f.fth 28 4, fth := f.fth, body := body, beat := f.beat, clear := !enc }
def HeldPkt.first (h : HeldPkt) : Bool := h.flags.testBit 6
def HeldPkt.last (h : HeldPkt) : Bool := h.flags.testBit 5
def HeldPkt.blk (h : HeldPkt) : Bool := h.flags.testBit 3
def HeldPkt.rackOf (h : HeldPkt) : Nat := beAt h.fth 24 4

/-- The extension header and the payload of a packet in the clear (R258). -/
def HeldPkt.extLen (h : HeldPkt) : Nat := if h.opc = 8 then 48 else if h.opc = 6 ∨ (h.opc = 3 ∧ h.last) then 32 else 16
def HeldPkt.data (h : HeldPkt) : List Byte := h.body.drop h.extLen

/-- The packets of a message that are held with the one at DSN `d`, in order: down to an F packet and up to an L packet. -/
def runDown (held : List HeldPkt) : Nat → Nat → List HeldPkt
  | 0, _ => []
  | k + 1, d => match held.find? (fun h => h.dsn == d) with
    | none => []
    | some h => if h.last then [] else if h.first then [h] else runDown held k (dsnAdd d (2 ^ 32 - 1)) ++ [h]
def runUp (held : List HeldPkt) : Nat → Nat → List HeldPkt
  | 0, _ => []
  | k + 1, d => match held.find? (fun h => h.dsn == d) with
    | none => []
    | some h => if h.first then [] else if h.last then [h] else h :: runUp held k (dsnAdd d 1)
def runOf (held : List HeldPkt) (h : HeldPkt) : List HeldPkt :=
  (if h.first then [] else runDown held (held.length + 1) (dsnAdd h.dsn (2 ^ 32 - 1))) ++ [h] ++
    (if h.last then [] else runUp held (held.length + 1) (dsnAdd h.dsn 1))

/-- Discard the transmission of an encrypted connection that a packet belongs to, as far as it waits for its tag. -/
def Blk.dropTx (s : Blk) (c : Nat) (h : HeldPkt) : Blk :=
  s.modConn c (fun x =>
    let run := runOf x.held h
    { x with held := if h.opc ≤ 3 then x.held.filter (fun y => y.clear || !(run.any (fun r => r.dsn == y.dsn))) else x.held,
             rheld := if h.opc = 5 then x.rheld.filter (fun y => y.dsn ≠ h.dsn || y.clear) else x.rheld })

/-- Serve the next frame of a port if it is of the kind `want`: its context is fetched on a miss, and check 3 is made. A failing parity check
of the header path discards the packet, and one of the cipher pipeline its transmission (R415). -/
def Blk.ftServe (s : Blk) (l : Nat) (hw : FtHw) (want : FtRx → Bool) (k : Nat → FtRx → Blk → Blk) : Blk :=
  match s.ftNext l with
  | none => s
  | some (i, f) =>
    if !(want f) ∨ !(s.flag F.FT_CTRL_EN) then s
    else
      let c := f.conn
      let x := s.conn c
      if x.live ∧ !(s.ft.cache.contains c) then s.fetchCtx c
      else
        let s1 := s.rxTake l i f.tc
        if hw = .header then s1.hubFault 0
        else if !(x.matches f) then ((s1.count F.FT_DROP_CONN_CNT_COUNT).event .ft 0 2).settleWins
        else if x.enc ∧ !(s.flag F.CIP_CTRL_EN) then s1
        else if x.enc ∧ hw = .cipher then (s1.dropTx c (f.pkt true)).hubFault 2
        else (k c f s1).settleWins

/-- The replay window (R278). -/
def Conn.psnOk (x : Conn) (p : Nat) : Bool :=
  !((x.held ++ x.rheld).any (fun h => !h.clear && h.psn == p)) &&
    (decide (x.psnTop ≤ p) || (decide (x.psnTop ≤ p + 257) && !(x.psnSeen.contains p)))
def Conn.psnMark (x : Conn) (p : Nat) : Conn :=
  let top := max x.psnTop (p + 1)
  { x with psnTop := top, psnSeen := p :: x.psnSeen.filter (fun q => decide (top ≤ q + 257) && decide (q ≠ p)) }

/-- A frame is discarded under check 5 or 6. -/
def Blk.dropSeq (s : Blk) : Blk := (s.count F.FT_DROP_SEQ_CNT_COUNT).event .ft 0 2

/-- The responder frees the response cache entries below the peer's RACK (R281). -/
def Conn.freeResp (x : Conn) (rack : Nat) : Conn := { x with rcache := x.rcache.filter (fun e => !(dsnLt e.dsn rack)) }

/-- The CRC of an unencrypted packet (R262; DEDUCED, log entry 69). -/
def crcGood (f : FtRx) : Bool :=
  decide (4 ≤ f.body.length) && decide (beNat (f.body.drop (f.body.length - 4)) = (crc32c (f.fth ++ f.body.take (f.body.length - 4))).toNat)

/-! ## Encrypted transmissions (R262, R280, R281, R329) -/

/-- Decrypt and verify the packets of a transmission, in order; none where the tag fails. -/
def Blk.openTx (s : Blk) (c : Nat) (g : List HeldPkt) : Option (List HeldPkt) :=
  let all := g.flatMap (fun h => h.body)
  let n := all.length - 16
  let rk := s.connKeys c
  let iv := ivOf (s.conn c).rxSalt ((g.headD { dsn := 0, psn := 0, opc := 0, flags := 0, pad := 0, check := 0, fth := [], body := [], beat := 0 }).psn)
  if all.length < 16 ∨ gcmTag rk iv (g.flatMap (fun h => h.fth)) (all.take n) ≠ all.drop n then none
  else
    let plain := gcmCtr rk iv 2 (all.take n)
    some ((g.foldl (fun (acc : List HeldPkt × List Byte) h =>
      (acc.1 ++ [{ h with body := acc.2.take h.body.length, clear := true }], acc.2.drop h.body.length)) ([], plain)).1)

/-- A tag fails (R329). -/
def Blk.authFail (s : Blk) (c : Nat) : Blk :=
  let x := s.conn c
  ((s.count F.CIP_AUTH_FAIL_CNT_COUNT).count F.SLOT_AUTHF_COUNT x.slot).event .cip 0 0 { inst := x.inst }

/-- A group is a whole transmission. -/
def wholeTx (g : List HeldPkt) : Bool :=
  (match g.head? with
    | some h => h.first
    | none => false) && (match g.getLast? with
    | some h => h.last
    | none => false)

/-- A packet of a new transmission replaces the partial copy that is held (R280): everything of its message up to the highest PSN
that an older packet at or after its place carries. -/
def dropStale (old : List HeldPkt) (run : List HeldPkt) (above : List HeldPkt) (psn : Nat) : List HeldPkt :=
  let q := above.foldl (fun m h => if h.psn < psn then max m (h.psn + 1) else m) 0
  old.filter (fun h => !(run.any (fun r => r.psn == h.psn) && decide (h.psn < q)))

/-! ## Windows (R275, R276) -/

/-- Classify an access (R275). -/
def Blk.classify (s : Blk) (c beat wtag roff n right : Nat) (aligned : Bool) : Verdict :=
  let ix := wtag % 2 ^ 20
  let w := s.win ix
  if !w.v || w.revoked.isSome || w.opening.isSome || decide (w.key ≠ wtag / 2 ^ 20) || decide (w.inst ≠ (s.conn c).inst) || (w.bind && decide (w.bconn ≠ c)) ||
      !(w.rights.testBit right) || decide (roff + n > w.len) || !aligned then .refuse 3
  else if w.expiry ≤ beat then .refuse 4
  else .pass ix w

/-- The verdict on the access of a packet in the clear, WRITE, WRITE_IMM, READ_REQ or ATOMIC: the one it has, or that of its classification. -/
def Blk.accessOf (s : Blk) (c : Nat) (h : HeldPkt) : Verdict :=
  match h.win with
  | some w => w
  | none =>
    let wt := beAt h.body 0 4
    let ro := beAt h.body 4 8
    if h.opc = 4 then s.classify c h.beat wt ro (beAt h.body 12 4) 0 true
    else if h.opc = 6 then s.classify c h.beat wt ro 8 2 (ro % 8 == 0)
    else s.classify c h.beat wt ro h.data.length 1 true

/-- The access of a packet that is held is classified when its header is processed. -/
def Blk.withWin (s : Blk) (c : Nat) (h : HeldPkt) : HeldPkt := if h.opc = 1 then h else { h with win := some (s.accessOf c h) }

/-! ## Refusals (R282) -/

/-- The status of a fatal NAK. -/
def nakStatus (syn : Nat) : Status := if syn = 3 then .remoteAccess else if syn = 4 then .windowExpired else .remoteInvalid

/-- Send a fatal NAK and enter ERROR. -/
def Blk.fatalNak (s : Blk) (c syn dsn : Nat) : Blk :=
  let s1 := if syn = 3 ∨ syn = 4 then (s.count F.FT_WIN_REFUSED_CNT_COUNT).event .ft 0 1 { inst := (s.conn c).inst } else s
  (s1.sendAck c syn dsn).connError c (nakStatus syn) none

/-- Send NAK_BUSY or NAK_CHECK: the packet is not kept, nor the message that it begins on an encrypted connection. -/
def Blk.softNak (s : Blk) (c syn : Nat) (h : HeldPkt) : Blk :=
  let x := s.conn c
  let run := runOf x.held h
  let held := if x.enc then x.held.filter (fun y => !(run.any (fun r => r.dsn == y.dsn))) else x.held.filter (fun y => y.dsn ≠ h.dsn)
  (s.setConn c { x with held := held, gapTold := some h.dsn }).sendAck c syn h.dsn

/-! ## Placement in order (R267 to R269, R275, R279, R281, R283) -/

/-- A packet has been placed: CDSN moves on, and an ACK follows where R279 asks for one. -/
def Blk.advance (s : Blk) (c : Nat) (h : HeldPkt) : Blk :=
  let x := s.conn c
  let n := x.placed + 1
  let s1 := s.setConn c { x with cdsn := dsnAdd h.dsn 1, placed := n, held := x.held.filter (fun y => y.dsn ≠ h.dsn) }
  if h.flags.testBit 4 ∨ n ≥ max 1 (s.getF F.FT_ACK_CFG_ACK_COAL) then s1.sendAck c 0 0 else s1

/-- Write a payload to the destination: none where its block check fails; the flag tells a poisoned destination. -/
def Blk.putPayload (s : Blk) (pieces : List (Nat × Nat)) (l : List Byte) (blk : Bool) (check : Nat) : Option (Blk × Bool) :=
  let poison := decide (check = poisonVal.toNat)
  if !blk then
    if poison then some (forL pieces (fun p t => t.poisonDpa p.1) s, true) else some (s.writePieces pieces l, false)
  else match pieces with
    | [(a, 4096)] => (s.memWriteChecked a l (BitVec.ofNat 32 check)).map (fun t => (t, poison))
    | _ =>
      if poison then some (forL pieces (fun p t => t.poisonDpa p.1) s, true)
      else if (checkOfCrc (crc32c l)).toNat = check then some (s.writePieces pieces l, false) else none

/-- A whole message has been placed (R267, R269). -/
def Blk.endMsg (s : Blk) (c : Nat) (m : RxMsg) (h : HeldPkt) : Blk :=
  let x := s.conn c
  let s1 := s.setConn c { x with msg := none }
  let s2 := if m.opc ≠ 1 then s1.rcntInc m.cnt else s1
  let s3 := if m.opc ≠ 2 then s2.rcntInc (x.rxCnt.map (fun n => (s.inst x.inst).cBase + n)) else s2
  match m.entry with
  | some e => s3.recvDone c e.1 e.2.1 (if m.bad then .partialFail else .ok) m.placed (if m.opc = 3 then some (beAt h.body 16 4) else none)
  | none => s3

/-- Pad bytes at the end of the message, as its L packet states them when it is held already. -/
def msgPad (held : List HeldPkt) (h : HeldPkt) : Nat := ((runOf held h).getLast?.map (fun y => if y.last then y.pad else 0)).getD 0

/-- A message consumes its receive entry as its F packet is placed (R267). -/
def Blk.takeEntry (s : Blk) (m : RxMsg) : Blk :=
  match m.entry with
  | some e => { s with ft := { s.ft with recvs := s.ft.recvs.filter (fun y => !(y.1 == e.1 && y.2.1 == e.2.1)) } }.startEntry e.1 e.2.1
  | none => s

/-- Place a packet of a message that has been judged valid: of its payload what lies before the padding (R262). While a granule of its
destination is in FLUSHING, or a region of it below PL0, it waits in the receive buffer (R344, R443, R444). -/
def Blk.placeMsg (s : Blk) (c : Nat) (h : HeldPkt) (m : RxMsg) : Blk :=
  let x := s.conn c
  let data := h.data
  let n := data.length
  let n' := min n (m.mlen - msgPad x.held h - m.off)
  match s.drawerPieces x.inst (m.base + m.off) n' .wr with
  | none => s.fatalNak c 3 h.dsn
  | some pieces =>
    let g := s.engineWrites x.inst pieces
    if !(s.awake pieces) then s.wakePieces pieces
    else if !g.2 then g.1
    else match g.1.putPayload pieces (data.take n') h.blk h.check with
    | none => g.1.softNak c 6 h
    | some (s1, bad) =>
      let m1 := { m with off := m.off + n, placed := if bad then m.placed else m.placed + n', bad := m.bad || bad }
      let s2 := (if h.first then s1.takeEntry m else s1).modConn c (fun y => { y with msg := some m1 })
      (if h.last then s2.endMsg c m1 h else s2).advance c h

/-- Is a packet's length valid at its place in the message (R262, R282, R287)? -/
def msgLenOk (h : HeldPkt) (m : RxMsg) (x : Conn) : Bool :=
  let n := h.data.length
  decide (h.extLen ≤ h.body.length) && decide (n ≤ x.pmtu) && decide (m.off + n ≤ m.mlen) && (h.last == decide (m.off + n = m.mlen)) &&
    (!h.last || decide (h.pad ≤ m.mlen)) && decide (m.mlen ≤ if x.enc then 65536 else 2 ^ 31) && (!x.enc || decide (m.mlen % 16 = 0))

/-- A SEND, WRITE or WRITE_IMM packet in order (R267, R275, R282). -/
def Blk.placeData (s : Blk) (c : Nat) (h : HeldPkt) : Blk :=
  let x := s.conn c
  let send := decide (h.opc = 1)
  let mlen := if send then beAt h.body 0 4 else beAt h.body 12 4
  let acc : Verdict := if send then .pass 0 {} else s.accessOf c h
  match acc with
  | .refuse e => s.fatalNak c e h.dsn
  | .pass _ w =>
    let cnt := if w.cntEn then some ((s.inst x.inst).cBase + w.cnt) else none
    if h.first then
      if x.msg.isSome then s.fatalNak c 5 h.dsn
      else
        let base0 := w.base + beAt h.body 4 8
        let m0 : RxMsg := { opc := h.opc, mlen := mlen, wtag := beAt h.body 0 4, roff := beAt h.body 4 8, base := base0, cnt := cnt }
        if !(msgLenOk h m0 x) || (send && decide (beAt h.body 4 4 ≠ 0)) then s.fatalNak c 5 h.dsn
        else if h.opc = 2 then s.placeMsg c h m0
        else match s.ft.recvs.find? (fun e => e.1 == x.rq) with
          | none => s.softNak c 2 h
          | some e =>
            if send && decide (mlen - msgPad x.held h > e.2.2.2) then s.fatalNak c 5 h.dsn
            else s.placeMsg c h { m0 with entry := some e, base := if send then e.2.2.1 else base0 }
    else match x.msg with
      | none => s.fatalNak c 5 h.dsn
      | some m =>
        let here := if send then decide (beAt h.body 4 4 = m.off) else decide (beAt h.body 0 4 = m.wtag) && decide (beAt h.body 4 8 = m.roff + m.off)
        if m.opc ≠ h.opc ∨ m.mlen ≠ mlen ∨ !here ∨ !(msgLenOk h m x) then s.fatalNak c 5 h.dsn
        else s.placeMsg c h { m with cnt := cnt }

/-- Bytes of the response pool in use (R287). -/
def Blk.respPool (s : Blk) : Nat :=
  s.ft.conns.foldl (fun n c => n + c.2.rcache.foldl (fun k e => k + e.pkts.foldl (fun j p => j + p.data.length) 0) 0) 0

/-- Execute a READ segment (R281, R283): its data is read now into the response cache. -/
def Blk.doRead (s : Blk) (c : Nat) (h : HeldPkt) : Blk :=
  let x := s.conn c
  let n := beAt h.body 12 4
  if x.msg.isSome || decide (n = 0) || decide (n > 65536) || decide (h.data ≠ []) || !h.first || !h.last || decide (h.body.length < 16) then s.fatalNak c 5 h.dsn
  else match s.accessOf c h with
    | .refuse e => s.fatalNak c e h.dsn
    | .pass _ w =>
      if x.rcache.length ≥ 64 ∨ s.respPool + n > 25165824 then s.softNak c 2 h
      else
        let a := w.base + beAt h.body 4 8
        let src := (cutsOf x.pmtu n).flatMap (fun p => (s.drawerPieces x.inst (a + p.1) p.2 .rd).getD [])
        let go := s.engineReads x.inst src
        if !(s.awake src) then s.wakePieces src
        else if !go.2 then go.1
        else
        let out := (cutsOf x.pmtu n).foldl (fun (acc : Blk × List RespPkt) p =>
          let whole := decide (p.2 = 4096) && decide ((a + p.1) % 4096 = 0) && decide (p.1 % 4096 = 0)
          match acc.1.drawerPieces x.inst (a + p.1) p.2 .rd with
          | none => (acc.1, acc.2 ++ [{ moff := p.1, blk := whole, check := poisonVal.toNat, data := List.replicate p.2 0 }])
          | some ps =>
            let r := acc.1.readPieces ps
            let chk := if r.2.2 then poisonVal.toNat else if whole then (match ps with
              | [(b, _)] => (acc.1.mem.check b).toNat
              | _ => 0) else 0
            (r.1, acc.2 ++ [{ moff := p.1, blk := whole, check := chk, data := r.2.1 }])) (go.1, [])
        let e : RCache := { dsn := h.dsn, atomic := false, pkts := out.2 }
        ((out.1.modConn c (fun y => { y with rcache := y.rcache ++ [e] })).advance c h).sendResp c e

/-- Execute an ATOMIC (R275, R281). A word that is uncorrectable is not acted on, and its DSN is not acknowledged. -/
def Blk.doAtomic (s : Blk) (c : Nat) (h : HeldPkt) : Blk :=
  let x := s.conn c
  if x.msg.isSome || decide (h.data ≠ []) || !h.first || !h.last || decide (h.body.length < 32) || decide (beAt h.body 12 1 > 1) then s.fatalNak c 5 h.dsn
  else match s.accessOf c h with
    | .refuse e => s.fatalNak c e h.dsn
    | .pass _ w =>
      if x.rcache.length ≥ 64 then s.softNak c 2 h
      else match s.drawerPieces x.inst (w.base + beAt h.body 4 8) 8 .rw with
        | some [(a, _)] =>
          let cas := decide (beAt h.body 12 1 = 1)
          let g := s.engineReads x.inst [(a, 8)]
          if !(s.awake [(a, 8)]) then s.wakePieces [(a, 8)]
          else if !g.2 then g.1
          else match g.1.amo (if cas then .cas else .fadd) a (beAt h.body 16 8) (beAt h.body 24 8) with
          | (none, s1) => s1.modConn c (fun y => { y with held := y.held.filter (fun z => z.dsn ≠ h.dsn) })
          | (some old, s1) =>
            let e : RCache := { dsn := h.dsn, atomic := true, old := old }
            ((s1.modConn c (fun y => { y with rcache := y.rcache ++ [e] })).advance c h).sendResp c e
        | _ => s.fatalNak c 3 h.dsn

/-- The packet whose turn it is. -/
def Blk.placeOne (s : Blk) (c : Nat) (h : HeldPkt) : Blk :=
  if h.opc = 4 then s.doRead c h else if h.opc = 6 then s.doAtomic c h else s.placeData c h

/-- Place every held packet that is next in DSN order and in the clear (R279). -/
def Blk.placeLoop : Nat → Blk → Nat → Blk
  | 0, s, _ => s
  | k + 1, s, c =>
    let x := s.conn c
    if !x.live then s
    else match x.held.find? (fun h => h.dsn == x.cdsn) with
      | some h => if h.clear then
          let s1 := s.placeOne c h
          if (s1.conn c).cdsn = x.cdsn then s1 else Blk.placeLoop k s1 c
        else s
      | none => s

/-- A duplicate (R281). -/
def Blk.dupPkt (s : Blk) (c : Nat) (h : HeldPkt) : Blk :=
  let s1 := s.count F.FT_DUP_CNT_COUNT
  if h.opc = 4 ∨ h.opc = 6 then
    match (s.conn c).rcache.find? (fun e => e.dsn == h.dsn) with
    | some e => s1.sendResp c e
    | none => s1
  else s1.sendAck c 0 0

/-- Bytes of the reorder pool in use (R287). -/
def Blk.reorderPool (s : Blk) : Nat :=
  s.ft.conns.foldl (fun n c => n + (c.2.held ++ c.2.rheld).foldl (fun k h => k + 32 + h.body.length) 0) 0
def Blk.reorderRoom (s : Blk) (h : HeldPkt) : Bool := decide (s.reorderPool + 32 + h.body.length ≤ 33554432)
def Blk.reorderFull (s : Blk) : Blk := (s.count F.FT_REORDER_DROP_CNT_COUNT).event .ft 0 3

/-- Report a gap before a packet once (R282). -/
def Blk.reportGap (s : Blk) (c exp dsn : Nat) : Blk :=
  let x := s.conn c
  let d := dsnSub dsn exp
  if 0 < d ∧ d < 256 ∧ x.gapTold ≠ some exp then (s.setConn c { x with gapTold := some exp }).sendAck c 1 exp else s

/-- A sequenced packet in the clear that has passed checks 1 to 6 on an unencrypted connection. -/
def Blk.seqClear (s : Blk) (c : Nat) (h : HeldPkt) : Blk :=
  let x := s.conn c
  if dsnLt h.dsn x.cdsn ∨ x.held.any (fun y => y.dsn == h.dsn) then s.dupPkt c h
  else if h.dsn = x.cdsn then Blk.placeLoop (x.held.length + 2) (s.setConn c { x with held := s.withWin c h :: x.held }) c
  else if !(s.reorderRoom h) then s.reorderFull
  else (s.setConn c { x with held := x.held ++ [s.withWin c h] }).reportGap c x.expected h.dsn

/-- A sequenced packet of an encrypted connection: it waits for the tag of its transmission; then the message is placed in its turn,
or answered as a duplicate. The tag is judged before the PSN and the DSN (R260); a packet whose transmission is not yet whole cannot wait under a
PSN or DSN that is not acceptable (`late`; DEDUCED, log entry 67). -/
def Blk.seqEnc (s : Blk) (c : Nat) (h : HeldPkt) (late : Bool) : Blk :=
  let x := s.conn c
  let exp := x.expected
  let run0 := runOf (x.held.filter (fun y => y.dsn ≠ h.dsn)) h ++ x.held.filter (fun y => y.dsn == h.dsn)
  let above := run0.filter (fun y => !(dsnLt y.dsn h.dsn) && y.psn != h.psn)
  let kept := dropStale x.held run0 above h.psn
  if !(s.reorderRoom h) then s.reorderFull
  else
    let held := kept.filter (fun y => y.dsn ≠ h.dsn) ++ [h]
    let s1 := s.setConn c { x with held := held }
    let g := runOf held h
    if !(wholeTx g) then (if late then s.dropSeq else s1.reportGap c exp h.dsn)
    else
      let rest := held.filter (fun y => !(g.any (fun r => r.dsn == y.dsn)))
      match s1.openTx c g with
      | none => (s1.setConn c { x with held := rest }).authFail c
      | some ps =>
        if late then s.dropSeq else
        let x1 := ps.foldl (fun y p => y.psnMark p.psn) x
        let x2 := x1.freeResp h.rackOf
        let s2 := s1.countBy F.CIP_RX_BYTES_COUNT 0 (ps.foldl (fun n p => n + p.body.length) 0)
        let new := ps.filter (fun p => !(dsnLt p.dsn x.cdsn))
        if new = [] then
          forL (ps.drop (ps.length - 1)) (fun p t => t.dupPkt c p)
            ((s2.setConn c { x2 with held := rest }).countBy F.FT_DUP_CNT_COUNT 0 (ps.length - 1))
        else
          let s3 := s2.setConn c { x2 with held := rest ++ new.map (fun p => s2.withWin c p) }
          Blk.placeLoop (held.length + 2) (s3.reportGap c exp h.dsn) c

/-- Count a sequenced packet and its mark (R259, R284). -/
def Blk.countSeq (s : Blk) (c : Nat) (marked : Bool) : Blk := s.modConn c (fun x => { x with npkt := x.npkt + 1, nce := x.nce + b2n marked })

/-- A sequenced packet of opcode `opc` (R260). `cm` says that its placement draws a fabric ACK with CM = 1 (R284). -/
def Blk.rxSeq (s : Blk) (l opc : Nat) (cm : Bool) (hw : FtHw) : Blk :=
  s.ftServe l hw (fun f => f.opc == opc) (fun c f t =>
    let x := t.conn c
    let h := f.pkt x.enc
    let d := dsnSub h.dsn x.expected
    let late := !(x.psnOk h.psn) || (decide (256 ≤ d) && decide (d < 2 ^ 31))
    if x.enc then (whenD (!late) (fun u => u.countSeq c (f.ce || cm)) t).seqEnc c h late
    else if !(crcGood f) then t.count F.FT_CRC_ERR_CNT_COUNT
    else if late then t.dropSeq
    else (((t.setConn c ((x.psnMark h.psn).freeResp h.rackOf)).countSeq c (f.ce || cm))).seqClear c h)

/-! ## Responses (R268, R283) -/

/-- A READ response packet in the clear is placed; while a granule of its destination is in FLUSHING it waits (R344). -/
def Blk.placeResp (s : Blk) (c : Nat) (h : HeldPkt) : Blk :=
  match s.reqOfDsn c h.dsn with
  | none => s
  | some r =>
    if r.wrt ≠ .read then s
    else
      let data := h.data
      let o := dsnSub h.dsn r.dsn * 65536 + beAt h.body 0 4
      let n := data.length
      let n' := min n (r.len - r.pad - o)
      if n = 0 ∨ o + n > r.len ∨ r.got.any (fun g => g.1 == o) then s
      else match s.drawerPieces (s.conn c).inst (r.laddr + o) n' .wr with
        | none => s
        | some pieces =>
          let g := s.engineWrites (s.conn c).inst pieces
          if !(s.awake pieces) then (s.modConn c (fun x => { x with rheld := x.rheld ++ [h] })).wakePieces pieces
          else if !g.2 then g.1
          else match g.1.putPayload pieces (data.take n') (h.blk && decide (n' = n)) h.check with
          | none => g.1
          | some (s1, bad) =>
            let r1 := if bad then r.fail (r.frags o n) else r
            let r2 := { r1 with got := r1.got ++ [(o, n)] }
            let s2 := s1.putReq r2
            if r2.sent = (r2.packets (s.conn c).pmtu).length ∧ (List.range r2.sent).all (fun j => r2.segDone j) then (s2.reqEnd r2).connSettle c else s2

/-- READ_RESP packets of one segment on an encrypted connection, in order from the F packet. -/
def respChain (l : List HeldPkt) : Nat → Nat → List HeldPkt
  | 0, _ => []
  | k + 1, o => match l.find? (fun h => h.moff == o) with
    | none => []
    | some h => if h.last then [h] else h :: respChain l k (o + (h.body.length - 16))

/-- READ_RESP (R268). On an encrypted connection the segment waits for its tag; its packets follow one another by PSN. -/
def readRespOp (l : Nat) (hw : FtHw) (s : Blk) : Blk :=
  s.ftServe l hw (fun f => f.opc == 5) (fun c f t =>
    let x := t.conn c
    let h := f.pkt x.enc
    if !x.enc then
      if !(crcGood f) then t.count F.FT_CRC_ERR_CNT_COUNT
      else if !(x.psnOk h.psn) then t.dropSeq
      else (t.setConn c ((x.psnMark h.psn).freeResp h.rackOf)).placeResp c h
    else if !(t.reorderRoom h) then t.reorderFull
    else
      -- a segment's packets leave together, in ascending PSN: an F packet begins a new copy
      let mine := x.rheld.filter (fun y => y.dsn == h.dsn && !y.clear)
      let others := x.rheld.filter (fun y => y.dsn ≠ h.dsn || y.clear)
      let mine1 := if h.first then [] else mine
      let moff := mine1.foldl (fun n y => n + (y.body.length - 16)) 0
      let h1 := { h with moff := moff }
      let g := mine1 ++ [h1]
      let t1 := t.setConn c { x with rheld := others ++ g }
      if !(wholeTx g) then (if !(x.psnOk h.psn) then t.dropSeq else if h.last then t.setConn c { x with rheld := others } else t1)
      else match t1.openTx c g with
        | none => (t.setConn c { x with rheld := others }).authFail c
        | some ps =>
          if !(x.psnOk h.psn) then t.dropSeq else
          let x1 := (ps.foldl (fun y p => y.psnMark p.psn) x).freeResp h.rackOf
          let t2 := (t.setConn c { x1 with rheld := others }).countBy F.CIP_RX_BYTES_COUNT 0 (ps.foldl (fun n p => n + p.body.length) 0)
          forL ps (fun p u => u.placeResp c p) t2)

/-- Check the integrity and PSN of a packet that is a transmission of its own, and go on with it in the clear. -/
def Blk.rxSingle (t : Blk) (c : Nat) (f : FtRx) (k : HeldPkt → Blk → Blk) : Blk :=
  let x := t.conn c
  let h := f.pkt x.enc
  if !x.enc then
    if !(crcGood f) then t.count F.FT_CRC_ERR_CNT_COUNT
    else if !(x.psnOk h.psn) then t.dropSeq
    else k h (t.setConn c ((x.psnMark h.psn).freeResp h.rackOf))
  else match t.openTx c [h] with
    | none => t.authFail c
    | some ps =>
      if !(x.psnOk h.psn) then t.dropSeq
      else
        let t1 := (t.setConn c ((x.psnMark h.psn).freeResp h.rackOf)).countBy F.CIP_RX_BYTES_COUNT 0 (ps.foldl (fun n p => n + p.body.length) 0)
        match ps with
        | p :: _ => k p t1
        | [] => t1

/-- The response of an ATOMIC in the clear: OLD is placed at LADDR and the request completes (R268). -/
def Blk.placeOld (s : Blk) (c : Nat) (h : HeldPkt) : Blk :=
  match s.reqOfDsn c h.dsn with
  | none => s
  | some r =>
    if r.wrt ≠ .atomic then s
    else match s.drawerPieces (s.conn c).inst r.laddr 8 .wr with
      | some [(a, _)] =>
        let g := s.engineWrites (s.conn c).inst [(a, 8)]
        if !(s.awake [(a, 8)]) then (s.modConn c (fun x => { x with rheld := x.rheld ++ [h] })).wakePieces [(a, 8)]
        else if !g.2 then g.1
        else ((g.1.memWrite a (toLe 8 (beAt h.body 0 8))).reqEnd r).connSettle c
      | _ => (s.reqEnd r).connSettle c

/-- ATOMIC_RESP (R268). -/
def atomicRespOp (l : Nat) (hw : FtHw) (s : Blk) : Blk :=
  s.ftServe l hw (fun f => f.opc == 7) (fun c f t => t.rxSingle c f (fun h u => u.placeOld c h))

/-- A granule has left FLUSHING, or a region's exit has ended: the packets and responses that waited are placed (R344, R443). -/
def Blk.placeHeld (s : Blk) : Blk :=
  forL s.ft.conns (fun e t =>
    let c := e.1
    let ready := e.2.rheld.filter (fun h => h.clear)
    let t1 := if ready = [] then t else
      forL ready (fun h u => if h.opc = 7 then u.placeOld c h else u.placeResp c h) (t.modConn c (fun x => { x with rheld := x.rheld.filter (fun h => !h.clear) }))
    if e.2.held.any (fun h => h.clear && h.dsn == e.2.cdsn) then (Blk.placeLoop (e.2.held.length + 1) t1 c).settleWins else t1) s

/-! ## Acknowledgements (R280, R282, R284) -/

/-- The SYN of a frame that waits, decrypted where the connection is encrypted. -/
def Blk.synOf (s : Blk) (f : FtRx) : Nat :=
  let x := s.conn f.conn
  let h := f.pkt x.enc
  beAt (if x.enc then gcmCtr (s.connKeys f.conn) (ivOf x.rxSalt h.psn) 2 (h.body.take 48) else h.body) 4 1

/-- What every ACK does: CDSN and SACK, the echo counts, and the requests that CDSN covers (R268, R282, R284). -/
def Blk.takeAck (s : Blk) (c : Nat) (h : HeldPkt) : Blk :=
  let x := s.conn c
  let cd := beAt h.body 0 4
  let adv := dsnSub cd x.ackDsn
  let ok := decide (adv ≤ dsnSub x.txDsn x.ackDsn)
  let sm := leNat (slice h.body 16 32)
  let flow := { x.flow with a := x.flow.a + beAt h.body 6 2, m := x.flow.m + beAt h.body 8 2 }
  if !ok then s.setConn c { x with flow := flow }
  else
    let x1 := { x with flow := flow, ackDsn := cd, timeouts := if adv > 0 then 0 else x.timeouts,
                       rnr := if adv > 0 then none else x.rnr, rnrWait := x.rnrWait && decide (adv = 0),
                       sack := ((List.range 256).filter (fun i => sm.testBit i)).map (fun i => dsnAdd cd (1 + i)) }
    let s1 := s.setConn c x1
    let done := s1.ft.reqs.filter (fun r => r.conn == c && r.started && r.wrt != .read && r.wrt != .atomic &&
      decide (r.sent = (r.packets x.pmtu).length) && !(dsnLt cd (dsnAdd r.dsn r.sent)))
    (forL done (fun r t => t.reqEnd r) s1).connSettle c

/-- Serve an ACK whose SYN is as wanted. -/
def Blk.rxAck (s : Blk) (l : Nat) (hw : FtHw) (want : Nat → Bool) (k : Nat → HeldPkt → Blk → Blk) : Blk :=
  s.ftServe l hw (fun f => f.opc == 8 && want (s.synOf f)) (fun c f t => t.rxSingle c f (fun h u =>
    let v := u.takeAck c h
    if (v.conn c).live then k c h v else v))

/-- The NDSN of an ACK. -/
def HeldPkt.ndsn (h : HeldPkt) : Nat := beAt h.body 12 4

/-- FT_ACK. -/
def ftAckOp (l : Nat) (hw : FtHw) (s : Blk) : Blk := s.rxAck l hw (fun n => n == 0) (fun _ _ t => t)

/-- NAK_SEQ (R280). -/
def nakSeqOp (l : Nat) (hw : FtHw) (s : Blk) : Blk :=
  s.rxAck l hw (fun n => n == 1) (fun c _ t =>
    let x := t.conn c
    let top := x.sack.foldl (fun m d => max m (dsnSub d x.ackDsn)) 0
    let ds := ((List.range top).map (fun i => dsnAdd x.ackDsn i)).filter (fun d => !(x.sack.contains d) && !(x.resent.contains d))
    (t.setConn c { x with resent := [] }).resendDsns c ds)

/-- NAK_BUSY (R280). -/
def nakBusyOp (l : Nat) (hw : FtHw) (s : Blk) : Blk :=
  s.rxAck l hw (fun n => n == 2) (fun c h t =>
    let x := t.conn c
    let n := match x.rnr with
      | some (d, n) => if d = h.ndsn then n + 1 else 1
      | none => 1
    let lim := t.getF F.FT_RETRY_CFG_RNR_LIM
    if lim ≠ 15 ∧ n ≥ max 1 lim then t.connError c .rnrExceeded (t.reqOfDsn c h.ndsn)
    else t.setConn c { x with rnr := some (h.ndsn, n), rnrWait := true })

/-- A fatal NAK (R282). -/
def Blk.rxFatal (s : Blk) (l : Nat) (hw : FtHw) (want : Nat → Bool) (st : Status) : Blk :=
  s.rxAck l hw want (fun c h t => t.connError c st (t.reqOfDsn c h.ndsn))
/-- NAK_ACCESS. -/
def nakAccessOp (l : Nat) (hw : FtHw) (s : Blk) : Blk := s.rxFatal l hw (fun n => n == 3) .remoteAccess
/-- NAK_EXPIRED. -/
def nakExpiredOp (l : Nat) (hw : FtHw) (s : Blk) : Blk := s.rxFatal l hw (fun n => n == 4) .windowExpired
/-- NAK_INVALID, and the reserved values of SYN. -/
def nakInvalidOp (l : Nat) (hw : FtHw) (s : Blk) : Blk := s.rxFatal l hw (fun n => n == 5 || decide (n ≥ 7)) .remoteInvalid

/-- NAK_CHECK (R283): the packet is read again and resent; the second time its fragment has failed. -/
def nakCheckOp (l : Nat) (hw : FtHw) (s : Blk) : Blk :=
  s.rxAck l hw (fun n => n == 6) (fun c h t =>
    match t.reqOfDsn c h.ndsn with
    | none => t
    | some r =>
      let k := dsnSub h.ndsn r.dsn
      let p := (r.packets (t.conn c).pmtu).getD k (0, 0)
      let r1 := if r.naked.contains k then r.fail (r.frags p.1 p.2) else { r with naked := r.naked ++ [k] }
      (t.putReq r1).resendDsn c h.ndsn)

/-! ## The rows of the sequenced packets -/

/-- FT_SEND_PACKET. -/
def ftSendPacketOp (l : Nat) (cm : Bool) (hw : FtHw) (s : Blk) : Blk := s.rxSeq l 1 cm hw
/-- WRITE. -/
def ftWriteOp (l : Nat) (cm : Bool) (hw : FtHw) (s : Blk) : Blk := s.rxSeq l 2 cm hw
/-- WRITE_IMM. -/
def ftWriteImmOp (l : Nat) (cm : Bool) (hw : FtHw) (s : Blk) : Blk := s.rxSeq l 3 cm hw
/-- READ_REQ. -/
def readReqOp (l : Nat) (cm : Bool) (hw : FtHw) (s : Blk) : Blk := s.rxSeq l 4 cm hw
/-- ATOMIC. -/
def ftAtomicOp (l : Nat) (cm : Bool) (hw : FtHw) (s : Blk) : Blk := s.rxSeq l 6 cm hw

end Sys2Proof.Machine
end

