-- ==== Sys2Proof/Machine/FtCmd.lean ====
section
/-! DEFINITION. The commands of Fyrrarel Transport, and its send and receive entries (R263 to R267, R270, R272, R274, R277). -/

namespace Sys2Proof.Machine

/-! ## Connections (R263, R264) -/

/-- Connections of an instance that are not FREE, and windows of it in use. -/
def Blk.connsOf (s : Blk) (i : Nat) : List Nat := (s.ft.conns.filter (fun c => c.2.st != .free && c.2.inst == i)).map (fun c => c.1)
def Blk.winsOf (s : Blk) (i : Nat) : List Nat := (s.ft.wins.filter (fun w => w.2.v && w.2.inst == i)).map (fun w => w.1)

/-- FT_CONN_ALLOC: `n` is the connection that Tutoby picks among the FREE ones, where it needs one. -/
def ftConnAllocOp (n : Nat) (s : Blk) : Blk :=
  s.withCmd 0x40 (fun c p t =>
    let x := t.inst c.inst
    let q := fun (k : Nat) => x.qBase + fieldAt p (2 * k) 2
    let ty := fun (k e : Nat) => decide (fieldAt p (2 * k) 2 < x.qCount) && decide (t.getF F.QCFG_TYPE (q k) = e)
    if !(ty 0 qtFtSend && ty 1 qtFtRecv && ty 2 qtCpl && ty 3 qtCpl) ∨ (t.connOfSq (q 0)).isSome ∨ (t.connOfRq (q 1)).isSome then t.reply c .badDesc []
    else if (t.connsOf c.inst).length ≥ x.nConn ∨ (t.ft.conns.filter (fun y => y.2.st != .free)).length ≥ 65536 then t.reply c .noResource []
    else if n ≥ 65536 ∨ (t.conn n).st ≠ .free then s
    else
      let k : Conn := { st := .init, inst := c.inst, gen := x.gen, sq := q 0, rq := q 1, scq := q 2, rcq := q 3 }
      (t.setConn n k).reply c .ok [n])

/-- A logical port's rate in units of 0.25 GB/s (R290). -/
def Blk.lpRate (s : Blk) (l : Nat) : Nat := 8 / s.nLps (l / 8) * (if s.flag F.PORT_CFG_LRATE (l / 8) then 50 else 100)

/-- FT_CONN_CONNECT (R263, R264, R286, R323, R324, R330): the context of a pinned connection enters the cache at once where it has room, and is
fetched into it, in the place of another, where it is full. -/
def ftConnConnectOp (s : Blk) : Blk :=
  s.withCmd 0x41 (fun c p t =>
    let n := fieldAt p 0 2
    let x := t.conn n
    let ins := t.inst c.inst
    let dev := fieldAt p 2 2
    let b7 := fieldAt p 7 1
    let enc := b7.testBit 3
    let pin := b7.testBit 4
    let sl := ins.sBase + fieldAt p 10 2
    let rc := fieldAt p 30 2
    let rl := fieldAt p 28 2
    if x.st ≠ .init ∨ x.inst ≠ c.inst ∨ dev ≥ 4096 ∨ !(t.flag F.DEVRT_V dev) ∨ fieldAt p 6 1 > 2 ∨ b7 ≥ 32 ∨ fieldAt p 8 1 ≥ 64 ∨ fieldAt p 9 1 ≠ 0 ∨
        (rc ≠ 0xFFFF ∧ rc ≥ ins.cCount) ∨
        (enc ∧ (fieldAt p 10 2 ≥ ins.sCount ∨ (t.slot sl).st ≠ .loaded ∨ fieldAt p 20 4 = fieldAt p 24 4 ∨ t.hutch.selfFail)) then t.reply c .badDesc []
    else if pin ∧ (t.ft.conns.filter (fun k => k.2.pin && k.2.st != .free)).length ≥ min 8192 (t.getF F.FT_CFG_PIN_MAX) then t.reply c .noResource []
    else
      let l := t.getF F.DEVRT_LPORT dev
      let mx := if rl = 0 then t.lpRate l else rl
      let dsn := fieldAt p 12 4
      let y : Conn := { x with st := .rts, peerDev := dev, peerConn := fieldAt p 4 2, ip := beNat (slice p 32 16), pmtu := 1024 * 2 ^ fieldAt p 6 1,
                               tc := b7 % 8, dscp := fieldAt p 8 1, enc := enc, slot := if enc then sl else 0, txSalt := fieldAt p 20 4,
                               rxSalt := fieldAt p 24 4, rxCnt := if rc = 0xFFFF then none else some rc, pin := pin, lport := l, txDsn := dsn,
                               ackDsn := dsn, cdsn := fieldAt p 16 4, flow := { rate := mx * 65536, alpha := 2 ^ 32 }, rlMax := mx }
      let t1 := t.setConn n y
      let t2 := if enc then t1.setSlot sl { t.slot sl with st := .bound, conn := n } else t1
      let t3 := if !pin ∨ t.ft.cache.contains n then t2
        else if t.ft.cache.length < 8192 then { t2 with ft := { t2.ft with cache := t2.ft.cache ++ [n] } }
        else t2.fetchCtx n
      t3.reply c .ok [])

/-- FT_CONN_CLOSE (R263; DESIGN CHOICE, log entry 68). -/
def ftConnCloseOp (s : Blk) : Blk :=
  s.withCmd 0x42 (fun c p t =>
    let n := fieldAt p 0 2
    let x := t.conn n
    if x.inst ≠ c.inst then t.reply c .badDesc []
    else match x.st with
      | .init => (t.setConn n { x with closing := [c] }).connFree n
      | .rts => (t.setConn n { x with st := .drain, closing := [c] }).connSettle n
      | .drain => t.setConn n { x with closing := x.closing ++ [c] }
      | _ => t.reply c .badDesc [])

/-- FT_CONN_RESET (R263). -/
def ftConnResetOp (s : Blk) : Blk :=
  s.withCmd 0x43 (fun c p t =>
    let n := fieldAt p 0 2
    if (t.conn n).inst ≠ c.inst ∨ (t.conn n).st ≠ .error then t.reply c .badDesc [] else (t.connFree n).reply c .ok [])

/-- FT_DRAIN_TIMEOUT (R263). -/
def ftDrainTimeoutOp (n : Nat) (s : Blk) : Blk := if (s.conn n).st = .drain then s.connError n .flushed none else s

/-! ## Windows (R274, R277) -/

/-- Every byte of [a, a + n) lies in drawers of the instance with a right: `none` asks for none. -/
def Blk.drawersOk (s : Blk) (i a n : Nat) (acc : Option Access) : Bool :=
  decide (a + n ≤ 0x08_0000_0000) &&
    (n == 0 || (List.range ((a + n - 1) / 2 ^ 29 + 1 - a / 2 ^ 29)).all (fun k =>
      let e := tblGet 0 (a / 2 ^ 29 + k) (s.inst i).map
      match acc with
      | some r => entryAllows e r
      | none => e.testBit 8))

/-- FT_WIN_OPEN: `n` is the index that Tutoby picks among the free ones, where it needs one (DESIGN CHOICE, log entry 54). The window becomes
usable as the reply is written (R274). -/
def ftWinOpenOp (n : Nat) (s : Blk) : Blk :=
  s.withCmd 0x44 (fun c p t =>
    let base := fieldAt p 0 8
    let len := fieldAt p 8 8
    let b := fieldAt p 16 1
    let cnt := fieldAt p 18 2
    let ok := fun (k : Nat) (a : Access) => !b.testBit k || t.drawersOk c.inst base len (some a)
    if b ≥ 32 ∨ fieldAt p 17 1 ≠ 0 ∨ fieldAt p 22 2 ≠ 0 ∨ len = 0 ∨ len > 2 ^ 35 ∨ base ≥ 2 ^ 40 ∨ !(t.drawersOk c.inst base len none) ∨ !(ok 0 .rd) ∨ !(ok 1 .wr) ∨
        !(ok 2 .rw) ∨ cnt ≥ (t.inst c.inst).cCount then t.reply c .badDesc []
    else if (t.winsOf c.inst).length ≥ (t.inst c.inst).nWin ∨ (t.ft.wins.filter (fun w => w.2.v)).length ≥ 2 ^ 20 then t.reply c .noResource []
    else if n ≥ 2 ^ 20 ∨ (t.win n).v then s
    else
      let life := fieldAt p 24 8
      let key := ((t.win n).key + 1) % 4096
      let w : Win := { v := true, key := key, inst := c.inst, base := base, len := len, rights := b % 8,
                       expiry := if life = 0 then 2 ^ 64 - 1 else (t.time.beat + life) % 2 ^ 64, cntEn := b.testBit 3, cnt := cnt, bind := b.testBit 4,
                       bconn := fieldAt p 20 2, opening := some c }
      (t.setWin n w).reply c .ok [key * 2 ^ 20 + n])

/-- FT_WIN_REVOKE (R277): at once; the reply waits for the fence. -/
def ftWinRevokeOp (s : Blk) : Blk :=
  s.withCmd 0x45 (fun c p t =>
    let tag := fieldAt p 0 4
    let n := tag % 2 ^ 20
    let w := t.win n
    if !w.v ∨ w.inst ≠ c.inst ∨ w.key ≠ tag / 2 ^ 20 ∨ w.revoked.isSome then t.reply c .badDesc []
    else t.setWin n { w with revoked := some c })

/-- FT_WIN_REVOKE_DONE (R277): every access classified against the entry has been performed. -/
def ftWinRevokeDoneOp (n : Nat) (s : Blk) : Blk :=
  let w := s.win n
  match w.revoked with
  | some c => if s.winHeld n then s else (s.setWin n { w with v := false, revoked := none, expired := false }).reply c .ok []
  | none => s

/-! ## Requests and receive entries (R265 to R267, R270, R272) -/

/-- The type of a work request by its code. -/
def wrtOf (n : Nat) : Option Wrt :=
  match n with
  | 1 => some .send
  | 2 => some .write
  | 3 => some .writeImm
  | 4 => some .read
  | 5 => some .atomic
  | _ => none

/-- Bytes [63:8] of a send entry as a request; none where R266 refuses it (DESIGN CHOICE, log entry 66). -/
def Blk.parseSend (s : Blk) (q : Nat) (e : QEntry) : Option WReq :=
  let d := e.data
  let cn := fieldAt d 8 2
  let x := s.conn cn
  let w := fieldAt d 10 1
  let fl := fieldAt d 11 1
  match wrtOf (w % 16) with
  | none => none
  | some wrt =>
    let armed := fl.testBit 4
    let tc := fieldAt d 52 2
    let atomic := decide (wrt = .atomic)
    let r : WReq := { q := q, idx := e.idx, conn := cn, gen := e.gen, wrt := wrt, casop := w.testBit 4, pad := fl % 16,
                      armed := if armed then some (tc, fieldAt d 54 4) else none, sig := fl.testBit 5, len := fieldAt d 12 4, laddr := fieldAt d 16 8,
                      wtag := fieldAt d 24 4, roff := fieldAt d 28 8, opnd := fieldAt d 36 8, aux := fieldAt d 44 8 }
    let right : Access := if wrt = .read ∨ atomic then .wr else .rd
    let big := !atomic && decide (r.nfrag > 64)
    if w ≥ 32 ∨ (w.testBit 4 ∧ !atomic) ∨ fl ≥ 64 ∨ r.laddr ≥ 2 ^ 40 ∨ !(allZero (slice d 58 6)) ∨ r.len > 2 ^ 31 ∨
        (wrt = .send ∧ (r.wtag ≠ 0 ∨ r.roff ≠ 0)) ∨ (r.opnd ≠ 0 ∧ (wrt = .send ∨ wrt = .write ∨ wrt = .read)) ∨ (wrt = .writeImm ∧ r.opnd ≥ 2 ^ 32) ∨
        (!armed ∧ (tc ≠ 0 ∨ fieldAt d 54 4 ≠ 0)) then none
    else if x.st = .free ∨ x.sq ≠ q then none
    else if r.len = 0 ∧ wrt ≠ .write ∧ wrt ≠ .writeImm then none
    else if !(s.drawersOk x.inst r.laddr r.len (some right)) then none
    else if atomic ∧ (r.laddr % 8 ≠ 0 ∨ r.roff % 8 ≠ 0 ∨ r.len ≠ 8) then none
    else if x.enc ∧ (r.len % 16 ≠ 0 ∨ r.len > 65536 ∨ r.pad > r.len) then none
    else if !x.enc ∧ r.pad ≠ 0 then none
    else if big ∧ (r.aux = 0 ∨ !(s.maskOk x.inst r.aux r.nfrag)) then none
    else if armed ∧ tc ≥ (s.inst x.inst).cCount then none
    else some r

/-- The first entry of a queue that has not been checked. -/
def Blk.nextUnchecked (s : Blk) (q : Nat) : Option QEntry := (s.queue q).entries.find? (fun e => !e.checked && !e.completed)

/-- A send entry ends without becoming a request. -/
def Blk.sendEnds (s : Blk) (q : Nat) (e : QEntry) (st : Status) : Blk :=
  match s.connOfSq q with
  | some c => s.finishEntry q e.idx (s.conn c).scq 3 st (s.conn c).inst e.gen (toLe 2 (fieldAt e.data 8 2))
  | none => s.completeEntry q e.idx

/-- The entry of a send queue's connection has ended: the connection may be drained. -/
def Blk.settleSq (s : Blk) (q : Nat) : Blk :=
  match s.connOfSq q with
  | some c => s.connSettle c
  | none => s

/-- FT_SEND (R266): the next fetched entry of a send queue is checked and queued, or refused. -/
def ftSendOp (q : Nat) (s : Blk) : Blk :=
  if s.getF F.QCFG_TYPE q ≠ qtFtSend then s
  else match s.nextUnchecked q with
    | none => s
    | some e =>
      if (s.queue q).cancels.contains e.idx then
        ((s.modQueue q (fun x => { x with cancels := x.cancels.filter (fun k => k ≠ e.idx) })).sendEnds q e .cancelled).settleSq q
      else match s.parseSend q e with
      | none => (s.sendEnds q e .badDesc).settleSq q
      | some r =>
        if (s.conn r.conn).st = .error then s.sendEnds q e .flushed
        else
          let s1 := s.markChecked q e.idx
          { s1 with ft := { s1.ft with reqs := s1.ft.reqs ++ [r] } }

/-- FT_RECV (R267): the next fetched entry of a receive queue is made available. -/
def ftRecvOp (q : Nat) (s : Blk) : Blk :=
  if s.getF F.QCFG_TYPE q ≠ qtFtRecv then s
  else match s.nextUnchecked q, s.connOfRq q with
    | some e, some c =>
      let x := s.conn c
      let a := fieldAt e.data 16 8
      let n := fieldAt e.data 12 4
      if x.st = .error then s.recvDone c q e.idx .flushed 0 none
      else if !(allZero (slice e.data 8 4)) ∨ !(allZero (slice e.data 24 40)) ∨ !(s.drawersOk x.inst a n (some .wr)) then s.recvDone c q e.idx .badDesc 0 none
      else
        let s1 := s.markChecked q e.idx
        { s1 with ft := { s1.ft with recvs := s1.ft.recvs ++ [(q, e.idx, a, n)] } }
    | _, _ => s

/-- Is ring entry `ix` of a send queue queued and not yet fetched? It lies at or behind the scan, `ring` is what the host holds there, and its
phase bit is that of its lap; it names the connection. -/
def Blk.ringHolds (s : Blk) (q ix conn : Nat) (ring : Option (List Byte)) : Bool :=
  let x := s.queue q
  match ring with
  | none => false
  | some l =>
    let lap := if ix ≥ x.scan then x.lap else !x.lap
    x.st == .active && decide (ix < s.qSize q) && !(x.entries.any (fun e => e.idx == ix)) && (fieldAt l 0 1).testBit 0 == lap &&
      decide (fieldAt l 1 1 = 4) && decide (fieldAt l 8 2 = conn) && !(x.cancels.contains ix)

/-- FT_CANCEL (R272): a request that is still queued in the ring, where `ring` is what the host holds at its entry, is cancelled as it is
fetched (DESIGN CHOICE, log entry 110). -/
def ftCancelOp (ring : Option (List Byte)) (s : Blk) : Blk :=
  s.withCmd 0x46 (fun c p t =>
    let cn := fieldAt p 0 2
    let ix := fieldAt p 2 2
    let x := t.conn cn
    if x.st = .free ∨ x.inst ≠ c.inst then t.reply c .badDesc []
    else match t.ft.reqs.find? (fun r => r.conn == cn && r.idx == ix) with
      | some r =>
        if r.started then (t.count F.FT_CANCEL_LATE_CNT_COUNT).reply c .tooLate []
        else ((t.reqDone r .cancelled).connSettle cn).reply c .ok []
      | none => match (t.queue x.sq).entries.find? (fun e => e.idx == ix && !e.checked && !e.completed && fieldAt e.data 8 2 == cn) with
        | some e => ((t.sendEnds x.sq e .cancelled).connSettle cn).reply c .ok []
        | none =>
          if t.ringHolds x.sq ix cn ring then (t.modQueue x.sq (fun y => { y with cancels := y.cancels ++ [ix] })).reply c .ok []
          else t.reply c .badDesc [])

/-- FT_CNT_SET (R269). -/
def ftCntSetOp (s : Blk) : Blk :=
  s.withCmd 0x47 (fun c p t =>
    let n := fieldAt p 0 2
    if fieldAt p 2 2 ≠ 0 ∨ n ≥ (t.inst c.inst).cCount then t.reply c .badDesc []
    else (t.setF F.FT_RCNT_COUNT ((t.inst c.inst).cBase + n) (fieldAt p 4 4)).reply c .ok [])

/-- An instance is reset or destroyed (R263, R398): its connections return to FREE, its requests end without completions, and its
windows and receive entries go. -/
def Blk.resetFt (s : Blk) (i : Nat) : Blk :=
  let cs := s.connsOf i
  let s1 := { s with ft := { s.ft with reqs := s.ft.reqs.filter (fun r => !(cs.contains r.conn)),
                                       recvs := s.ft.recvs.filter (fun r => !((s.queuesOf i).contains r.1)) } }
  let s2 := forL cs (fun c t => ((t.modConn c (fun x => { x with closing := [] })).connFree c)) s1
  forL (s.winsOf i) (fun n t => t.setWin n { t.win n with v := false, expired := false, revoked := none, opening := none }) s2

end Sys2Proof.Machine
end

