-- ==== Sys2Proof/Machine/CollCmd.lean ====
section
/-! DEFINITION. The commands of collectives, contributions by MXMR, segments from peers and time-outs (R233 to R251). -/

namespace Sys2Proof.Machine

/-! ## COLL_OPEN (R233 to R236, R244) -/

/-- The format and ROP that an operation allows (R232, R242). -/
def collFmtOk (op fmt rop : Nat) : Bool :=
  decide (rop ≤ 2) && decide (fmt < 15) &&
    (if op ≤ 1 then (fmt == 0xD && rop == 0) || fmt == 0xE || fmt == 0 || fmt == 1
     else if op = opBarrier then true else decide (fmt ≠ 0xC) && (decide (fmt ≠ 0xD) || rop == 0))

/-- The number of result tiles that an operation has (R232); an ALLTOALL states its own. -/
def collResOk (op ndev ntile nrtile : Nat) : Bool :=
  match op with
  | 2 => nrtile == ndev * ntile
  | 4 => decide (1 ≤ nrtile)
  | 5 => nrtile == 0
  | _ => nrtile == ntile

/-- AUTO resolved (R244): the algorithm with its T and S, none where it cannot be. -/
def Blk.collAlg (s : Blk) (alg ndev t g bytes : Nat) : Option (Nat × Nat × Nat) :=
  let v := s.getF F.COL_CFG_XOVER
  let xover := if v < 2 ∨ v > 16 then 16 else v
  if alg = 0 then
    if ndev ≤ xover then some (if bytes ≥ s.ringMin then 1 else 2, 0, 0)
    else
      let sg := if ndev ≤ 64 then ndev / 4 else 16
      if ndev % (4 * sg) = 0 then some (3, 4, sg) else none
  else if alg = 3 then (if t = 0 ∨ g = 0 ∨ ndev % (t * g) ≠ 0 then none else some (3, t, g))
  else if ndev ≤ 16 then some (alg, 0, 0) else none

/-- The participant table: device and connection by rank; none where an entry is refused (R234). -/
def Blk.collPtab (s : Blk) (i ndev rank : Nat) (l : List Byte) : Option (List (Nat × Nat)) :=
  let es := (List.range ndev).map (fun k => fieldAt l (4 * k) 4)
  let ok := (es.zip (List.range ndev)).all (fun e =>
    let d := bits e.1 11 0
    let c := bits e.1 31 16
    let x := s.conn c
    decide (bits e.1 15 12 = 0) &&
      (if e.2 = rank then decide (d = s.getF F.DEV_ID_DEVNUM) && decide (c = 0)
       else x.st == .rts && x.inst == i && x.peerDev == d))
  if ok then some (es.map (fun e => (bits e 11 0, bits e 31 16))) else none

/-- The context that a descriptor describes; none where R234 refuses it. -/
def Blk.parseCtx (s : Blk) (i : Nat) (l pt : List Byte) : Option Ctx :=
  let ins := s.inst i
  let op := fieldAt l 2 1
  let fmt := fieldAt l 3 1 % 16
  let rop := fieldAt l 3 1 / 16
  let we := sext 16 (fieldAt l 4 2)
  let alg := fieldAt l 6 1
  let fl := fieldAt l 7 1
  let ndev := fieldAt l 12 2
  let rank := fieldAt l 14 2
  let root := fieldAt l 16 2
  let t := fieldAt l 18 1
  let g := fieldAt l 19 1
  let ncont := fieldAt l 20 1
  let nbufR := fieldAt l 21 1
  let cq := fieldAt l 22 2
  let nt := fieldAt l 24 4
  let nr := fieldAt l 28 4
  let tmo := fieldAt l 34 2
  let rtab := fieldAt l 48 8
  let stab := fieldAt l 56 8
  let idx := fieldAt l 64 8
  let mask := fieldAt l 72 8
  let mcg := fieldAt l 80 1
  let host := !(s.collImplicit i)
  let mc := fl.testBit 1
  let bytes := nt * tileSize ((Fmt.ofCode fmt).getD .bf16)
  let shape := decide (op ≤ 5) && collFmtOk op fmt rop && decide (-512 ≤ we) && decide (we ≤ 511) && (fmt == 0xD || we == 0) &&
    decide (alg ≤ 3) && decide (fl < 4) && decide (1 ≤ ndev) && decide (ndev ≤ 4096) && decide (rank < ndev) &&
    (if op = opBroadcast then decide (root < ndev) else root == 0) && (alg == 3 || (t == 0 && g == 0)) &&
    decide (1 ≤ ncont) && (!host || ncont == 1) && (nbufR == 1 || nbufR == 2) && decide (nt ≤ 2 ^ 20) && (op == opBarrier || decide (1 ≤ nt)) &&
    collResOk op ndev nt nr && decide (fieldAt l 36 4 % 64 = 0) && allZero (slice l 81 47) && (mc || mcg == 0) && decide (rtab % 8 = 0)
  let places := decide (cq < ins.qCount) && decide (s.getF F.QCFG_TYPE (ins.qBase + cq) = qtCpl) &&
    s.drawersOk i rtab (8 * nr) (some .rd) &&
    (if host then op == opBarrier || (op == opBroadcast && rank != root) || s.drawersOk i stab (8 * nt) (some .rd) else stab == 0) &&
    (if op = opAlltoall then s.drawersOk i idx (64 * nt) (some .rd) else idx == 0) &&
    (if nr ≤ 64 then mask == 0 else mask != 0 && s.maskOk i mask nr)
  match s.collAlg alg ndev t g bytes, s.collPtab i ndev rank pt with
  | some (a, t', g'), some tab =>
    let group := !mc || ((op == opBroadcast || op == opBarrier) && s.flag F.FAB_CTRL_CTRL_INST_V && s.getF F.FAB_CTRL_CTRL_INST == i &&
      (s.groupDevs mcg).all (fun d => tab.any (fun e => e.1 == d)))
    if shape && places && group then
      some { st := 1, inst := i, gen := ins.gen, op := op, fmt := fmt, rop := rop, we := we, alg := a, flags := fl, gctx := fieldAt l 8 4,
             ndev := ndev, rank := rank, root := root, t := t', s := g', ncont := ncont, nbufR := nbufR, cq := cq, ntile := nt, nrtile := nr,
             cgroup := fieldAt l 32 2, timeout := if tmo = 0 then 1000 else tmo, rstride := fieldAt l 36 4, rtab := rtab, stab := stab,
             idx := idx, maskAddr := mask, mcgrp := mcg, ptab := tab }
    else none
  | _, _ => none

/-- Staging blocks that no context has reserved (R236). -/
def Blk.freeStaging (s : Blk) : List Nat :=
  (List.range 16384).filter (fun b => !(s.ctxs.any (fun c => c.2.st != 0 && c.2.blocks.contains b)))

/-- The blocks that a context reserves (R236). -/
def Ctx.reserve (x : Ctx) (host : Bool) : Nat :=
  let b := (x.tileBytes + 4095) / 4096
  if x.op = opBarrier then 1 else if host then 2 * x.ntile * b else x.nbufR * x.ntile * (x.ncont + 2) * b

/-- Reserved staging blocks start as zeros (DESIGN CHOICE, log entry 26). -/
def Blk.clearBlocks (s : Blk) (l : List Nat) : Blk := forL l (fun b t => { t with mem := t.mem.zeroise (stagingBase + b * 4096) 4096 }) s

/-- COLL_OPEN: `desc` and `ptab` are what the host returned for the descriptor and the participant table, none where it
refused. -/
def collOpenOp (desc ptab : Option (List Byte)) (s : Blk) : Blk :=
  s.withCmd 0x30 (fun c _ t =>
    match desc with
    | none => t.reply c .hostFault []
    | some l =>
      let n := fieldAt l 0 2
      match ptab with
      | none => t.reply c .hostFault []
      | some pt =>
        match t.parseCtx c.inst (slice l 0 128) pt with
        | none => t.reply c .badDesc []
        | some x =>
          if n ≥ 1024 then t.reply c .badDesc []
          else
            let k := x.reserve (!(t.collImplicit c.inst))
            let free := t.freeStaging
            if (t.ctx n).st ≠ 0 ∨ free.length < k ∨ (t.ctxsOf c.inst).length ≥ (t.inst c.inst).nColl then t.reply c .noResource []
            else (((t.clearBlocks (free.take k)).setCtx n { x with blocks := free.take k }).reply c .ok []).collRun n)

/-! ## COLL_RUN, COLL_CLOSE, COLL_MODE (R233, R237, R238) -/

/-- The context of a command: open for its instance. -/
def Blk.openFor (s : Blk) (n i : Nat) : Bool := decide (n < 1024) && (s.ctx n).st == 1 && (s.ctx n).inst == i

/-- COLL_RUN. -/
def collRunOp (s : Blk) : Blk :=
  s.withCmd 0x31 (fun c p t =>
    let n := fieldAt p 0 2
    if t.collImplicit c.inst || !(t.openFor n c.inst) then t.reply c .badDesc []
    else
      let r := (t.ctx n).runs
      ((t.modCtx n (fun x => { x with runs := r + 1 })).modRound n r (fun q => { q with asked := true })).reply c .ok [])

/-- COLL_CLOSE: it replies when the slot is FREE. -/
def collCloseOp (s : Blk) : Blk :=
  s.withCmd 0x32 (fun c p t =>
    let n := fieldAt p 0 2
    if !(t.openFor n c.inst) then t.reply c .badDesc []
    else (t.modCtx n (fun x => { x with st := 2, closing := some c })).settleCtx n)

/-- COLL_MODE_WRITE: COLI_CFG of instance `i`. -/
def collModeWriteOp (i : Nat) (v : BitVec 32) (s : Blk) : Blk :=
  if i ≥ 64 ∨ s.ctxsOf i ≠ [] then s else s.setF F.COLI_CFG_COLL_MODE i (v.toNat % 2)

/-- Whole blocks among the pieces of a source carry their checks, which staging verifies (R154, R155). -/
def Blk.checksFail (s : Blk) (ps : List (Nat × Nat)) : Bool :=
  ps.any (fun p => p.2 == 4096 && !(s.mem.poisoned p.1) && decide (s.mem.check p.1 ≠ checkOfCrc (crc32c (s.mem.bytes p.1 4096))))

/-- A source tile of HOST mode (R235), which is staged: it fails where its address, a block or a word of it is bad. -/
def Blk.sourceTile (s : Blk) (x : Ctx) (t : Nat) : Blk × CTile :=
  let lost : CTile := { data := [], bad := true }
  match s.drawerRange x.inst (x.stab + 8 * t) 8 .rd with
  | none => (s, lost)
  | some d =>
    let a := fieldAt (s.mem.bytes d 8) 0 8
    if s.mem.uncorrIn d 8 then (s.readCheck d 8, lost)
    else if a % 64 ≠ 0 ∨ a ≥ 2 ^ 40 then (s, lost)
    else match s.movePieces x.inst a 0 x.tileLen .rd with
      | none => (s, lost)
      | some ps =>
        let r := s.readPieces ps
        (r.1, { data := r.2.1, bad := r.2.2 || s.checksFail ps })

/-- The drawer ranges of source tile `t`. -/
def Blk.tilePieces (s : Blk) (x : Ctx) (t : Nat) : List (Nat × Nat) :=
  match s.drawerRange x.inst (x.stab + 8 * t) 8 .rd with
  | none => []
  | some d =>
    let a := fieldAt (s.mem.bytes d 8) 0 8
    (d, 8) :: (if s.mem.uncorrIn d 8 ∨ a % 64 ≠ 0 ∨ a ≥ 2 ^ 40 then [] else (s.movePieces x.inst a 0 x.tileLen .rd).getD [])

/-- Read source tile `t` of a round and stage it. -/
def Blk.stageSource (s : Blk) (x : Ctx) (r t : Nat) : Blk × CTile :=
  let k := s.sourceTile x t
  (k.1.stagePut (x.stageDpas false r t 0) k.2, k.2)

/-- What goes wrong in the hub for a round, as the environment tells: each failing residue check is a fault of the collective engine, and a sum
that fails again fails its tile (R415). -/
def Blk.markHw (s : Blk) (n r : Nat) (w : CollHw) : Blk :=
  if w = {} then s
  else (forL w.residue (fun e t => (whenD e.2 (fun u => u.hubFault 1) (t.hubFault 1))) s).modRound n r (fun q =>
    { q with corrupt := q.corrupt ++ w.corrupt, badSums := q.badSums ++ (w.residue.filter (fun e => e.2)).map (fun e => e.1) })

/-- COLL_ROUND_START (R238): the next asked round of a HOST context starts when earlier rounds allow it, reads its source tiles
and closes its local part. While the hub's flows have no tokens it waits (R189); where a read is discarded the round never starts (R181). -/
def collRoundStartOp (n : Nat) (hw : CollHw) (s : Blk) : Blk :=
  let x := s.ctx n
  match (List.range x.nbufR).find? (fun j => let q := x.round (x.rnd + j)
      q.asked && !q.closed) with
  | none => s
  | some j =>
    let r := x.rnd + j
    let tiles := List.range (if x.op = opBarrier then 0 else x.nlocal)
    let ps := tiles.flatMap (fun t => s.tilePieces x t)
    let g := s.engineReads x.inst ps
    if x.st = 0 ∨ (x.round r).unread ∨ !(s.engineTokens 0 ps) then s
    else if s.power.dev = 3 ∨ !(s.awake ps) then s.wakeDevice.wakePieces ps
    else if !g.2 then g.1.modRound n r (fun q => { q with unread := true })
    else
      let res := tiles.foldl (fun (acc : Blk × List CTile) t =>
        let k := acc.1.stageSource x r t
        (k.1, acc.2 ++ [k.2])) (g.1.markHw n r hw, [])
      (res.1.closeLocal n r res.2).collRun n

/-! ## Contributions by MXMR (R239, R240) -/

/-- Stage one contribution: it replaces an earlier one of its position, or sets EXTRA when the tile has NCONT others. -/
def Blk.stageContrib (s : Blk) (n r : Nat) (k : Contrib) (data : List Byte) : Blk :=
  let x := s.ctx n
  let q := x.round r
  let same := fun (c : Contrib) => c.tile == k.tile && c.pos == k.pos
  let others := q.contribs.filter (fun c => c.tile == k.tile)
  let put := fun (j : Nat) => if x.op = opBarrier then s else s.stagePut (x.stageDpas true r k.tile j) { data := data }
  match q.contribs.find? same with
  | some old =>
    let s1 := (put old.slot).modRound n r (fun q => { q with begun := true, contribs := q.contribs.filter (fun c => !(same c)) ++ [{ k with slot := old.slot }] })
    if old.ser = k.ser then s1.count F.DUP_CONTRIB_CNT_COUNT else s1
  | none =>
    if others.length ≥ x.ncont then s.modRound n r (fun q => { q with begun := true, flags := q.flags ||| 32 })
    else
      let j := ((List.range x.ncont).find? (fun j => !(others.any (fun c => c.slot == j)))).getD 0
      (put j).modRound n r (fun q => { q with begun := true, contribs := q.contribs ++ [{ k with slot := j }] })

/-- The round of a delivery: the step index of its thread's step. -/
def Blk.delivRound (s : Blk) (d : Deliv) : Nat := ((tblFind d.step s.steps).map (fun x => x.k)).getD 0

/-- MXMR_STAGED (R115, R239): the collective engine takes the oldest contribution of a position whose round is not ahead of
those that its context accepts; its MXMR finishes. The open rounds of a CLOSING context go on (R233). -/
def mxmrStagedOp (pos : Pos) (hw : CollHw) (s : Blk) : Blk :=
  let p := pos.toNat
  let ready := fun (d : Deliv) => match d.coll with
    | none => false
    | some (n, _, _) => let x := s.ctx n
        x.st == 0 || decide (s.delivRound d < x.rnd + x.nbufR)
  match (s.core p).deliv.find? ready with
  | none => s
  | some d =>
    match d.coll with
    | none => s
    | some (n, tile, data) =>
      let s1 := s.modCore p (fun c => { c with deliv := c.deliv.filter (fun e => e.id ≠ d.id) })
      let x := s.ctx n
      let r := s.delivRound d
      if x.st = 0 ∨ s.instOfPos p ≠ some x.inst ∨ r < x.rnd ∨ (x.round r).closed then s1.count F.LATE_CONTRIB_CNT_COUNT
      else (s1.stageContrib n r { pos := p, tile := tile, step := d.step, ser := (s.core p).sser.toNat, slot := 0, final := false } data).markHw
        n r hw

/-! ## Time-outs (R241, R251) -/

/-- COLL_LOCAL_CLOSE_TIMEOUT: TIMEOUT_US have passed since the first contribution of round `r`. -/
def collLocalCloseTimeoutOp (n r : Nat) (hw : CollHw) (s : Blk) : Blk :=
  let x := s.ctx n
  let q := x.round r
  if x.st = 0 ∨ !(s.collImplicit x.inst) ∨ x.cgroup ≠ 0 ∨ !(x.isOpen r) ∨ q.closed ∨ !q.begun then s
  else ((s.markHw n r hw).closeContribs n r).collRun n

/-- COLL_ROUND_TIMEOUT: TIMEOUT_US have passed since the local close of round `r`. -/
def collRoundTimeoutOp (n r : Nat) (s : Blk) : Blk := s.roundTimeout n r

/-! ## Segments from peers (R246, R247) -/

/-- The context that a segment belongs to, and its round. -/
def Blk.segCtx (s : Blk) (h : List Byte) : Option Nat :=
  (List.range 1024).find? (fun n => (s.ctx n).st != 0 && decide ((s.ctx n).gctx = fieldAt h 0 4))

/-- A segment is judged: dropped and counted, or given to its round (DESIGN CHOICE, log entry 58). -/
def Blk.segment (s : Blk) (h : List Byte) (kind : Nat) (hw : CollHw) (f : Ctx → CRound → CRound) : Blk :=
  match s.segCtx h with
  | none => s.count F.PEER_DROP_CNT_COUNT
  | some n =>
    let x := s.ctx n
    let d := (fieldAt h 4 4 + 2 ^ 32 - x.rnd % 2 ^ 32) % 2 ^ 32
    let src := fieldAt h 10 2
    let step := fieldAt h 8 1
    let expected := if x.op = opAlltoall then decide (src < x.ndev) && decide (src ≠ x.rank) && decide (step = 0)
      else (x.steps s.ringMin).any (fun st => decide (st.step % 256 = step) && (match st.recv with
        | some (q, _, _) => q == src
        | none => false))
    if d ≥ 2 ^ 31 then
      (if x.timedOut.any (fun r => r % 2 ^ 32 == fieldAt h 4 4) then s.count F.LATE_CONTRIB_CNT_COUNT else s.count F.PEER_DROP_CNT_COUNT)
    else if d ≥ x.nbufR ∨ fieldAt h 9 1 ≠ kind ∨ !expected then s.count F.PEER_DROP_CNT_COUNT
    else if (x.round (x.rnd + d)).flags.testBit 4 then s.count F.LATE_CONTRIB_CNT_COUNT
    else if (x.round (x.rnd + d)).finished then s.count F.PEER_DROP_CNT_COUNT
    else ((s.markHw n (x.rnd + d) hw).modRound n (x.rnd + d) (f x)).collRun n

/-- COLL_SEGMENT_DATA: the header and the tiles (or, for ALLTOALL, the rows, each with its slot in front), each with its
poison. -/
def collSegmentDataOp (h : List Byte) (items : List (List Byte × Bool)) (hw : CollHw) (s : Blk) : Blk :=
  s.segment h 0 hw (fun x q =>
    if x.op = opAlltoall then
      items.foldl (fun q e => x.putRow q (fieldAt e.1 0 4) { data := slice e.1 4 x.rowLen, bad := e.2 }) q
    else { q with inbox := q.inbox ++ [{ step := fieldAt h 8 1, kind := 0, src := fieldAt h 10 2, first := fieldAt h 12 3,
                                         tiles := items.map (fun e => { data := slice e.1 0 x.tileLen, bad := e.2 }) }] })

/-- COLL_SEGMENT_END. -/
def collSegmentEndOp (h : List Byte) (hw : CollHw) (s : Blk) : Blk :=
  s.segment h 1 hw (fun _ q => { q with ends := q.ends ++ [fieldAt h 10 2] })

/-- COLL_SEGMENT_ARRIVE. -/
def collSegmentArriveOp (h : List Byte) (s : Blk) : Blk :=
  s.segment h 2 {} (fun _ q => { q with inbox := q.inbox ++ [{ step := fieldAt h 8 1, kind := 2, src := fieldAt h 10 2, first := 0, tiles := [] }] })

/-! ## Reset of an instance (R233) -/

/-- Rounds in ascending order (R252). -/
def insertRound (q : Nat × CRound) : List (Nat × CRound) → List (Nat × CRound)
  | [] => [q]
  | p :: t => if q.1 ≤ p.1 then q :: p :: t else p :: insertRound q t

/-- An instance's reset or destruction ends its open rounds ABORTED and frees its contexts. -/
def Blk.resetColl (s : Blk) (i : Nat) : Blk :=
  let aborted := (s.ctxsOf i).any (fun n => (s.ctx n).rounds.any (fun q => (s.ctx n).busy q.2))
  let s1 := forL (s.ctxsOf i) (fun n t =>
    let x := t.ctx n
    let t1 := forL ((x.rounds.filter (fun q => x.busy q.2)).foldr insertRound []) (fun q u =>
      ((u.count F.COLC_PARTIAL_COUNT n).writeMask x.inst x.maskAddr x.nrtile q.2.failed).collCpl n q.1 x q.2 .aborted) t
    { t1 with ctxs := tblErase n t1.ctxs }) s
  if aborted then s1.event .col 0 2 { inst := i } else s1

end Sys2Proof.Machine
end

