-- ==== Sys2Proof/Machine/Disc.lean ====
section
/-! DEFINITION. Discovery and device numbering (R176, R194 to R196). -/

namespace Sys2Proof.Machine

/-- This device's number and VALID as discovery carries them. -/
def Blk.ownDev (s : Blk) : Nat := s.getF F.DEV_ID_DEVNUM + b2n (s.flag F.DEV_ID_VALID) * 2 ^ 12

/-- A basic packet as one Ethernet frame (R176). -/
def Blk.basicFrame (s : Blk) (l kind vc seq hops : Nat) (payload : List Byte) : List Byte :=
  let h := (if vc = 3 then 1 else 2) + vc * 2 ^ 2 + kind * 2 ^ 4 + seq % 256 * 2 ^ 48 + hops * 2 ^ 56
  toBe 6 0x0180C200000E ++ toBe 6 (s.reg .LP_MAC l).toNat ++ toBe 2 0x88B5 ++ toBe 8 h ++ payload

/-- The logical ports whose link is up. -/
def Blk.upPorts (s : Blk) : List Nat := (List.range 64).filter (fun l => (s.lp l).st == .up)

/-- Send HELLO on every up port (R194). -/
def Blk.sendHello (s : Blk) : Blk :=
  forL s.upPorts (fun l t => t.commitSys l (t.basicFrame l 1 3 0 0 (toBe 8 Config.fabUid.toNat ++ toBe 2 t.ownDev ++ toBe 1 l ++ toBe 13 0))) s

/-- The payload of an LSA: 256 bytes (R170, R194). -/
def Lsa.bytes (a : Lsa) : List Byte :=
  let l := toBe 8 a.uid ++ toBe 2 a.dev ++ toBe 1 a.part ++ toBe 1 a.parts ++ toBe 1 a.nbrs.length ++ toBe 1 a.run ++ toBe 2 0 ++ a.nbrs.flatMap (fun u => toBe 8 u)
  l ++ List.replicate (256 - l.length) 0

/-- Read an LSA; none where its entry count is not valid. -/
def lsaOf (p : List Byte) : Option Lsa :=
  let n := beAt p 12 1
  if n > 30 then none
  else some { uid := beAt p 0 8, dev := beAt p 8 2, run := beAt p 13 1, part := beAt p 10 1, parts := beAt p 11 1,
              nbrs := (List.range n).map (fun k => beAt p (16 + 8 * k) 8) }

/-- Send an LSA on up ports. -/
def Blk.floodLsa (s : Blk) (ports : List Nat) (a : Lsa) (hops : Nat) : Blk :=
  forL ports (fun l t => t.commitSys l (t.basicFrame l 2 2 a.part hops a.bytes)) s

/-- This device's neighbour UIDs. -/
def Blk.neighbours (s : Blk) : List Nat := ((List.range 64).filter (fun l => s.flag F.NBR_INFO_PRESENT l)).map (fun l => (s.reg .NBR_UID l).toNat)

/-- This device's LSAs of the run. -/
def Blk.ownLsas (s : Blk) : List Lsa :=
  let l := s.neighbours
  let n := max 1 ((l.length + 29) / 30)
  (List.range n).map (fun k => { uid := Config.fabUid.toNat, dev := s.ownDev, run := s.disc.run, part := k, parts := n, nbrs := (l.drop (30 * k)).take 30 })

/-- A run starts: no HELLO has arrived in it yet (R199). -/
def Blk.startDisc (s : Blk) : Blk :=
  let s := forN 64 (fun l t => t.setF F.NBR_INFO_PRESENT l 0) s
  { s with disc := { s.disc with busy := true, run := (s.disc.run + 1) % 256, lsas := [] } }

/-- DISC_START: a write of DISC_CTRL (R194, R199). -/
def discStartOp (v : BitVec 32) (s : Blk) : Blk :=
  let s1 := s.setF F.DISC_CTRL_QUIET 0 (v.toNat / 2 ^ 16)
  if v.toNat.testBit 0 then (s1.setF F.DISC_CTRL_START 0 1).startDisc else s1

/-- HELLO_TIMER (R194): HELLO on every up port; with `flood`, Tutoby goes on to phase 2 and sends its neighbour list (DESIGN CHOICE, log entry 71). -/
def helloTimerOp (flood : Bool) (s : Blk) : Blk :=
  if !s.disc.busy then s
  else
    let s1 := s.sendHello
    if flood then
      let mine := s1.ownLsas
      let new := mine.filter (fun a => !(s1.disc.lsas.any (fun b => b.uid == a.uid && b.run == a.run && b.part == a.part)))
      forL new (fun a t => t.floodLsa t.upPorts a 0) { s1 with disc := { s1.disc with lsas := s1.disc.lsas ++ new } }
    else s1

/-- Take the basic packet of a KIND that has waited longest on a logical port. -/
def Blk.takeBasic (s : Blk) (l kind : Nat) : Option (BasicPkt × Blk) :=
  (s.disc.rx.find? (fun x => x.1 == l)).bind (fun x =>
    if x.2.kind = kind then some (x.2, { s with disc := { s.disc with rx := s.disc.rx.erase x } }) else none)

/-- The payload of a partner's HELLO on logical port `l` fills its NBR entry (R194). -/
def Blk.helloIn (s : Blk) (l : Nat) (p : List Byte) : Blk :=
  if s.flag F.NBR_INFO_PRESENT l ∧ (s.reg .NBR_UID l).toNat = beAt p 0 8 then s
  else (s.setReg .NBR_UID l (BitVec.ofNat 64 (beAt p 0 8))).setReg .NBR_INFO l
    (BitVec.ofNat 64 (beAt p 8 2 % 2 ^ 13 + 2 ^ 13 + beAt p 10 1 % 64 * 2 ^ 14))

/-- HELLO (R194): the basic-packet path takes the HELLO that waits on a logical port. -/
def helloOp (l : Nat) (s : Blk) : Blk :=
  match s.takeBasic l 1 with
  | some (p, t) => t.helloIn l p.payload
  | none => s

/-- An LSA is forwarded once; one from a UID outside the set of a finished run starts the run again (R194). -/
def Blk.lsaIn (s : Blk) (l hops : Nat) (p : List Byte) : Blk :=
  match lsaOf p with
    | none => s
    | some a =>
      let known := a.uid = Config.fabUid.toNat ∨ s.disc.lsas.any (fun b => b.uid == a.uid)
      let s0 := if !s.disc.busy ∧ !known then s.startDisc else s
      if a.uid = Config.fabUid.toNat ∨ s0.disc.lsas.any (fun b => b.uid == a.uid && b.run == a.run && b.part == a.part) then s0
      else
        let s1 := { s0 with disc := { s0.disc with lsas := s0.disc.lsas ++ [a] } }
        if hops + 1 > 63 then s1 else s1.floodLsa (s1.upPorts.filter (fun k => k ≠ l)) a (hops + 1)

/-- LSA (R194): the basic-packet path takes the LSA that waits on a logical port. -/
def lsaOp (l : Nat) (s : Blk) : Blk :=
  match s.takeBasic l 2 with
  | some (p, t) => t.lsaIn l p.hops p.payload
  | none => s

/-! ## Assignment (R195) -/

/-- Insert into a list of UIDs in ascending order, once. -/
def insertUid (u : Nat × Nat) : List (Nat × Nat) → List (Nat × Nat)
  | [] => [u]
  | v :: t => if u.1 < v.1 then u :: v :: t else if u.1 = v.1 then v :: t else v :: insertUid u t

/-- The devices of the set with their DEVNUM fields, in ascending UID order. -/
def Blk.discSet (s : Blk) : List (Nat × Nat) :=
  s.disc.lsas.foldl (fun l a => insertUid (a.uid, a.dev) l) [(Config.fabUid.toNat, s.ownDev)]

/-- The devices that keep their persisted numbers: of several with one number, the lowest UID. -/
def keepers : List (Nat × Nat) → List (Nat × Nat) → List (Nat × Nat)
  | [], acc => acc
  | (u, d) :: t, acc =>
    if d.testBit 12 ∧ !(acc.any (fun a => a.2 == d % 4096)) then keepers t (acc ++ [(u, d % 4096)]) else keepers t acc

/-- Give the lowest free numbers to the devices without one, in ascending UID order. -/
def assignFree : List Nat → List Nat → List (Nat × Nat) → List (Nat × Nat)
  | u :: us, n :: ns, acc => assignFree us ns (acc ++ [(u, n)])
  | _, _, acc => acc

/-- The assignment of a set: UID to number. -/
def assignNumbers (set : List (Nat × Nat)) : List (Nat × Nat) :=
  let k := keepers set []
  let rest := (set.map (fun p => p.1)).filter (fun u => !(k.any (fun a => a.1 == u)))
  let free := (List.range 4096).filter (fun n => !(k.any (fun a => a.2 == n)))
  assignFree rest free k

/-- The UIDs one hop from those of a frontier and not seen. -/
def Blk.nbrsOf (s : Blk) (u : Nat) : List Nat := (s.disc.lsas.filter (fun a => a.uid == u)).flatMap (fun a => a.nbrs)

/-- Hops from the frontier to a UID. -/
def Blk.hopsTo (s : Blk) (dst : Nat) : Nat → Nat → List Nat → List Nat → Option Nat
  | 0, _, _, _ => none
  | k + 1, n, seen, front =>
    if front.contains dst then some n
    else
      let next := ((front.flatMap (fun u => s.nbrsOf u)).filter (fun u => !(seen.contains u))).eraseDups
      if next = [] then none else Blk.hopsTo s dst k (n + 1) (seen ++ next) next

/-- The port and hops of the fewest-hop route to a UID, the lowest logical port on a tie. -/
def Blk.bestRoute (s : Blk) (dst : Nat) : Option (Nat × Nat) :=
  let me := Config.fabUid.toNat
  ((List.range 64).filter (fun l => s.flag F.NBR_INFO_PRESENT l)).foldl (fun best l =>
    let u := (s.reg .NBR_UID l).toNat
    match Blk.hopsTo s dst (s.disc.lsas.length + 2) 1 [me, u] [u], best with
    | some h, some (b : Nat × Nat) => if h < b.2 then some (l, h) else some b
    | some h, none => some (l, h)
    | none, b => b) none

/-- DISC_QUIET_EXPIRY (R195): every FR8 of the set computes the same assignment. It ends step 7 of start-up (R455). -/
def discQuietExpiryOp (s : Blk) : Blk :=
  if !s.disc.busy then s
  else
    let set := s.discSet
    let me := Config.fabUid.toNat
    let asg := assignNumbers set
    let lost := s.flag F.DEV_ID_VALID && !((keepers set []).any (fun a => a.1 == me))
    let s1 := whenD lost (fun t => t.event .fab 0 5) s
    let s2 := match asg.find? (fun a => a.1 == me) with
      | some (_, n) =>
        { ((((s1.setF F.DEV_ID_DEVNUM 0 n).setF F.DEV_ID_VALID 0 1).setF F.DEV_ID_ORIGIN 0 2)).setReg .BBR_WORD 1 (BitVec.ofNat 64 (n + 2 ^ 12)) with
          disc := { s1.disc with overflow := false } }
      | none => { (((s1.setF F.DEV_ID_DEVNUM 0 0).setF F.DEV_ID_VALID 0 0).setF F.DEV_ID_ORIGIN 0 0).event .fab 0 6 with
          disc := { s1.disc with overflow := true } }
    let s3 := forL (asg.filter (fun a => a.1 ≠ me)) (fun a t =>
      match t.bestRoute a.1 with
      | some (l, h) => ((t.setF F.DEVRT_LPORT a.2 l).setF F.DEVRT_V a.2 1).setF F.DEVRT_HOPS a.2 h
      | none => t.setF F.DEVRT_V a.2 0) s2
    let s4 := if s.getF F.GLB_STATUS_STAGE = 6 then s3.setF F.GLB_STATUS_STAGE 0 7 else s3
    ({ s4 with disc := { s4.disc with busy := false, finished := true } }.setF F.DISC_CTRL_START 0 0).event .fab 0 4

/-- LINK_UP of a logical port; after discovery it raises DISC_NEWLINK (R195). -/
def portLinkUpOp (l : Nat) (s : Blk) : Blk :=
  let s1 := linkUpOp l s
  if (s.lp l).st = .down ∧ s.disc.finished ∧ !s.disc.busy then s1.event .fab 0 7 else s1

end Sys2Proof.Machine
end

