-- ==== Sys2Proof/Machine/Ecdsa.lean ====
section
/-! DEFINITION. ECDSA over P-384 (R456), as FIPS 186-5 defines it: the verification of a signature. -/

namespace Sys2Proof.Machine

/-- The prime of the field, the order of the base point, the coefficient b and the base point. The coefficient a is -3. -/
def ecP : Nat := 2 ^ 384 - 2 ^ 128 - 2 ^ 96 + 2 ^ 32 - 1
def ecN : Nat := 0xFFFFFFFFFFFFFFFFFFFFFFFFFFFFFFFFFFFFFFFFFFFFFFFFC7634D81F4372DDF581A0DB248B0A77AECEC196ACCC52973
def ecB : Nat := 0xB3312FA7E23EE7E4988E056BE3F82D19181D9C6EFE8141120314088F5013875AC656398D8A2ED19D2A85C8EDD3EC2AEF
def ecGx : Nat := 0xAA87CA22BE8B05378EB1C71EF320AD746E1D3B628BA79B9859F741E082542A385502F25DBF55296C3A545E3872760AB7
def ecGy : Nat := 0x3617DE4A96262C6F5D9E98BF9292DC29F8F41DBD289A147CE9DA3113B5F0B8C00A60B1CE1D7E819D7A431D7C90EA0E5F

/-- `x` to the power `e`, modulo `m`: `k` bits of `e`, the lowest first. -/
def powMod (m : Nat) : Nat → Nat → Nat → Nat → Nat
  | 0, _, _, acc => acc
  | k + 1, x, e, acc => powMod m k (x * x % m) (e / 2) (if e % 2 = 1 then acc * x % m else acc)

/-- The inverse modulo a prime. -/
def invMod (m x : Nat) : Nat := powMod m 384 (x % m) (m - 2) 1
/-- The difference modulo `m` of two residues. -/
def subMod (m a b : Nat) : Nat := (a + m - b % m) % m

/-- A point of the curve; none is the point at infinity. -/
def ecAdd : Option (Nat × Nat) → Option (Nat × Nat) → Option (Nat × Nat)
  | none, q => q
  | p, none => p
  | some (x1, y1), some (x2, y2) =>
    if x1 = x2 ∧ (y1 + y2) % ecP = 0 then none
    else
      let l := if x1 = x2 then subMod ecP (3 * x1 * x1) 3 * invMod ecP (2 * y1) % ecP
        else subMod ecP y2 y1 * invMod ecP (subMod ecP x2 x1) % ecP
      let x3 := subMod ecP (subMod ecP (l * l % ecP) x1) x2
      some (x3, subMod ecP (l * subMod ecP x1 x3 % ecP) y1)

/-- A multiple of a point: `k` bits of the factor, the lowest first. -/
def ecMul : Nat → Nat → Option (Nat × Nat) → Option (Nat × Nat) → Option (Nat × Nat)
  | 0, _, _, acc => acc
  | k + 1, e, p, acc => ecMul k (e / 2) (ecAdd p p) (if e % 2 = 1 then ecAdd acc p else acc)

/-- Is (x, y) a point of the curve? -/
def ecOnCurve (x y : Nat) : Bool := decide (x < ecP) && decide (y < ecP) && decide (y * y % ecP = (subMod ecP (x * x * x % ecP) (3 * x) + ecB) % ecP)

/-- Does (r, s) sign the digest `z` under the public key (x, y)? -/
def ecdsaVerify (x y r s z : Nat) : Bool :=
  if r = 0 ∨ ecN ≤ r ∨ s = 0 ∨ ecN ≤ s ∨ !(ecOnCurve x y) then false
  else
    let w := invMod ecN s
    match ecAdd (ecMul 384 (z * w % ecN) (some (ecGx, ecGy)) none) (ecMul 384 (r * w % ecN) (some (x, y)) none) with
    | some (px, _) => decide (px % ecN = r)
    | none => false

end Sys2Proof.Machine
end

