-- ==== Sys2Proof/Machine/Wake.lean ====
section
/-! DEFINITION. The end of waits for power and for bias: packets and steps that waited proceed (R343, R441 to R444). -/

namespace Sys2Proof.Machine

/-- A stream packet performs by its KIND (R175). -/
def Blk.deliverPkt (s : Blk) (p : StreamPkt) : Blk :=
  match p.kind with
  | 0 => rdArrive p .none s
  | 1 => wrArrive p s
  | 2 => amoArrive p .none s
  | 3 => rdblkArrive p .none s
  | 4 => answerArrive p s
  | 5 => answerArrive p s
  | 6 => dataArrive p s
  | 7 => wblkArrive p s
  | 8 => rblkArrive p s
  | 9 => mbxArrive p s
  | 10 => noteArrive p s
  | 11 => ctrlArrive p s
  | 12 => lkprobeArrive p s
  | _ => lkreplyArrive p s

/-- Packets that waited are judged again in their order: those whose wait has ended perform, the others wait on. -/
def Blk.retryPkts (s : Blk) : Blk := forL s.waitPkts (fun p t => t.deliverPkt p) { s with waitPkts := [] }

/-- Steps that waited for their regions start their threads. -/
def Blk.retrySteps (s : Blk) : Blk :=
  forL ((s.steps.filter (fun p => p.2.waitWake)).map (fun p => p.1)) (fun sid t => t.startThreads sid) s

/-- REGION_WAKE_DONE (R441, R443): a region's exit from PL1 or PL2 ends. In PL3 it ends with the device's. -/
def regionWakeDoneOp (r : BitVec 6) (s : Blk) : Blk :=
  let n := r.toNat
  if s.power.exiting.contains n ∧ s.power.dev = 0 then
    let s1 := { s.setF F.REG_PWR_LEVEL n 0 with power := { s.power with exiting := s.power.exiting.filter (fun x => x ≠ n) } }
    s1.retryPkts.retrySteps
  else s

/-- PL3_EXIT (R441, R444): the regions that PL3 retained are at PL0 (DEDUCED, log entry 31). -/
def pl3ExitOp (s : Blk) : Blk :=
  if s.power.dev = 3 ∧ s.power.devExit then
    let s1 := forN 64 (fun r t => if t.level r = 2 then t.setF F.REG_PWR_LEVEL r 0 else t) s
    let s2 := { s1 with power := { s1.power with dev := 0, devExit := false, exiting := [] } }
    s2.retryPkts.retrySteps
  else s

/-- A granule leaves FLUSHING for DEVICE (R344): what waited for it proceeds. -/
def Blk.endFlush (s : Blk) (g : Nat) : Blk := { s with bias := tblErase g s.bias }.retryPkts

end Sys2Proof.Machine
end

