-- ==== Sys2Proof/Machine/HostLink.lean ====
section
/-! DEFINITION. The host link: training and power states, the HDM window and bias, aperture reads, MSI-X moderation and masks, and
the emulated register window (R334 to R360). -/

namespace Sys2Proof.Machine

/-! ## The link (R334, R336, R352) -/

/-- Messages that waited for L0 are sent (R352). -/
def Blk.flushL0 (s : Blk) : Blk :=
  forL s.link.waitL0 (fun m t => t.sendMsi m.1 m.2) { s with link := { s.link with waitL0 := [] } }

/-- HL_TRAINED: the link trains to a rate (the code of HL_STATUS.SPEED) and a width. It needs the switched rails, PERST_N deasserted
and PCIE_REFCLK (R451, R472); step 2 of start-up ends with it (R455). -/
def hlTrainedOp (speed width : Nat) (cxl : Bool) (s : Blk) : Blk :=
  if !s.power.pwrGood ∨ s.power.perst ∨ !s.link.refclk ∨ s.link.active ∧ s.link.lps ≠ .training ∨ !([4, 5, 6].contains speed) ∨
      !([4, 8, 16].contains width) then s
  else
    let l := s.link
    let s1 := { s with link := { l with active := true, speed := speed, width := width, cxl := cxl && decide (5 ≤ speed), lps := .l0,
                                        trained := true } }
    let s2 := if l.trained then s1.event .hl 0 1 else s1
    let s3 := if speed < 6 ∨ width < 16 then s2.event .hl 0 0 else s2
    let s4 := if s3.getF F.GLB_STATUS_STAGE = 1 then s3.setF F.GLB_STATUS_STAGE 0 2 else s3
    ([288, 289, 290, 291].foldl (fun t d => t.setLock d true) s4).flushL0

/-- HOST_LINK_DOWN: the link leaves DL_Active; HL_LTR is unbounded (R336). -/
def hostLinkDownOp (s : Blk) : Blk := { s with link := { s.link with active := false, lps := .training } }

/-- LINK_POWER_STATE_ENTRY: L0p or an ASPM state. -/
def linkPowerStateEntryOp (ps : LinkPs) (s : Blk) : Blk :=
  if !s.link.active ∨ s.link.lps = .training ∨ ps = .l0 ∨ ps = .training then s
  else { s with link := { s.link with lps := ps } }

/-- LINK_L0_REACHED. -/
def linkL0ReachedOp (s : Blk) : Blk :=
  if !s.link.active ∨ s.link.lps = .training then s else { s with link := { s.link with lps := .l0 } }.flushL0

/-- LTR_WRITE: the host writes LTR Mechanism Enable, and the Max Snoop and Max No-Snoop Latencies, in ns, that it programs. -/
def ltrWriteOp (en : Bool) (snoop noSnoop : Option (BitVec 32)) (s : Blk) : Blk :=
  let l := s.link
  let pick := fun (n : Option (BitVec 32)) (old : Option Nat) => match n with
    | some v => some v.toNat
    | none => old
  { s with link := { l with ltrEn := en, maxSnoop := pick snoop l.maxSnoop, maxNoSnoop := pick noSnoop l.maxNoSnoop } }

/-- The host latency value in ns; none where it is unbounded (R336). -/
def Blk.hostLatency (s : Blk) : Option Nat :=
  if s.link.active && s.link.ltrEn then
    match s.link.maxSnoop, s.link.maxNoSnoop with
    | some a, some b => some (min a b)
    | _, _ => none
  else none

/-! ## The HDM window (R342 to R346) -/

/-- A host or peer access breaks a granule's bias (R343). -/
def Blk.biasViol (s : Blk) (off : Nat) : Blk :=
  ((s.count F.HDM_VIOL_CNT_COUNT).setF F.HDM_VIOL_ADDR_OFFSET 0 off).event .hl 0 2 { info1 := off }

/-- A requester other than the host may reach the granule (R346). In FLUSHING a granule is served as SHARED (DEDUCED, log entry 32). -/
def Blk.peerOk (s : Blk) (rid : Option (BitVec 16)) (off : Nat) : Bool :=
  match rid with
  | none => true
  | some r => decide (s.biasOf (off / 65536) ≠ 0) &&
      (List.range 16).any (fun k => s.flag F.PEER_ALLOW_V k && decide (s.getF F.PEER_ALLOW_RID k = r.toNat))

/-- A peer's request is refused (R346). -/
def Blk.peerRefused (s : Blk) : Blk := (s.count F.PEER_REFUSED_CNT_COUNT).event .hl 0 3

/-- An HDM access that the link can carry: within one 4 KiB page, the link active, CXL.mem only where CXL is negotiated. -/
def Blk.hdmCarried (s : Blk) (off len : Nat) (cxl : Bool) : Bool :=
  s.link.active && decide (0 < len) && decide (off % 4096 + len ≤ 4096) && (!cxl || s.link.cxl)

/-- HDM_HOST_READ (R343, R346): `cxl` says CXL.mem rather than BAR4, `rid` names a peer. A region that is off keeps no contents: its
bytes are free values. -/
def hdmHostReadOp (off : BitVec 35) (len : Nat) (cxl : Bool) (rid : Option (BitVec 16)) (s : Blk) : Blk :=
  let a := off.toNat
  if !(s.hdmCarried a len cxl) then s
  else if !(s.peerOk rid a) then s.peerRefused.emit (.hostData [] false true)
  else if s.biasOf (a / 65536) = 0 then
    (s.biasViol a).emit (.hostData (if cxl then [] else List.replicate len 0xFF) true false)
  else if s.level (regionOfDpa a) = 7 then
    (s.emit (.hostData ((List.range len).map (fun k => (Config.freeValue (s.fresh + k)).truncate 8)) false false)).drawN len
  else if s.mem.uncorrIn a len then ((s.readCheck a len).wakeDpa a).emit (.hostData [] true false)
  else (s.wakeDpa a).emit (.hostData (s.mem.bytes a len) false false)

/-- HDM_HOST_WRITE. -/
def hdmHostWriteOp (off : BitVec 35) (data : List Byte) (cxl : Bool) (rid : Option (BitVec 16)) (s : Blk) : Blk :=
  let a := off.toNat
  if !(s.hdmCarried a data.length cxl) then s
  else if !(s.peerOk rid a) then s.peerRefused
  else if s.biasOf (a / 65536) = 0 then s.biasViol a
  else if s.level (regionOfDpa a) = 7 then s
  else s.memWrite a data

/-! ## HDM_BIAS_SET (R344) -/

/-- The region of a granule. -/
def regionOfGranule (g : Nat) : Nat := g / 8192

/-- The granules named by HDM_BIAS_SET. -/
def biasRange (p : List Byte) : List Nat := (List.range (fieldAt p 4 4)).map (fun k => fieldAt p 0 4 + k)

/-- R344 refuses the command. -/
def Blk.biasRefused (s : Blk) (c : CmdRef) (p : List Byte) : Bool :=
  let first := fieldAt p 0 4
  let n := fieldAt p 4 4
  let st := fieldAt p 8 1
  decide (st > 1) || !allZero (slice p 9 3) || decide (first + n > 524288) || (decide (n = 0) && decide (524288 ≤ first)) ||
    (decide (c.fn ≠ 0) && (List.range 64).any (fun r =>
      decide (first < r * 8192 + 8192) && decide (r * 8192 < first + n) && decide (s.ownerOf r ≠ some c.inst))) ||
    (decide (st = 1) && !s.link.cxl)

/-- A SHARED granule enters FLUSHING and its cached lines are recalled; others stay. -/
def Blk.startFlush (s : Blk) (gs : List Nat) : Blk :=
  forL gs (fun g t => if t.biasOf g = 1 then { t with bias := tblSet g 2 t.bias }.emit (.recall g) else t) s

/-- HDM_BIAS_SET. It replies when every granule is in its new state; until then it delays no other command (R379). A granule in FLUSHING
that is asked to be SHARED becomes so when it has left FLUSHING. -/
def hdmBiasSetOp (s : Blk) : Blk :=
  s.withCmd 0x60 (fun c p t =>
    let shared := decide (fieldAt p 8 1 = 1)
    let gs := biasRange p
    if t.biasRefused c p then t.reply c .badDesc []
    else
      let t1 := if shared then { t with bias := (gs.filter (fun g => t.biasOf g ≠ 2)).foldl (fun b g => tblSet g 1 b) t.bias } else t.startFlush gs
      let wait := gs.filter (fun g => t1.biasOf g == 2)
      if wait = [] then t1.reply c .ok [] else { t1 with biasWait := t1.biasWait ++ [(c, shared, wait)] })

/-- The valid entries of a region map, by number. -/
def validEntries (m : Tbl Nat Nat) : List Nat := (List.range 64).filter (fun e => (tblGet 0 e m).testBit 8)
/-- The regions of an instance: those its map names, owned or detached (R393). -/
def Inst.regions (x : Inst) : List Nat := (validEntries x.map).map (fun e => bits (tblGet 0 e x.map) 5 0)

/-- A granule has left FLUSHING: it becomes SHARED where a command waits to make it so and no reset of its instance is taking it to DEVICE,
and commands whose every granule has are done. -/
def Blk.biasDone (s : Blk) (g : Nat) : Blk :=
  let w := s.biasWait.map (fun x => (x.1, x.2.1, x.2.2.filter (fun k => k ≠ g)))
  let share := s.biasWait.any (fun x => x.2.1 && x.2.2.contains g) &&
    !(s.ins.any (fun p => p.2.phase == 4 && p.2.regions.contains (regionOfGranule g)))
  let s1 := { s with biasWait := w.filter (fun x => x.2.2 ≠ []), bias := if share then tblSet g 1 s.bias else s.bias }
  forL (w.filter (fun x => x.2.2 = [])) (fun x t => t.reply x.1 .ok []) s1

/-! ## Aperture reads (R135) -/

/-- A read of host memory by a core ends. A refused read whose thread was discarded meanwhile is dropped, and nothing is logged (DESIGN CHOICE,
log entry 106). -/
def Blk.endHostRead (s : Blk) (tag : Nat) (data : Option (List Byte)) : Blk :=
  match tblFind tag s.hreads with
  | none => s
  | some r =>
    let s1 := { s with hreads := tblErase tag s.hreads }
    match s1.findOp r.pos r.tid r.id with
    | none => s1
    | some o =>
      let l := match data with
        | some l => slice l 0 r.len
        | none => List.replicate r.len 0xFF
      let s2 := (s1.dropOp r.pos r.tid r.id).modTh r.pos r.tid (fun x => x.loaded o.kind l)
      if data.isSome then s2
      else (s2.modStep (s1.th r.pos r.tid).step (fun x => { x with hostFault := true })).relEvent relHostAper
        { inst := r.inst, info0 := (s.inst r.inst).pasid, info1 := r.off }

/-- APERTURE_READ_COMPLETION: `data` is what the host returned, none where it refused or poisoned it. -/
def apertureReadCompletionOp (tag : Nat) (data : Option (List Byte)) (s : Blk) : Blk := s.endHostRead tag data
/-- COMPLETION_TIMEOUT: the read counts as refused. -/
def completionTimeoutOp (tag : Nat) (s : Blk) : Blk := s.endHostRead tag none

/-! ## MSI-X (R351, R352) -/

/-- MSIX_MOD_TIMER: a vector's timer reaches TIMER_US with requests undelivered. -/
def msixModTimerOp (f : BitVec 6) (v : BitVec 11) (s : Blk) : Blk :=
  let x := s.vec f.toNat v.toNat
  if x.timerRun ∧ x.cnt > 0 then s.deliverVec f.toNat v.toNat else s

/-- Pending messages of a function that may now be sent, are (R352). -/
def Blk.flushPba (s : Blk) (f : Nat) : Blk :=
  if (s.fn f).d3 then s
  else
    let vs := (s.vecs.filter (fun x => x.1.1 == f && x.2.pba)).map (fun x => x.1.2)
    forL vs (fun v t => if t.vecOpen f v then t.sendMsi f v else t) s

/-- MSIX_UNMASK: the host writes MSI-X Enable and Function Mask of a function, and unmasks a vector. -/
def msixUnmaskOp (f : BitVec 6) (en fnMask : Bool) (v : Option (BitVec 11)) (s : Blk) : Blk :=
  let n := f.toNat
  let s1 := s.modFn n (fun x => { x with msixEn := en, fnMask := fnMask })
  let s2 := match v with
    | none => s1
    | some k => if n = 0 then s1.setF F.MSIX_CTL_MASK k.toNat 0
        else if k.toNat < 64 then s1.setF F.VMSIX_CTL_MASK ((n - 1) * 64 + k.toNat) 0 else s1
  s2.flushPba n

/-- PME_STATUS_CLEAR: WAKE_N is released. -/
def pmeStatusClearOp (f : BitVec 6) (s : Blk) : Blk := s.modFn f.toNat (fun x => { x with pmeStatus := false, wake := false })

/-! ## The emulated register window (R353 to R357) -/

/-- Offsets of BAR2 that an emulated register occupies. -/
def emuOccupied (off : Nat) : Bool :=
  (decide (0x1000 ≤ off) && decide (off ≤ 0x1010)) || (decide (0x1040 ≤ off) && decide (off ≤ 0x107C))

/-- EMU_WRITE: a host write to BAR2 at or above 0x1000. -/
def emuWriteOp (off : BitVec 24) (size : Nat) (v : BitVec 32) (s : Blk) : Blk :=
  let o := off.toNat
  if size ≠ 4 ∨ o % 4 ≠ 0 then s.relEvent relRegBad { info1 := o }
  else if !(emuOccupied o) then s
  else if s.emu.ring.length ≥ 256 then { s with emu := { s.emu with lost := true } }.event .hl 0 4
  else { s.setF F.EMU_WR_SEQ_SEQ 0 (s.getF F.EMU_WR_SEQ_SEQ + 1) with
         emu := { s.emu with ring := s.emu.ring ++ [(o, v.toNat)], pending := true } }

/-- Apply a write to an emulated register (R357): only the RW ones change. -/
def Blk.emuApply (s : Blk) (off v : Nat) : Blk :=
  if off = 0x1010 then s.setF F.EMU_DRV_VER_VER 0 v
  else if 0x1040 ≤ off then s.setF F.EMU_SCRATCH_VALUE ((off - 0x1040) / 4) v
  else s

/-- EMU_ACT: Tutoby acts on the oldest landed write (R354). -/
def emuActOp (s : Blk) : Blk :=
  match s.emu.ring with
  | [] => s
  | (o, v) :: t =>
    if !s.emu.fwUp then s
    else
      let s1 := (s.emuApply o v).setF F.EMU_DONE_SEQ_SEQ 0 (s.getF F.EMU_WR_SEQ_SEQ + 2 ^ 32 - t.length)
      let s2 := { s1 with emu := { s1.emu with ring := t, pending := !t.isEmpty } }
      if t.isEmpty then s2.latch 12 else s2

/-- EMU_HEARTBEAT (R356). -/
def emuHeartbeatOp (s : Blk) : Blk := if s.emu.fwUp then s.count F.EMU_HEARTBEAT_COUNT else s

/-- FW_WATCHDOG (R434): 100 ms have passed since the watchdog last looked; it looks at the heartbeat again. -/
def fwWatchdogOp (s : Blk) : Blk :=
  let n := s.getF F.EMU_HEARTBEAT_COUNT
  if !s.emu.fwUp then s
  else if n = s.emu.seen then s.fatal fatalWatchdog else { s with emu := { s.emu with seen := n } }

end Sys2Proof.Machine
end

