-- ==== Sys2Proof/Machine/Instances.lean ====
section
/-! DEFINITION. Instances: creation, destruction, reset and the freeze (R390 to R402). -/

namespace Sys2Proof.Machine

/-! ## What an instance holds -/

/-- The packed positions of an instance. -/
def Inst.positions (x : Inst) : List Nat := x.regions.flatMap (fun r => (List.range 256).map (fun k => r * 256 + k))

/-- Zeroisation of regions begins (R400). Their contents are 0 from here to its end (DESIGN CHOICE, log entry 74). -/
def Blk.beginZero (s : Blk) (i : Nat) (rs : List Nat) : Blk :=
  forL rs (fun r t => { t with mem := t.mem.zeroise (r * 2 ^ 29) (2 ^ 29) }) (s.modInst i (fun x => { x with zeroing := rs }))

/-! ## CREATE_INSTANCE (R391 to R393) -/

/-- The region map of a payload. -/
def rmapOf (l : List Byte) : Tbl Nat Nat :=
  ((List.range 64).map (fun e => (e, fieldAt l (64 + 2 * e) 2))).filter (fun p => p.2 ≠ 0)

/-- Instances that are not FREE. -/
def Blk.liveIns (s : Blk) : List (Nat × Inst) := s.ins.filter (fun p => p.2.st != .free)

/-- The fields of a payload lie in their ranges, and it names regions that an instance may hold (R392, BAD_DESC). -/
def Blk.createOk (s : Blk) (l : List Byte) : Bool :=
  let f := fun (o k : Nat) => fieldAt l o k
  let m := rmapOf l
  let vs := validEntries m
  let rs := vs.map (fun e => bits (tblGet 0 e m) 5 0)
  (decide (f 0 1 < 64) || decide (f 0 1 = 0xFF)) && decide (f 1 1 < 64) && (if f 1 1 = 0 then decide (f 2 1 = 0) else decide (1 ≤ f 2 1) && decide (f 2 1 ≤ 64)) &&
    decide (f 3 1 < 2) && decide (f 4 4 < 2 ^ 20) && decide (f 8 8 % 4096 = 0) && decide (f 16 4 ≤ 134217728) &&
    decide (f 8 8 + f 16 4 * 4096 ≤ 2 ^ 64) && decide (1 ≤ f 24 2) && decide (f 24 2 ≤ 1024) && decide (f 26 2 ≤ 16384) && decide (f 28 2 ≤ 4096) &&
    decide (f 30 2 ≤ 1024) && decide (f 32 4 ≤ 65536) && decide (f 36 4 ≤ 1048576) && decide (f 40 4 ≤ 65536) && decide (f 46 2 ≤ 512) &&
    decide (f 44 2 + f 46 2 ≤ 512) && decide (f 48 1 ≤ 63) && allZero (slice l 50 14) && allZero (slice l 192 64) &&
    (m.all (fun p => decide (bits p.2 7 6 = 0) && decide (bits p.2 15 12 = 0))) && !vs.isEmpty &&
    (rs.all (fun r => decide ((rs.filter (fun q => q == r)).length = 1) && (s.reg .REGION_OK).toNat.testBit r)) &&
    !(decide (f 1 1 ≠ 0) && s.liveIns.any (fun p => p.2.vf == f 1 1))

/-- The lowest free range of `n` in a space, beside the ranges taken. -/
def firstFit (total n : Nat) (taken : List (Nat × Nat)) : Option Nat :=
  let ok := fun (b : Nat) => decide (b + n ≤ total) && taken.all (fun t => decide (t.2 = 0) || decide (b + n ≤ t.1) || decide (t.1 + t.2 ≤ b))
  if n = 0 then some 0
  else ((0 :: taken.map (fun t => t.1 + t.2)).filter ok).foldl (fun m b => match m with
    | none => some b
    | some c => some (min b c)) none

/-- The instance number that a payload gets: the one it names when FREE, or the lowest FREE one. -/
def Blk.createNum (s : Blk) (l : List Byte) : Option Nat :=
  let n := fieldAt l 0 1
  if n = 0xFF then (List.range 64).find? (fun i => (s.inst i).st == .free)
  else if (s.inst n).st = .free then some n else none

/-- Where an instance's resources lie: number, queues, counters and slots; none for NO_RESOURCE (R392). -/
def Blk.createFit (s : Blk) (l : List Byte) : Option (Nat × Nat × Nat × Nat) :=
  let xs := s.liveIns.map (fun p => p.2)
  let f := fun (o k : Nat) => fieldAt l o k
  let m := rmapOf l
  let rs := (validEntries m).map (fun e => bits (tblGet 0 e m) 5 0)
  let sum := fun (g : Inst → Nat) => xs.foldl (fun n x => n + g x) 0
  let poolOk := decide (sum (fun x => x.nColl) + f 30 2 ≤ 1024) && decide (sum (fun x => x.nConn) + f 32 4 ≤ 65536) &&
    decide (sum (fun x => x.nWin) + f 36 4 ≤ 1048576) && decide (sum (fun x => x.nTte) + f 40 4 ≤ 65536)
  let mtrOk := decide (f 46 2 = 0) || xs.all (fun x => decide (x.mtrCount = 0) || decide (f 44 2 + f 46 2 ≤ x.mtrBase) || decide (x.mtrBase + x.mtrCount ≤ f 44 2))
  let regOk := !(xs.any (fun x => x.regions.any (fun r => rs.contains r)))
  let qs := (s.getF F.QUE_PF_BASE, s.getF F.QUE_PF_COUNT) :: xs.map (fun x => (x.qBase, x.qCount))
  match s.createNum l, firstFit 16384 (f 24 2) qs, firstFit 16384 (f 26 2) (xs.map (fun x => (x.cBase, x.cCount))),
      firstFit 4096 (f 28 2) (xs.map (fun x => (x.sBase, x.sCount))) with
  | some i, some q, some c, some k => if poolOk && mtrOk && regOk then some (i, q, c, k) else none
  | _, _, _, _ => none

/-- CREATE_INSTANCE: accepted, it reserves and zeroises; it replies when its regions are zeroised. -/
def createInstanceOp (s : Blk) : Blk :=
  s.withCmd 0x10 (fun c l t =>
    if !(t.createOk l) then t.reply c .badDesc []
    else match t.createFit l with
      | none => t.reply c .noResource []
      | some (i, q, cn, sl) =>
        let f := fun (o k : Nat) => fieldAt l o k
        let gen := ((t.inst i).gen + 1) % 2 ^ 16
        let frozen := decide (f 3 1 = 1)
        let x : Inst := { st := if frozen then .frozen else .active, vf := f 1 1, nvec := f 2 1, gen := gen, pasid := f 4 4, haBase := f 8 8,
                          aperLimit := f 16 4, latDef := f 20 4, qBase := q, qCount := f 24 2, cBase := cn, cCount := f 26 2,
                          sBase := sl, sCount := f 28 2, nColl := f 30 2, nConn := f 32 4, nWin := f 36 4, nTte := f 40 4,
                          mtrBase := f 44 2, mtrCount := f 46 2, neq := f 48 1, map := rmapOf l, payload := slice l 0 256,
                          waiters := [c], creating := true }
        let t1 := ((t.setInst i x).setF F.FTI_CFG_WEIGHT i (f 49 1)).setF F.COLI_CFG_COLL_MODE i 0
        let t2 := { t1 with owner := x.regions.foldl (fun o r => tblSet r i o) t1.owner }
        (forN x.cCount (fun k u => u.setF F.FT_RCNT_COUNT (cn + k) 0) t2).beginZero i x.regions)

/-! ## The stop phase (R398, R402) -/

/-- Moves and host copies of an instance issue no further fragment. Under a new GEN their completions are discarded, and a waiting
command replies ABORTED; under the same GEN they complete ABORTED. -/
def Blk.stopMoves (s : Blk) (i : Nat) : Blk :=
  forL (s.moves.filter (fun m => m.2.inst == i)) (fun p t =>
    let m := p.2
    if m.gen = t.genOf i then
      ({ t with moves := tblSet p.1 { m with todo := [], failed := m.failed ++ m.todo, stopped := true } t.moves }).settleMove p.1
    else
      let t1 := { t with moves := tblErase p.1 t.moves }
      match m.cmd with
      | some c => t1.reply c .aborted []
      | none => t1.genDrop i true) s

/-- Commands of the instance that wait on hardware reply ABORTED: a TT_UNLOAD, a COLL_CLOSE, FT_CONN_CLOSEs, FT_WIN_REVOKEs and
HDM_BIAS_SETs. -/
def Blk.stopWaits (s : Blk) (i : Nat) : Blk :=
  let tt := (s.tt i).unloadWait
  let coll := (s.ctxsOf i).filterMap (fun n => (s.ctx n).closing)
  let conn := (s.connsOf i).flatMap (fun c => (s.conn c).closing)
  let win := (s.winsOf i).filterMap (fun n => (s.win n).revoked)
  let bias := (s.biasWait.filter (fun w => w.1.inst == i)).map (fun w => w.1)
  let s1 := { s with biasWait := s.biasWait.filter (fun w => w.1.inst ≠ i) }
  let s2 := s1.modTt i (fun t => { t with unloadWait := [] })
  let s3 := forL (s.ctxsOf i) (fun n t => t.modCtx n (fun x => { x with closing := none })) s2
  forL (tt ++ coll ++ conn ++ win ++ bias) (fun c t => t.reply c .aborted []) s3

/-- The FR8 ends every item of the instance's work. -/
def Blk.stopWork (s : Blk) (i : Nat) : Blk :=
  let s0 := s.stopWaits i
  -- open rounds end ABORTED before the steps whose ends could close them (R233)
  let s1 := (forL ((s0.ctxsOf i).flatMap (fun n => (s0.ctx n).blocks)) (fun b t => { t with mem := t.mem.zeroise (stagingBase + b * 4096) 4096 }) s0).resetColl i
  let sids := (s1.steps.filter (fun p => p.2.inst == i)).map (fun p => p.1)
  let s2 := forL sids (fun sid t => t.endStep sid .aborted none) s1
  let s3 := if (s2.tt i).st = .empty ∨ (s2.tt i).st = .loaded then s2
    else s2.modTt i (fun t => { t with st := .loaded, haltStatus := Status.aborted.code, wins := [] })
  (s3.resetFt i).stopMoves i

/-! ## The reset sequence (R397, R398) -/

/-- Phases 1 and 2: GEN increments, the regions lose their owner, the queues are DISABLED and the VF's shadow and hold are empty (R28), a waiting FREEZE_INSTANCE or
CREATE_INSTANCE replies ABORTED, what the old generation has outstanding at Tutoby ends, and the work stops (DESIGN CHOICE, log entry 83). -/
def Blk.startReset (s : Blk) (i : Nat) (destroying : Bool) : Blk :=
  let x := s.inst i
  let qs := s.queuesOf i
  let dead := (s.cmdq.filter (fun c => c.1.inst == i && c.1.opcode ≠ 0x11 && c.1.opcode ≠ 0x12)).map (fun c => c.1)
  let lost := s.replies.filter (fun r => r.ref.fn == x.vf && decide (x.vf ≠ 0))
  let s1 := s.setInst i { x with gen := (x.gen + 1) % 2 ^ 16, st := if destroying then .destroying else .resetting, phase := 3, freezeAt := none,
                                 zeroing := [], creating := false, hint := none,
                                 waiters := x.waiters.filter (fun c => c.opcode ≠ 0x10) }
  let s2 := { s1 with owner := s1.owner.filter (fun p => p.2 ≠ i),
                      cmdq := s1.cmdq.filter (fun c => !(dead.contains c.1)),
                      accepted := s1.accepted.filter (fun c => !(qs.contains c.q)),
                      replies := s1.replies.filter (fun r => !(lost.contains r)),
                      waitPkts := s1.waitPkts.filter (fun p => p.sys || p.inst ≠ i),
                      hmbox := if x.vf = 0 then s1.hmbox else tblErase x.vf s1.hmbox }
  let s3 := forL lost (fun _ t => t.genDrop i false) s2
  let s4 := (forL qs (fun q t => t.resetQueue q) s3).modFn x.vf (fun f => if x.vf = 0 then f else { f with hold := none, shadow := none })
  let s5 := s4.stopWork i
  let fr := match x.freezeAt with
    | some (_, c) => [c]
    | none => []
  forL (fr ++ x.waiters.filter (fun c => c.opcode = 0x10) ++ dead) (fun c t => t.reply c .aborted []) s5

/-- A reset is requested (R397): it starts, or joins the running sequence. -/
def Blk.requestReset (s : Blk) (i : Nat) : Blk :=
  match (s.inst i).st with
  | .active | .freezing | .frozen => s.startReset i false
  | _ => s

/-- A destruction is requested (R390): it starts, or waits for a running reset. -/
def Blk.requestDestroy (s : Blk) (i : Nat) : Blk :=
  match (s.inst i).st with
  | .active | .freezing | .frozen => s.startReset i true
  | .resetting => s.modInst i (fun x => { x with destroyPend := true })
  | _ => s

/-- RESET_INSTANCE. -/
def resetInstanceOp (s : Blk) : Blk :=
  s.withCmd 0x12 (fun c _ t => (t.modInst c.inst (fun x => { x with waiters := x.waiters ++ [c] })).requestReset c.inst)

/-- DESTROY_INSTANCE. A second one joins the first. -/
def destroyInstanceOp (s : Blk) : Blk :=
  s.withCmd 0x11 (fun c _ t =>
    (t.modInst c.inst (fun x => if x.destroy.isNone then { x with destroy := some c } else { x with waiters := x.waiters ++ [c] })).requestDestroy c.inst)

/-- Replies of the RESET_INSTANCEs, and DESTROY_INSTANCEs, that joined a sequence. -/
def Blk.replyWaiters (s : Blk) (i : Nat) : Blk :=
  let x := s.inst i
  forL x.waiters (fun c t => t.reply c .ok (if c.opcode = 0x12 then [x.gen] else [])) (s.modInst i (fun x => { x with waiters := [] }))

/-- Phase 5 (R398): regions, KEK and key slots zeroised, counters 0, mailboxes empty, FTC_SEL 0. -/
def Blk.beginClear (s : Blk) (i : Nat) : Blk :=
  let x := s.inst i
  let s0 := ((s.modInst i (fun y => { y with phase := 5 })).zeroiseKeys i).resetFt i
  let s1 := forN x.cCount (fun k t => t.setF F.FT_RCNT_COUNT (x.cBase + k) 0) s0
  let s2 := { s1 with mbox := s1.mbox.filter (fun p => !(x.regions.contains (regionOfPos p.1))) }
  let s3 := if x.vf = 0 then s2 else s2.setReg .FTC_SEL (x.vf - 1) 0
  s3.beginZero i x.regions

/-- The granules of the instance's regions that are SHARED or FLUSHING. -/
def Blk.biased (s : Blk) (i : Nat) : List Nat :=
  (s.bias.filter (fun p => (s.inst i).regions.contains (regionOfGranule p.1) && decide (p.2 ≠ 0))).map (fun p => p.1)

/-- Phase 4: SHARED granules of the instance's regions are flushed; it ends when none is SHARED or FLUSHING. -/
def Blk.biasPhase (s : Blk) (i : Nat) : Blk :=
  if s.biased i = [] then s.beginClear i else (s.startFlush (s.biased i)).modInst i (fun x => { x with phase := 4 })

/-- A stream packet that carries the instance's tag is inside the package (R398). -/
def Blk.tagged (s : Blk) (i : Nat) : Bool := s.flights.any (fun f => !f.pkt.sys && f.pkt.inst == i)

/-- RESET_DRAIN_DONE: no packet, engine request or host write of the instance remains; the bias phase begins. -/
def resetDrainDoneOp (i : BitVec 6) (s : Blk) : Blk :=
  let n := i.toNat
  let x := s.inst n
  if x.phase ≠ 3 ∨ s.tagged n then s
  else
    let s1 := { s with reqs := s.reqs.filter (fun r => srcHub r.1.1 || !(x.regions.contains (regionOfPos r.1.1))),
                       hreads := s.hreads.filter (fun r => r.2.inst ≠ n) }
    s1.biasPhase n

/-- BIAS_FLUSH_DONE (R344): a granule becomes DEVICE; commands and resets that waited for it go on. -/
def biasFlushDoneOp (g : BitVec 19) (s : Blk) : Blk :=
  let n := g.toNat
  if s.biasOf n ≠ 2 then s
  else
    let s1 := (((s.endFlush n).biasDone n).placeHeld).placeWaiting
    forL ((s1.ins.filter (fun p => p.2.phase == 4)).map (fun p => p.1)) (fun i t => t.biasPhase i) s1

/-- Every granule of the instance is dirty in the current epoch (R399). -/
def Blk.dirtyAll (s : Blk) (i : Nat) : Blk :=
  let x := s.inst i
  if x.dirtyOn then s.setInst i { x with granules := (validEntries x.map).flatMap (fun e => (List.range 8192).map (fun g => (e, g))) } else s

/-- The step serial of each position increments (R144). -/
def Blk.bumpSser (s : Blk) (ps : List Nat) : Blk := forL ps (fun p t => t.modCore p (fun c => { c with sser := c.sser + 1 })) s

/-- Phase 6, or the end of a destruction (R394): its resources return and its timetable is unloaded; GEN stays (DESIGN CHOICE, log entry 84). A key
that was loaded while the regions were zeroised goes with the others (R323). -/
def Blk.finishReset (s0 : Blk) (i : Nat) : Blk :=
  let s := s0.zeroiseKeys i
  let x := s.inst i
  let s1 := (s.bumpSser x.positions).count F.INSI_RESET_CNT_COUNT i
  if x.st = .destroying then
    let s2 := s1.replyWaiters i
    let s3 := { s2.setInst i { gen := x.gen } with tts := tblErase i s2.tts }
    match x.destroy with
    | some c => s3.reply c .ok []
    | none => s3
  else
    let s2 := { s1.modInst i (fun y => { y with st := .active, phase := 0 }) with owner := x.regions.foldl (fun o r => tblSet r i o) s1.owner }
    let s3 := ((s2.dirtyAll i).insEvent i 0).replyWaiters i
    if x.destroyPend then (s3.modInst i (fun y => { y with destroyPend := false })).startReset i true else s3

/-- ZEROISE_DONE (R400): a region is zeroised. -/
def zeroiseDoneOp (r : BitVec 6) (s : Blk) : Blk :=
  let n := r.toNat
  match s.ins.find? (fun p => p.2.zeroing.contains n) with
  | none => s
  | some (i, x) =>
    let left := x.zeroing.filter (fun k => k ≠ n)
    let s1 := ({ s with mem := s.mem.zeroise (n * 2 ^ 29) (2 ^ 29) }).setInst i { x with zeroing := left }
    if left ≠ [] then s1
    else if x.creating then
      forL x.waiters (fun c t => t.reply c .ok [i, x.gen]) (s1.setInst i { x with zeroing := [], creating := false, waiters := [] })
    else s1.finishReset i

/-! ## FREEZE_INSTANCE (R401, R402) -/

/-- FREEZE_INSTANCE. An instance that is not ACTIVE, or already waits to freeze, is refused (DESIGN CHOICE, log entry 33). -/
def freezeInstanceOp (s : Blk) : Blk :=
  s.withCmd 0x13 (fun c p t =>
    let f := fieldAt p 0 8
    let x := t.inst c.inst
    if x.st ≠ .active ∨ x.freezeAt.isSome ∨ t.connsOf c.inst ≠ [] ∨ t.ctxsOf c.inst ≠ [] then t.reply c .badDesc []
    else if f ≠ 0 ∧ f ≤ t.time.beat then t.reply c .tooLate []
    else t.setInst c.inst { x with freezeAt := some (if f = 0 then t.time.beat + 1 else f, c) })

/-- The boundary of beat F: the instance enters FREEZING (DESIGN CHOICE, log entry 87). -/
def Blk.freezeNow (s : Blk) (i b : Nat) : Blk :=
  let s1 := (s.modInst i (fun x => { x with st := .freezing, freezeBeat := b })).modTt i (fun t =>
    if t.st = .armed ∨ t.st = .running then { t with stopBeat := b, lastStop := b } else t)
  let s2 := forL (s1.queuesOf i) (fun q t =>
    if (t.queue q).st = .active then
      let t1 := t.modQueue q (fun x => { x with resume := true })
      if t.getF F.QCFG_TYPE q = qtCpl then t1 else (t1.drainQueue q).settleSq q
    else t) s1
  forL (s2.winsOf i) (fun n t => t.setWin n { t.win n with v := false, expired := false }) s2

/-- The freezes of a boundary. -/
def Blk.freezeAtBeat (s : Blk) (b : Nat) : Blk :=
  forL (s.ins.filter (fun p => match p.2.freezeAt with
    | some (f, _) => p.2.st == .active && decide (f ≤ b)
    | none => false)) (fun p t => t.freezeNow p.1 b) s

/-- The instance is FROZEN and its command replies; `cut` says that FRZ_LIMIT cut it. -/
def Blk.setFrozen (s : Blk) (i : Nat) (cut : Bool) : Blk :=
  let x := s.inst i
  let s1 := (s.setInst i { x with st := .frozen, freezeAt := none }).insEvent i 1
  match x.freezeAt with
  | some (_, c) => s1.reply c .ok [x.freezeBeat % 2 ^ 32, x.freezeBeat / 2 ^ 32, b2n cut]
  | none => s1

/-- Work of the instance that has started and not ended. -/
def Blk.instBusy (s : Blk) (i : Nat) : Bool :=
  s.steps.any (fun p => p.2.inst == i) || s.moves.any (fun m => m.2.inst == i) || (s.queuesOf i).any (fun q => (s.queue q).st == .draining)

/-- FREEZE_DONE. -/
def freezeDoneOp (i : BitVec 6) (s : Blk) : Blk :=
  if (s.inst i.toNat).st = .freezing ∧ !(s.instBusy i.toNat) then s.setFrozen i.toNat false else s

/-- FREEZE_CUT: FRZ_LIMIT ms have passed; the rest of the work is aborted. -/
def freezeCutOp (i : BitVec 6) (s : Blk) : Blk :=
  let n := i.toNat
  if (s.inst n).st ≠ .freezing then s
  else
    let s1 := s.stopWork n
    let s2 := forL (s1.queuesOf n) (fun q t =>
      if (t.queue q).st = .draining then (t.modQueue q (fun x => { x with entries := [] })).settleQueue q else t) s1
    (s2.insEvent n 2).setFrozen n true

/-- RESUME_INSTANCE (R408). -/
def resumeInstanceOp (s : Blk) : Blk :=
  s.withCmd 0x16 (fun c _ t =>
    let i := c.inst
    if (t.inst i).st ≠ .frozen then t.reply c .badDesc []
    else
      let t1 := t.modInst i (fun x => { x with st := .active })
      (forL (t1.queuesOf i) (fun q u =>
        let x := u.queue q
        if !x.resume then u
        else if x.st ≠ .disabled then u.setQueue q { x with resume := false }
        else
          let sub := decide (u.getF F.QCFG_TYPE q ≠ qtCpl)
          (u.setF F.QCTL_EN q 1).setQueue q { x with st := .active, resume := false, scan := if sub then x.head else x.scan,
                                                     lap := if sub then x.headLap else x.lap, scanning := sub, dbPend := false }) t1).reply c .ok [])

/-! ## Function-level resets (R337, R453) -/

/-- The registers of a function that its reset reaches: the MSI-X table and controls as PCIe resets them (PRESUMED, log entry 34). -/
def Blk.resetFn (s : Blk) (f : Nat) : Blk :=
  { s with fns := tblErase f s.fns, vecs := s.vecs.filter (fun p => p.1.1 ≠ f), hmbox := tblErase f s.hmbox,
           link := { s.link with waitL0 := s.link.waitL0.filter (fun m => m.1 ≠ f) } }

/-- The MSI-X table of a VF. -/
def vmsixRegs : List Reg := [.VMSIX_ADDR, .VMSIX_DATA, .VMSIX_CTL]

/-- FLR_VF: an FLR of a bound VF is an instance reset. -/
def flrVfOp (v : BitVec 6) (s : Blk) : Blk :=
  match s.instOfVf v.toNat with
  | none => s
  | some i =>
    let n := (v.toNat - 1) * 64
    let s1 := s.resetFn v.toNat
    ({ s1 with regs := s1.regs.filter (fun p => !(vmsixRegs.contains p.1.1 && decide (n ≤ p.1.2) && decide (p.1.2 < n + 64))) }).requestReset i

/-- The registers of the IRQ block (R358, R359), which an FLR of the PF resets. -/
def irqRegs : List Reg :=
  [.MSIX_ADDR, .MSIX_DATA, .MSIX_CTL, .IRQ_CAUSE, .IRQ_CAUSE_EN, .IRQ_CAUSE_VEC, .HL_EVT, .HL_EVT_EN, .HDM_VIOL_CNT, .PEER_REFUSED_CNT, .HDM_VIOL_ADDR,
   .PEER_ALLOW, .HCE_RD_BYTES, .HCE_WR_BYTES, .MOD_CFG, .HRM_NOTICES]
/-- The emulated window (R353 to R357): the ring's registers and the RW values. -/
def emuRegs : List Reg := [.EMU_WR_SEQ, .EMU_DONE_SEQ, .EMU_DRV_VER, .EMU_SCRATCH]
/-- The registers of one queue. -/
def queueRegs : List Reg := [.QBASE, .QHEAD_ADDR, .QCFG, .QCTL, .CQ_CONS, .QDONE]
/-- The registers of the PF's own queues (R388): those that the QUE block keeps for the device. -/
def queRegs : List Reg := [.QUE_PF, .QUE_EVT, .QUE_EVT_EN, .STALE_CPL_CNT, .CQ_DROP_CNT, .DB_IGNORED_CNT, .QUE_ERRQ]

/-- Set registers to their Reset values. -/
def Blk.resetRegs (s : Blk) (l : List Reg) : Blk := { s with regs := s.regs.filter (fun p => !(l.contains p.1.1)) }

/-- FLR_PF (R453): every instance is destroyed; IRQ, the PF's queues and reply mailbox, the BAR2 ring and the RW emulated values
are reset, and the host must write the latencies again (R336). While PERST_N is asserted it is absorbed (R452). -/
def flrPfOp (s : Blk) : Blk :=
  if s.power.perst then s else
  let b := s.getF F.QUE_PF_BASE
  let c := s.getF F.QUE_PF_COUNT
  let mine := fun (q : Nat) => decide (b ≤ q) && decide (q < b + c)
  let s1 := { s with queues := s.queues.filter (fun p => !(mine p.1)),
                     regs := s.regs.filter (fun p => !(queueRegs.contains p.1.1 && mine p.1.2)),
                     cmdq := s.cmdq.filter (fun x => x.1.fn ≠ 0), accepted := s.accepted.filter (fun x => x.fn ≠ 0),
                     replies := s.replies.filter (fun r => r.ref.fn ≠ 0),
                     emu := { s.emu with ring := [], pending := false, lost := false },
                     link := { s.link with maxSnoop := none, maxNoSnoop := none } }
  let s2 := (s1.resetFn 0).resetRegs (irqRegs ++ emuRegs ++ queRegs)
  forL ((s2.liveIns).map (fun p => p.1)) (fun i t => t.requestDestroy i) s2

end Sys2Proof.Machine
end

