-- ==== Sys2Proof/Machine/Migrate.lean ====
section
/-! DEFINITION. Dirty logging, save images and their restoring (R403 to R407). -/

namespace Sys2Proof.Machine

/-! ## DIRTY_LOG (R403, R404) -/

/-- The granule map: bit 8,192 · e + g (R404). -/
def granuleMap (gs : List (Nat × Nat)) : List Byte :=
  (List.range 65536).map (fun k =>
    BitVec.ofNat 8 ((List.range 8).foldl (fun n b => if gs.contains ((8 * k + b) / 8192, (8 * k + b) % 8192) then n + 2 ^ b else n) 0))

/-- The fields of a DIRTY_LOG payload that must be 0. -/
def dirtyBad (p : List Byte) : Bool :=
  decide (fieldAt p 0 1 > 2) || !allZero (slice p 1 7) || !allZero (slice p 20 4) ||
    (if fieldAt p 0 1 = 0 then decide (fieldAt p 8 8 % 4096 ≠ 0) else !allZero (slice p 8 12) || !allZero (slice p 24 24))

/-- The next command is a DIRTY_LOG with this OP; DIRTY_LOG_START also answers for an OP that is not defined. -/
def Blk.withDirty (s : Blk) (op : Nat) (f : CmdRef → List Byte → Blk → Blk) : Blk :=
  match s.cmdq with
  | (_, p) :: _ =>
    let o := fieldAt p 0 1
    if o = op ∨ (op = 0 ∧ o > 2) then s.withCmd 0x17 (fun c p t => if dirtyBad p then t.reply c .badDesc [] else f c p t) else s
  | [] => s

/-- DIRTY_LOG_START. -/
def dirtyLogStartOp (s : Blk) : Blk :=
  s.withDirty 0 (fun c p t =>
    (t.modInst c.inst (fun x => { x with dirtyOn := true, activeMap := false, outside := false, epoch := 0, logBase := fieldAt p 8 8,
                                         logPages := fieldAt p 16 4, hmapA := fieldAt p 24 8, hmapB := fieldAt p 32 8, smap := fieldAt p 40 8,
                                         pages := [], granules := [] })).reply c .ok [])

/-- The end of an epoch: its granule map is written to SMAP and the reply tells the completed bitmap, the epoch and OUTSIDE. With
logging off there is no epoch to end (DESIGN CHOICE, log entry 35). -/
def Blk.endEpoch (s : Blk) (c : CmdRef) (go : Bool) : Blk :=
  let x := s.inst c.inst
  if !x.dirtyOn then s.reply c .badDesc []
  else
    let s1 := s.emit (.hostWrite none x.smap (granuleMap x.granules))
    let y := { x with granules := [], outside := false }
    let z := if go then { y with activeMap := !x.activeMap, epoch := (x.epoch + 1) % 2 ^ 32, pages := [] } else { y with dirtyOn := false }
    (s1.setInst c.inst z).reply c .ok [b2n x.activeMap, x.epoch, b2n x.outside]

/-- DIRTY_LOG_EPOCH. -/
def dirtyLogEpochOp (s : Blk) : Blk := s.withDirty 1 (fun c _ t => t.endEpoch c true)
/-- DIRTY_LOG_STOP. -/
def dirtyLogStopOp (s : Blk) : Blk := s.withDirty 2 (fun c _ t => t.endEpoch c false)

/-! ## The save image (R405, R406) -/

/-- A record at a 64-byte boundary: header, data, padding. -/
def saveRecord (rtype : Nat) (data : List Byte) : List Byte :=
  let r := toLe 2 rtype ++ toLe 2 0 ++ toLe 4 data.length ++ toLe 4 (crc32c data).toNat ++ toLe 4 0 ++ data
  r ++ List.replicate (alignUp r.length 64 - r.length) 0

/-- The CONFIG data: the payload without what belongs to the source. -/
def configData (p : List Byte) : List Byte := toLe 3 0 ++ slice p 3 1 ++ toLe 16 0 ++ slice p 20 236

/-- QSCAN and QHEAD of a queue as their registers show them (R388). -/
def Blk.qscanView (s : Blk) (q : Nat) : Nat :=
  let x := s.queue q
  if s.getF F.QCFG_TYPE q = qtCpl then x.prod else x.scan + b2n x.lap * 2 ^ 16
def Blk.qheadView (s : Blk) (q : Nat) : Nat := (s.queue q).head + b2n (s.queue q).headLap * 2 ^ 16

/-- The 48 bytes of one queue. -/
def Blk.queueData (s : Blk) (base k : Nat) : List Byte :=
  let q := base + k
  toLe 2 k ++ toLe 1 (b2n (s.queue q).resume) ++ toLe 1 0 ++ toLe 4 (s.reg .QCFG q).toNat ++ toLe 8 (s.reg .QBASE q).toNat ++
    toLe 8 (s.reg .QHEAD_ADDR q).toNat ++ toLe 4 (s.qscanView q) ++ toLe 4 (s.qheadView q) ++ toLe 4 (s.reg .CQ_CONS q).toNat ++
    toLe 4 (s.reg .QDONE q).toNat ++ toLe 8 0

/-- The DPA of granule `g` of entry `e`. -/
def Inst.granuleDpa (x : Inst) (e g : Nat) : Nat := bits (tblGet 0 e x.map) 5 0 * 2 ^ 29 + g * 65536

/-- The data of a GRANULE record. -/
def Blk.granuleData (s : Blk) (x : Inst) (e g : Nat) : List Byte :=
  let a := x.granuleDpa e g
  let bad := (List.range 16).foldl (fun n b =>
    if s.mem.poisoned (a + b * 4096) || s.mem.uncorrIn (a + b * 4096) 4096 then n + 2 ^ b else n) 0
  toLe 1 e ++ toLe 1 0 ++ toLe 2 g ++ toLe 2 bad ++ toLe 10 0 ++ s.mem.bytes a 65536

/-- The granules that a map selects: every one of the valid entries where there is no map. -/
def Inst.selected (x : Inst) (gmap : Option (List Byte)) : List (Nat × Nat) :=
  (validEntries x.map).flatMap (fun e => ((List.range 8192).filter (fun g => match gmap with
    | none => true
    | some m => ((m.getD ((8192 * e + g) / 8) 0).toNat).testBit (g % 8))).map (fun g => (e, g)))

/-- The records of an image by mode: 0 FULL, 1 GRANULES, 2 STATE. -/
def Blk.saveRecords (s : Blk) (i mode : Nat) (sel : List (Nat × Nat)) : List (List Byte) :=
  let x := s.inst i
  let state := [saveRecord 1 (configData x.payload), saveRecord 6 (toLe 1 (s.getF F.COLI_CFG_COLL_MODE i) ++ toLe 1 (s.getF F.FTI_CFG_WEIGHT i) ++ toLe 14 0),
    saveRecord 3 ((List.range x.qCount).flatMap (fun k => s.queueData x.qBase k)),
    saveRecord 4 ((List.range x.cCount).flatMap (fun k => toLe 4 (s.getF F.FT_RCNT_COUNT (x.cBase + k))))] ++
    (if (s.tt i).st = .empty then [] else [saveRecord 5 (s.tt i).image])
  (if mode = 1 then [] else state) ++ (if mode = 2 then [] else sel.map (fun eg => saveRecord 2 (s.granuleData x eg.1 eg.2))) ++ [saveRecord 7 []]

/-- The 64-byte header. -/
def Blk.saveHeader (s : Blk) (i count len : Nat) : List Byte :=
  let x := s.inst i
  toLe 4 0x49534731 ++ toLe 2 1 ++ toLe 2 0 ++ toLe 4 count ++ toLe 4 0 ++ toLe 8 len ++ toLe 8 Config.fabUid.toNat ++
    toLe 8 (if x.st = .frozen then x.freezeBeat else 0) ++ toLe 2 i ++ toLe 2 x.gen ++ toLe 20 0

/-- SAVE_INSTANCE: `gmap` is what the host returned for the granule map, none where it refused. -/
def saveInstanceOp (gmap : Option (List Byte)) (s : Blk) : Blk :=
  s.withCmd 0x14 (fun c p t =>
    let mode := fieldAt p 0 1
    let st := (t.inst c.inst).st
    let useMap := decide (fieldAt p 24 8 ≠ 0) && decide (mode ≠ 2)
    if mode > 2 ∨ !(allZero (slice p 1 7)) ∨ !(allZero (slice p 20 4)) ∨ fieldAt p 8 8 % 64 ≠ 0 ∨ !(st = .frozen ∨ (st = .active ∧ mode = 1)) then
      t.reply c .badDesc []
    else if useMap ∧ gmap.isNone then t.reply c .hostFault []
    else
      let sel := (t.inst c.inst).selected (if useMap then gmap else none)
      let rs := t.saveRecords c.inst mode sel
      let size := rs.foldl (fun n r => n + r.length) 64
      if size > fieldAt p 16 4 then t.reply c .noResource [size]
      else
        let t1 := if mode = 2 then t else forL sel (fun eg u => u.readCheck ((t.inst c.inst).granuleDpa eg.1 eg.2) 65536) t
        (t1.emit (.hostWrite none (fieldAt p 8 8) (t.saveHeader c.inst rs.length size ++ rs.flatten))).reply c .ok [size, rs.length])

/-! ## RESTORE_INSTANCE (R407) -/

/-- A CONFIG record fits the target. -/
def Inst.configFits (x : Inst) (l : List Byte) : Bool :=
  let same := fun (o k : Nat) => decide (fieldAt l o k = fieldAt x.payload o k)
  let m := rmapOf l
  decide (l.length = 256) && same 24 2 && same 26 2 && same 28 2 && same 30 2 && same 32 4 && same 36 4 && same 40 4 && same 46 2 && same 48 1 &&
    (List.range 64).all (fun e => decide ((tblGet 0 e m).testBit 8 = (tblGet 0 e x.map).testBit 8) &&
      (!(tblGet 0 e m).testBit 8 || decide (bits (tblGet 0 e m) 11 9 = bits (tblGet 0 e x.map) 11 9)))

/-- Apply a GRANULE record; none where a field is out of its range. -/
def Blk.putGranule (s : Blk) (i : Nat) (l : List Byte) : Option Blk :=
  let x := s.inst i
  let e := fieldAt l 0 1
  let g := fieldAt l 2 2
  if l.length ≠ 65552 ∨ e ≥ 64 ∨ !((tblGet 0 e x.map).testBit 8) ∨ g ≥ 8192 ∨ fieldAt l 1 1 ≠ 0 ∨ !(allZero (slice l 6 10)) then none
  else
    let a := x.granuleDpa e g
    some (forN 16 (fun b t => if (fieldAt l 4 2).testBit b then t.poisonDpa (a + b * 4096) else t) (s.memWrite a (l.drop 16)))

/-- Apply the bytes of one queue of a QUEUE record; none where a field is out of its range. -/
def Blk.putQueue (s : Blk) (i : Nat) (l : List Byte) : Option Blk :=
  let x := s.inst i
  let k := fieldAt l 0 2
  let q := x.qBase + k
  if k ≥ x.qCount ∨ fieldAt l 4 4 ≥ 2 ^ 30 ∨ fieldAt l 2 1 > 1 ∨ fieldAt l 3 1 ≠ 0 ∨ !(allZero (slice l 40 8)) ∨ fieldAt l 24 4 ≥ 2 ^ 17 ∨ fieldAt l 28 4 ≥ 2 ^ 17 ∨ fieldAt l 32 4 ≥ 2 ^ 17 then none
  else
    let scan := fieldAt l 24 4
    let cpl := decide (bits (fieldAt l 4 4) 7 5 = qtCpl)
    let y : Queue := { scan := if cpl then 0 else scan % 2 ^ 16, lap := cpl || scan.testBit 16, head := fieldAt l 28 4 % 2 ^ 16,
                       headLap := (fieldAt l 28 4).testBit 16, prod := if cpl then scan else 0, resume := decide (fieldAt l 2 1 = 1) }
    let w := fun (n : Nat) => BitVec.ofNat 64 n
    some ((((((((s.setReg .QCFG q (w (fieldAt l 4 4))).setReg .QBASE q (w (fieldAt l 8 8))).setReg .QHEAD_ADDR q (w (fieldAt l 16 8))).setReg
      .CQ_CONS q (w (fieldAt l 32 4))).setReg .QDONE q (w (fieldAt l 36 4))).setF F.QCTL_EN q 0).setQueue q y))

/-- Apply the queues of a record one after the other. -/
def Blk.putQueues : Nat → Blk → Nat → List Byte → Option Blk
  | 0, s, _, _ => some s
  | n + 1, s, i, l =>
    match s.putQueue i (slice l 0 48) with
    | none => none
    | some s1 => Blk.putQueues n s1 i (l.drop 48)

/-- Apply one record of an image: its type and data. `cfg` says that the image held a CONFIG before it. -/
def Blk.putRecord (s : Blk) (i rtype : Nat) (l : List Byte) (cfg : Bool) : Option Blk :=
  let x := s.inst i
  match rtype with
  | 1 => if x.configFits l then some s else none
  | 2 => s.putGranule i l
  | 3 => if !cfg ∨ l.length % 48 ≠ 0 then none else Blk.putQueues (l.length / 48) s i l
  | 4 => if l.length ≠ 4 * x.cCount then none
    else some (forN x.cCount (fun k t => t.setF F.FT_RCNT_COUNT (x.cBase + k) (fieldAt l (4 * k) 4)) s)
  | 5 =>
    let m := s.ttImage i l
    if !m.ok ∨ m.entries.length > x.nTte then none
    else some (s.modTt i (fun t => { st := .loaded, image := l, period := m.period, groups := m.groups, entries := m.entries,
                                     haltStatus := t.haltStatus, b0 := t.b0, nsteps := t.nsteps, lastStop := t.lastStop }))
  | 6 => if l.length ≠ 16 ∨ fieldAt l 0 1 > 1 ∨ !(allZero (slice l 2 14)) then none
    else some ((s.setF F.COLI_CFG_COLL_MODE i (fieldAt l 0 1)).setF F.FTI_CFG_WEIGHT i (fieldAt l 1 1))
  | 7 => if l = [] then some s else none
  | _ => none

/-- Apply the records from offset `o`: the state, and the offset of the record that stopped the restore. -/
def Blk.restoreFrom : Nat → Blk → Nat → List Byte → Nat → Bool → Blk × Option Nat
  | 0, s, _, _, _, _ => (s, none)
  | n + 1, s, i, l, o, cfg =>
    let h := slice l o 16
    let len := fieldAt h 4 4
    let d := (l.drop (o + 16)).take len
    let rt := fieldAt h 0 2
    if o + 16 + len > l.length ∨ fieldAt h 2 2 ≠ 0 ∨ fieldAt h 12 4 ≠ 0 ∨ fieldAt h 8 4 ≠ (crc32c d).toNat then (s, some o)
    else match s.putRecord i rt d cfg with
      | none => (s, some o)
      | some s1 => if rt = 7 then (s1, none) else Blk.restoreFrom n s1 i l (o + alignUp (16 + len) 64) (cfg || decide (rt = 1))

/-- RESTORE_INSTANCE: `image` is what the host returned, none where it refused. -/
def restoreInstanceOp (image : Option (List Byte)) (s : Blk) : Blk :=
  s.withCmd 0x15 (fun c p t =>
    if (t.inst c.inst).st ≠ .frozen then t.reply c .badDesc []
    else match image with
      | none => t.reply c .hostFault []
      | some l0 =>
        let l := l0.take (fieldAt p 8 4)
        if fieldAt l 0 4 ≠ 0x49534731 ∨ fieldAt l 4 2 ≠ 1 then t.reply c .badDesc [0]
        else
          let r := Blk.restoreFrom (fieldAt l 8 4) t c.inst l 64 false
          match r.2 with
          | none => r.1.reply c .ok []
          | some o => r.1.reply c .badDesc [o])

end Sys2Proof.Machine
end

