-- ==== Sys2Proof/Machine/RelCmd.lean ====
section
/-! DEFINITION. The error handler, the scrubber, the Sideboard's services and forced actions on cores (R156, R424 to R438, R477). -/

namespace Sys2Proof.Machine

/-! ## The error handler (R432, R433) -/

/-- The first item of the highest severity. -/
def topItem : List ErrItem → Option ErrItem
  | [] => none
  | e :: t => match topItem t with
    | none => some e
    | some b => if b.sev > e.sev then some b else some e

/-- The item that the handler works on next: a captured one of higher severity pre-empts the one being handled. -/
def Blk.handlerPick (s : Blk) : Blk :=
  let r := s.rel
  match topItem r.pend, r.handling with
  | some e, [] => { s with rel := { r with pend := r.pend.erase e, handling := [(e, 0)] } }
  | some e, h :: t => if e.sev > h.1.sev then { s with rel := { r with pend := r.pend.erase e, handling := (e, 0) :: h :: t } } else s
  | none, _ => s

/-- Write a log entry (R433). -/
def Blk.logEntry (s : Blk) (e : ErrItem) : Blk :=
  let r := s.rel
  if (r.prod + 2 ^ 32 - s.getF F.REL_LOG_CONS_CONS) % 2 ^ 32 ≥ 64 then s.lostErr e.sev
  else
    let s1 := { s with rel := { r with log := tblSet (r.prod % 64) e.bytes r.log, prod := (r.prod + 1) % 2 ^ 32 } }.latch 8
    if e.inst < 64 ∧ (s.inst e.inst).vf ≠ 0 then s1.latchVf (s.inst e.inst).vf 1 else s1

/-- ERROR_HANDLE: the handler takes the next action on the highest-severity error: its log entry, its report, or its placement
decision, which the model makes when the error is detected (DESIGN CHOICE, log entry 85). -/
def errorHandleOp (s : Blk) : Blk :=
  if s.rel.fatal then s
  else
    let s1 := s.handlerPick
    match s1.rel.handling with
    | [] => s
    | (e, n) :: t =>
      let next := fun (u : Blk) => { u with rel := { u.rel with handling := (e, n + 1) :: t } }
      match n with
      | 0 => next (s1.logEntry e)
      | 1 => next (s1.toSideboard e)
      | _ => { s1 with rel := { s1.rel with handling := t } }

/-! ## The scrubber (R88, R156, R412) -/

/-- The scrubber reads a side store: no instruction owns an uncorrectable error that it finds, which is charged to the core, and the step of the
thread that owns the buffer is replayed (R88, R417). -/
def Blk.scrubSide (s : Blk) (p tb : Nat) (hw : HwErr) : Blk :=
  let e : Info := { unit := s.chargeUnit p none }
  match hw with
  | .eccCorr => (s.count F.REL_CNT_COUNT relCntCe).relEvent relEccCe e
  | .eccUncorr =>
    let s1 := (s.count F.REL_CNT_COUNT relCntUe).relEvent relEccUe e
    match ((s.core p).tile tb).owner with
    | some t => s1.faultH (s.th p t).step (s.chargeUnit p none) p { cause := .eccUncorr, pc := 0, addr := 0 }
    | none => s1
  | _ => s

/-- The scrubber reads the word at a DPA, or all of its block, whose check it then verifies. -/
def Blk.scrubDpa (s : Blk) (n : Nat) (block : Bool) (hw : HwErr) : Blk :=
  let k := dpaKind n
  let b := n / 4096 * 4096
  let checked := k == .sram || (decide (stagingBase ≤ n) && decide (n < stagingBase + 2 ^ 26))
  if !(k = .sram ∨ k = .hub) ∨ (k = .sram ∧ s.level (regionOfDpa n) = 7) then s
  else if !block then (s.hwRead hw n).readCheck (n / 8 * 8) 8
  else
    let s1 := s.hwRead hw n
    if s1.mem.uncorrIn b 4096 then s1.readCheck b 4096
    else if checked && !(s1.mem.poisoned b) && s1.mem.storedCrc b ≠ crc32c (s1.mem.bytes b 4096) then
      let u := unitOfDpa b
      ((({ s1 with mem := s1.mem.setPoison b }).count F.REL_CNT_COUNT relCntScrub).relEvent relScrubCheck { unit := u, info1 := b }).histEvent u
    else s1

/-- SCRUB. -/
def scrubOp (x : ScrubAt) (hw : HwErr) (s : Blk) : Blk :=
  match x with
  | .word a => s.scrubDpa a.toNat false hw
  | .block a => s.scrubDpa a.toNat true hw
  | .side p tb => s.scrubSide p.toNat tb.toNat hw

/-! ## The Sideboard (R429, R435 to R438, R477) -/

/-- SIDEBOARD_HEARTBEAT: every 10 s. -/
def sideboardHeartbeatOp (s : Blk) : Blk := if s.power.aon then s.report none else s

/-- A core is retired, in its role or in waiting for a move. -/
def Blk.isRetired (s : Blk) (u : Nat) : Bool := isCoreUnit u && (s.pl (u / 17)).role (u % 17) == .retired

/-- HIST_FLASH_WRITE: the oldest unwritten history event goes to flash, or the write fails (R429). -/
def histFlashWriteOp (ok : Bool) (s : Blk) : Blk :=
  match s.rel.unsaved with
  | [] => s
  | (u, _) :: t =>
    if !s.rel.histOk then s
    else if ok then
      { s with rel := { s.rel with unsaved := t, flash := tblSet u (s.hist u, s.isRetired u) s.rel.flash } }
    else { s with rel := { s.rel with histOk := false } }.relEvent relHistFail { unit := u }

/-- A write of REL_FORCE that the Sideboard has accepted: GO reads 0 again. -/
def Blk.putForce (s : Blk) (u act : Nat) : Blk := s.setReg .REL_FORCE 0 (BitVec.ofNat 64 (u + act * 2 ^ 20))
/-- The units that are cores. -/
def coreUnit (u : Nat) : Bool := decide (u < 17408)

/-- A core counts as due now; ACTION stays as it was written, 0 or 3 (R22). -/
def Blk.forceTest (s : Blk) (n act : Nat) : Blk :=
  let s1 := s.putForce n act
  if coreUnit n then (s1.modHist n (fun h => { h with due := true })).testSpare (n / 17) (n % 17) else s1

/-- REL_FORCE_TEST. -/
def relForceTestOp (u : BitVec 20) (s : Blk) : Blk := s.forceTest u.toNat 0

/-- REL_FORCE_RETIRE. -/
def relForceRetireOp (u : BitVec 20) (s : Blk) : Blk :=
  let n := u.toNat
  let s1 := s.putForce n 1
  if coreUnit n && !(s.isRetired n) then s1.retireCore (n / 17) (n % 17) else s1

/-- REL_FORCE_RETURN: a RETIRED core that serves no position runs the test (R428). -/
def relForceReturnOp (u : BitVec 20) (s : Blk) : Blk :=
  let n := u.toNat
  let s1 := s.putForce n 2
  if coreUnit n && s.isRetired n && ((s.pl (n / 17)).posOf (n % 17)).isNone then
    (s1.modHist n (fun h => { h with returning := true, failedOnce := false })).startTest (n / 17) (n % 17)
  else s1

/-- HQ_UNIT_WRITE: a query of a unit's history. -/
def hqUnitWriteOp (v : BitVec 32) (s : Blk) : Blk := (s.setF F.REL_HQ_UNIT_UNIT 0 (v.toNat % 2 ^ 24)).setF F.REL_HQ_RES_VALID 0 0

/-- HQ_ANSWER. -/
def hqAnswerOp (s : Blk) : Blk :=
  if s.flag F.REL_HQ_RES_VALID then s
  else
    let n := s.eventsIn (s.getF F.REL_HQ_UNIT_UNIT)
    s.setReg .REL_HQ_RES 0 (BitVec.ofNat 64 (min n 15 + 16 + 32 * b2n (decide (s.evtThr ≤ n))))

/-- The hottest region in °C. -/
def Blk.hottest (s : Blk) : Nat := (List.range 64).foldl (fun m r => max m (s.getF F.REG_PWR_TEMP r)) 0

/-- MCTP_MESSAGE: the Sideboard answers with its sensors: VIN, input current, input power, the hottest region, the hub quarters.
`warn` says that one of them is above its PLDM warning threshold, on which SMB_ALERT_N is asserted (DESIGN CHOICE, log entry 36). -/
def mctpMessageOp (warn : Bool) (s : Blk) : Blk :=
  if !s.power.aon then s
  else { s with smbAlert := warn }.emit (.mctp (toLe 2 (s.getF F.PWR_IN_VIN) ++ toLe 2 (s.getF F.PWR_IN_IIN) ++ toLe 2 (s.getF F.PWR_PAVG_P_AVG) ++
    toLe 1 s.hottest ++ toLe 4 (s.getF F.PWR_HUB_TEMP_TEMP)))

/-- REDFISH_REQUEST. -/
def redfishRequestOp (q : RedfishReq) (s : Blk) : Blk :=
  let r := s.rel
  if !s.power.aon then s
  else match q with
    | .subscribe c => { s with rel := { r with subs := if r.subs.contains c then r.subs else r.subs ++ [c] } }
    | .unsubscribe c => { s with rel := { r with subs := r.subs.filter (fun d => d ≠ c) } }
    | .settings u f m p => { s with rel := { r with udpEn := u, redfishEn := f, minSev := m.toNat, udpPort := p.toNat } }
    | .reports => s.emit (.reports r.reports.flatten)
    | .other => s

/-- AON_PARITY (R434): which check of the always-on domain fails. -/
def aonParityOp (x : AonFault) (s : Blk) : Blk :=
  s.fatal (match x with
    | .parity => fatalAon
    | .controlCore => fatalCtrlCore
    | .hutch => fatalHutch)

end Sys2Proof.Machine
end

