-- ==== Sys2Proof/Machine/Power.lean ====
section
/-! DEFINITION. Power, clocks and temperature: domains, region and device levels, frequency, caps, the input, the reference clocks and
the reset of a position (R440 to R454, R466 to R475). -/

namespace Sys2Proof.Machine

/-! ## Domains and regions (R440) -/

/-- Set a region's level. -/
def Blk.setLevel (s : Blk) (r l : Nat) : Blk := s.setF F.REG_PWR_LEVEL r l

/-- A region in the region-disable mask of the battery words is never powered. -/
def Blk.regionDisabled (s : Blk) (r : Nat) : Bool :=
  s.boot.bbrValid && (s.reg .BBR_WORD (8 + r / 32)).toNat.testBit (r % 32)

/-- Every package link end loses power. -/
def Blk.linksOff (s : Blk) : Blk := { s with links := [], flights := [] }

/-- The switched domains go off and lose their state; the always-on domain keeps its own (R440, R446; DESIGN CHOICE, log entry 77). -/
def Blk.switchOff (s : Blk) : Blk :=
  let s1 := forN 8 (fun n t => t.portPower n false) s
  let s2 := forN 64 (fun r t => t.setLevel r 7) s1
  { s2.linksOff with
    cores := [], parked := [], placedOf := [], mbox := [], hreads := [], reqs := [], waitPkts := [], sendAcc := [], flows := [], moves := [], steps := [], bias := [],
    ft := {}, ctxs := [], hutch := {}, link := { s.link with active := false, lps := .training },
    power := { s2.power with rails := false, pwrGood := false, exiting := [], dev := 0, devExit := false } }

/-- PWR_PD_ON0: region domains that are on. -/
def Blk.pdOn0 (s : Blk) : Nat :=
  (List.range 64).foldl (fun n r => if s.level r ≤ 2 ∧ s.power.dev = 0 then n + 2 ^ r else n) 0

/-- PWR_PD_ON1: PD64 to PD79. -/
def Blk.pdOn1 (s : Blk) : Nat :=
  let on := s.power.pwrGood
  let ports := (List.range 8).foldl (fun n k => if on ∧ s.power.dev ≠ 4 ∧ (s.getF F.PWR_CTL_PORT_PWR).testBit k then n + 2 ^ k else n) 0
  let die := fun (d : Nat) => (List.range 64).any (fun r => dieOf r == d && decide (s.level r ≤ 2))
  ports + b2n on * 2 ^ 8 + (if on ∧ s.power.dev ≠ 4 then 7 * 2 ^ 9 else 0) +
    (List.range 4).foldl (fun n d => if die d then n + 2 ^ (12 + d) else n) 0

/-! ## Boundary scan (R466, R479) -/

/-- The low-speed signals of M-A that boundary scan reaches; the TAP's own five pins carry the scan. -/
inductive ScanPin where
  | pwrEn | pwrGood | perstN | wakeN | clkreqN | thermTripN | smbClk | smbDat | smbAlertN | ga0 | ga1 | timePpsIn | time10mIn | timePpsOut
  deriving DecidableEq, Repr

/-- Every pin of the chain. -/
def ScanPin.all : List ScanPin :=
  [.pwrEn, .pwrGood, .perstN, .wakeN, .clkreqN, .thermTripN, .smbClk, .smbDat, .smbAlertN, .ga0, .ga1, .timePpsIn, .time10mIn, .timePpsOut]

/-- The pins of the always-on domain: PWR_EN and PWR_GOOD, and the Sideboard's SMBus and its address (R466, R472, R477); of the others the spec does
not say it (DESIGN CHOICE, log entry 111). -/
def ScanPin.aon : ScanPin → Bool
  | .pwrEn | .pwrGood | .smbClk | .smbDat | .smbAlertN | .ga0 | .ga1 => true
  | .perstN => Config.aonPin 0
  | .wakeN => Config.aonPin 1
  | .clkreqN => Config.aonPin 2
  | .thermTripN => Config.aonPin 3
  | .timePpsIn => Config.aonPin 4
  | .time10mIn => Config.aonPin 5
  | .timePpsOut => Config.aonPin 6

/-- The pins in the boundary-scan chain, and what the length register that IDCODE selects reports (R479): nothing while 48 V is absent (R466). -/
def Blk.scanChain (s : Blk) : List ScanPin :=
  if !s.power.aon then [] else if s.power.pwrEn then ScanPin.all else ScanPin.all.filter ScanPin.aon
def Blk.scanLength (s : Blk) : Nat := s.scanChain.length

/-! ## Region levels (R441 to R443) -/

/-- Exit latencies in ns. -/
def exitNs (l : Nat) : Nat := if l = 1 then 2000 else if l = 2 then 50000 else 0

/-- The lesser of two tolerances; none is unbounded. -/
def minTol : Option Nat → Option Nat → Option Nat
  | none, b => b
  | a, none => a
  | some a, some b => some (min a b)

/-- INSI_LAT: the hint in force, else LAT_DEF; 0 means unbounded (R229, R410). -/
def Blk.insiLat (s : Blk) (i : Nat) : Nat :=
  match (s.inst i).hint with
  | some (t, _) => t
  | none => (s.inst i).latDef
def Blk.insiTol (s : Blk) (i : Nat) : Option Nat := if s.insiLat i = 0 then none else some (s.insiLat i)

/-- The tolerance that an instance's timetable gives (R442). -/
def Blk.slackTol (s : Blk) (i : Nat) : Option Nat :=
  let t := s.tt i
  match t.st with
  | .armed => some ((t.b0 - s.time.beat) * s.beatQ * 250)
  | .running => if s.slack i = 0xFFFFFFFF then none else some (s.slack i * s.beatQ * 250)
  | _ => none

/-- The tolerance T of a region. -/
def Blk.regionTol (s : Blk) (r : Nat) : Option Nat :=
  match s.ownerOf r with
  | none => s.hostLatency
  | some i => minTol s.hostLatency (minTol (s.insiTol i) (s.slackTol i))

/-- T is greater than `n`. -/
def tolAbove (t : Option Nat) (n : Nat) : Bool := match t with
  | none => true
  | some v => decide (n < v)

/-- The deepest level of PL0 to PL2 that T and MAX_PL allow. -/
def Blk.levelFor (s : Blk) (t : Option Nat) : Nat :=
  let m := s.getF F.PWR_CTL_MAX_PL
  if 2 ≤ m ∧ tolAbove t 50000 then 2 else if 1 ≤ m ∧ tolAbove t 2000 then 1 else 0

/-- A region has no live thread, no work of a core, no job, command or move in progress (R441). -/
def Blk.regionIdle (s : Blk) (r : Nat) : Bool :=
  !(s.cores.any (fun c => regionOfPos c.1 == r && (s.posLive c.1 || !c.2.mq.isEmpty || !c.2.xfer.isEmpty || !c.2.deliv.isEmpty))) &&
    !(s.steps.any (fun p => p.2.st != .waitInput && (s.maskRegions p.2.inst p.2.rmask).contains r)) &&
    !(s.moves.any (fun m => s.ownerOf r == some m.2.inst)) && !(s.power.exiting.contains r)

/-- R442 for one region at a beat boundary. -/
def Blk.evalRegion (s : Blk) (r : Nat) : Blk :=
  let cur := s.level r
  let want := s.levelFor (s.regionTol r)
  if cur = 7 ∨ s.power.dev ≠ 0 then s
  else if want < cur then s.wake r
  else if cur < want ∧ s.regionIdle r then s.setLevel r want
  else s

/-- PL3 (R444): every condition for entry holds. -/
def Blk.pl3Ready (s : Blk) : Bool :=
  decide (3 ≤ s.getF F.PWR_CTL_MAX_PL) && decide (s.power.dev = 0) && s.activeTts.isEmpty &&
    (List.range 64).all (fun r => s.level r == 2 || (s.level r == 7 && s.regionDisabled r)) && s.power.exiting.isEmpty &&
    tolAbove (s.liveIns.foldl (fun t p => minTol t (s.insiTol p.1)) s.hostLatency) 1999999

/-- PL4 (R445): the PF is in D3hot, every instance is FREE and MAX_PL allows it. -/
def Blk.pl4Ready (s : Blk) : Bool :=
  decide (s.getF F.PWR_CTL_MAX_PL = 4) && decide (s.power.dev ≠ 4) && (s.fn 0).d3 && s.liveIns.isEmpty && s.power.pwrGood

/-- Enter PL4: the ports stop, the regions lose their contents, the engines of the hub lose their state. -/
def Blk.enterPl4 (s : Blk) : Blk :=
  let s1 := forN 8 (fun n t => t.portPower n false) s
  let s2 := forN 64 (fun r t => t.setLevel r 7) s1
  { s2.linksOff with
    cores := [], parked := [], placedOf := [], mbox := [], reqs := [], waitPkts := [], flows := [], moves := [], bias := [], ft := {}, ctxs := [],
    hutch := { s2.hutch with keks := [], slots := [] }, power := { s2.power with dev := 4, devExit := false, exiting := [] } }

/-- Levels at a beat boundary: regions, then the device. -/
def Blk.evalLevels (s : Blk) : Blk :=
  let s1 := forN 64 (fun r t => t.evalRegion r) s
  if s1.pl3Ready then { s1 with power := { s1.power with dev := 3 } } else if s1.pl4Ready then s1.enterPl4 else s1

/-- Regions that are not disabled are powered and zeroised (R400, R445, R455). -/
def Blk.powerRegions (s : Blk) : Blk :=
  forN 64 (fun r t => if t.regionDisabled r then t
    else { t.setLevel r 0 with mem := t.mem.zeroise (r * 2 ^ 29) (2 ^ 29) }) s

/-- Every port is on or off as PORT_PWR says, where the switched domains are on and the device is not in PL4. -/
def Blk.applyPorts (s : Blk) : Blk :=
  forN 8 (fun n t => t.portPower n (t.power.pwrGood && decide (t.power.dev ≠ 4) && (t.getF F.PWR_CTL_PORT_PWR).testBit n)) s

/-- D3HOT_ENTER (R336, R352, R445): `pmeEn` is PME_En as the host has set it (DESIGN CHOICE, log entry 88). -/
def d3hotEnterOp (f : BitVec 6) (pmeEn : Bool) (s : Blk) : Blk :=
  let s1 := s.modFn f.toNat (fun x => { x with d3 := true, pmeEn := pmeEn })
  if f = 0 ∧ s1.pl4Ready then s1.enterPl4 else s1

/-- D0_RETURN (R352, R445): WAKE_N is released; the exit of PL4, then held completions, then pending messages (DESIGN CHOICE, log entry 78). -/
def d0ReturnOp (f : BitVec 6) (s : Blk) : Blk :=
  let n := f.toNat
  if !(s.fn n).d3 then s
  else
    let held := (s.fn n).heldCpl
    let s1 := s.modFn n (fun x => { x with d3 := false, heldCpl := [], wake := false })
    let s2 := if f = 0 ∧ s1.power.dev = 4 then ({ s1 with power := { s1.power with dev := 0 } }).powerRegions.applyPorts else s1
    (forL held (fun c t => t.postCpl c.1 c.2) s2).flushPba n

/-- WAKE_N is asserted until the host clears PME_Status or returns the function to D0 (R352). -/
def Blk.wakeN (s : Blk) : Bool := s.fns.any (fun p => p.2.wake)
/-- CLKREQ_N is asserted: the link is not in L1.1 or L1.2 (R466). -/
def Blk.clkreqN (s : Blk) : Bool := s.link.lps != .l11 && s.link.lps != .l12

/-! ## Frequency, power and temperature (R447 to R449) -/

/-- The frequency that a region's clock goes to. -/
def Blk.freqAim (s : Blk) (r : Nat) : Nat := min (s.getF F.FREQ_TGT_MHZ r) (min (s.getF F.FREQ_NOW_CAP r) (s.getF F.PWR_CAPLIM_CAP))

/-- FREQ_STEP: one step of 50 MHz toward the aim. -/
def freqStepOp (r : BitVec 6) (s : Blk) : Blk :=
  let n := r.toNat
  let now := s.getF F.FREQ_NOW_MHZ n
  let aim := s.freqAim n
  if now < aim then s.setF F.FREQ_NOW_MHZ n (now + 50) else if aim < now then s.setF F.FREQ_NOW_MHZ n (now - 50) else s

/-- FREQ_TGT_WRITE: rounded down to a multiple of 50 MHz, then clamped to 800 to 1,600. -/
def freqTgtWriteOp (r : BitVec 6) (v : BitVec 32) (s : Blk) : Blk :=
  s.setF F.FREQ_TGT_MHZ r.toNat (max 800 (min 1600 (v.toNat % 2 ^ 11 / 50 * 50)))

/-- CAP_W, where values outside 1,000 to 3,000 count as 3,000. -/
def Blk.capW (s : Blk) : Nat := let n := s.getF F.PWR_CAP_CAP_W; if 1000 ≤ n ∧ n ≤ 3000 then n else 3000
/-- THROT_C, where values outside 80 to 95 count as 95. -/
def Blk.throtC (s : Blk) : Nat := let n := s.getF F.PWR_THERM_THROT_C; if 80 ≤ n ∧ n ≤ 95 then n else 95

/-- POWER_SAMPLE: the input power is VIN (10 mV) by IIN (10 mA); its average over the last ten samples moves the device power cap
(DESIGN CHOICE, log entry 75). -/
def powerSampleOp (vin iin : BitVec 16) (s : Blk) : Blk :=
  let l := (vin.toNat * iin.toNat :: s.power.samples).take 10
  let sum := l.foldl (· + ·) 0
  let avg := sum / (l.length * 10000)
  let s1 := ((s.setReg .PWR_IN 0 (BitVec.ofNat 64 (vin.toNat + iin.toNat * 2 ^ 16))).setF F.PWR_PAVG_P_AVG 0 (min avg 65535)).setF F.PWR_PEAK_PEAK 0
    (max (min avg 65535) (s.getF F.PWR_PEAK_PEAK))
  let cap := s.getF F.PWR_CAPLIM_CAP
  let lim := s.capW * l.length * 10000
  let put := fun (hit : Bool) (row : Nat) (t : Blk) => { t with power := { t.power with samples := l, capHit := hit, lowRow := row } }
  if !(s.flag F.PWR_CTL_CAP_EN) then put false 0 s1
  else if lim < sum then
    let s2 := put true 0 (s1.setF F.PWR_CAPLIM_CAP 0 (max 800 (cap - 50)))
    if s.power.capHit then s2 else s2.event .pwr 0 1 { info0 := avg }
  else if sum * 100 < lim * 95 then
    let row := s.power.lowRow + 1
    if row ≥ 10 then put false 0 (s1.setF F.PWR_CAPLIM_CAP 0 (min 1600 (cap + 50))) else put false row s1
  else put s.power.capHit 0 s1

/-- One region's reading (R449). -/
def Blk.regionTemp (s : Blk) (r t : Nat) : Blk :=
  let s1 := s.setF F.REG_PWR_TEMP r t
  let cap := s.getF F.FREQ_NOW_CAP r
  let p := s1.power
  if s.throtC ≤ t then
    let s2 := { s1.setF F.FREQ_NOW_CAP r (max 800 (cap - 50)) with power := { p with coolRow := tblErase r p.coolRow } }
    if p.throttled.contains r then s2
    else ({ s2 with power := { s2.power with throttled := r :: p.throttled } }.count F.THROTTLE_CNT_COUNT).event .pwr 0 0 { info0 := r }
  else if t + 5 < s.throtC then
    let n := tblGet 0 r p.coolRow + 1
    let done := { p with throttled := p.throttled.filter (fun x => x ≠ r) }
    if n ≥ 10 then { s1.setF F.FREQ_NOW_CAP r (min 1600 (cap + 50)) with power := { done with coolRow := tblErase r p.coolRow } }
    else { s1 with power := { done with coolRow := tblSet r n p.coolRow } }
  else { s1 with power := { p with coolRow := tblErase r p.coolRow } }

/-- A sensor at 105 °C or above (R449): sensor k < 64 is region k's, 64 to 67 the hub's. -/
def Blk.hotSensor (s : Blk) (k t : Nat) : Blk :=
  if t < 105 then { s with power := { s.power with hot := s.power.hot.filter (fun x => x ≠ k) } }
  else
    let s1 := if k < 64 then s.setF F.FREQ_NOW_CAP k 800 else forN 64 (fun r u => u.setF F.FREQ_NOW_CAP r 800) s
    if s.power.hot.contains k then s1
    else { s1 with power := { s1.power with hot := k :: s1.power.hot } }.event .pwr 0 2 { info0 := k }

/-- The trip of R449: THERM_TRIP_N, the switched domains off, the FATAL cause. -/
def Blk.thermTrip (s : Blk) : Blk :=
  if s.power.trip then s
  else ({ s with power := { s.power with trip := true } }.switchOff.event .pwr 0 3).fatal fatalTherm

/-- THERMAL_SAMPLE: the readings of the 64 regions and of the four quarters of the hub, in °C. -/
def thermalSampleOp (temps : List (BitVec 8)) (s : Blk) : Blk :=
  let l := (temps.map (fun t => t.toNat)).zip (List.range 68)
  let s1 := forL l (fun x t => if x.2 < 64 then t.regionTemp x.2 x.1
    else t.setReg .PWR_HUB_TEMP 0 (BitVec.ofNat 64 (putBits (t.reg .PWR_HUB_TEMP 0).toNat (8 * (x.2 - 64) + 7) (8 * (x.2 - 64)) x.1))) s
  let s2 := forL l (fun x t => t.hotSensor x.2 x.1) s1
  if l.any (fun x => decide (110 ≤ x.1)) then s2.thermTrip else s2

/-! ## Clocks (R450, R451, R461) -/

/-- A logical port that is enabled calibrates its lanes again. -/
def Blk.recalibrate (s : Blk) (l : Nat) : Blk :=
  let st := (s.lp l).st
  if st = .off then s
  else
    let s1 := s.calibrate (l / 8) (laneMask (s.lanesOf l))
    if st = .disabled then s1 else s1.modLp l (fun x => { x with st := .cal })

/-- REF_LOST: PLLs switch to the internal oscillator; every Ethernet lane loses lock and its port goes DOWN. -/
def refLostOp (s : Blk) : Blk :=
  if s.flag F.CLK_REF_ETH_INT then s
  else
    let s1 := ((s.setF F.CLK_REF_ETH_OK 0 0).setF F.CLK_REF_ETH_INT 0 1).event .clk 0 0
    let s2 := forN 64 (fun l t => linkDownOp l t) s1
    let s3 := (List.range 128).foldl (fun t k => t.setLock (152 + k) false) s2
    forN 8 (fun n t => t.modPort n (fun p => { p with lanes := 0, busy := 0 })) s3

/-- REF_RESTORED: the PLLs switch back and the lanes calibrate again. -/
def refRestoredOp (s : Blk) : Blk :=
  if !(s.flag F.CLK_REF_ETH_INT) then s.setF F.CLK_REF_ETH_OK 0 1
  else
    let s1 := ((s.setF F.CLK_REF_ETH_OK 0 1).setF F.CLK_REF_ETH_INT 0 0).event .clk 0 1
    forN 64 (fun l t => t.recalibrate l) s1

/-- PCIE_REFCLK_LOST: the host link goes down; the rest runs on. -/
def pcieRefclkLostOp (s : Blk) : Blk :=
  let s1 := hostLinkDownOp ({ s with link := { s.link with refclk := false } }.setF F.CLK_REF_PCIE_OK 0 0)
  [288, 289, 290, 291].foldl (fun t d => t.setLock d false) s1

/-- PCIE_REFCLK_RESTORED: the link can train again. -/
def pcieRefclkRestoredOp (s : Blk) : Blk := { s with link := { s.link with refclk := true } }.setF F.CLK_REF_PCIE_OK 0 1

/-- PLL_UNLOCK: the PLL of a clock domain loses lock. -/
def pllUnlockOp (d : Nat) (s : Blk) : Blk :=
  if d ≤ 300 then ((s.setLock d false).count F.PLL_UNLOCK_CNT_COUNT).event .clk 0 2 { info0 := d } else s

/-! ## The input and the sequence of the module (R466, R471 to R473) -/

/-- VIN_SAMPLE: VIN in 10 mV. Below 30 V the always-on domain goes off (DESIGN CHOICE, log entry 76). -/
def vinSampleOp (v : BitVec 16) (s : Blk) : Blk :=
  let n := v.toNat
  let s1 := s.setF F.PWR_IN_VIN 0 n
  let out := decide (n < 4000) || decide (6000 < n)
  let far := decide (n < 3800) || decide (6200 < n)
  let row := if far then s.power.vinRow + 1 else 0
  let s2 := if out && !s.power.vinBad then s1.event .pwr 0 4 { info0 := n } else s1
  let s3 := { s2 with power := { s2.power with vinBad := out, vinRow := row } }
  if n < 3000 then { s3.switchOff with power := { s3.switchOff.power with aon := false, vinOff := true } }
  else if row = 10 then
    { s3.switchOff with power := { s3.switchOff.power with vinOff := true } }.toSideboard (s3.mkErr 0 .pwr 4 { info0 := n })
  else s3

/-- PWR_EN takes effect: the switched rails ramp, where no trip and no input out of range holds them off. -/
def Blk.enableRails (s : Blk) : Blk :=
  if s.power.trip ∨ s.power.vinBad ∨ !s.power.aon then s
  else { s with power := { s.power with rails := true, vinOff := false } }

/-- PWR_EN_ASSERT: within the hold after a deassertion it waits for the end of the hold. -/
def pwrEnAssertOp (s : Blk) : Blk :=
  if s.power.pwrEn then s
  else
    let s1 := { s with power := { s.power with pwrEn := true } }
    if s.power.hold then { s1 with power := { s1.power with reassert := true } } else s1.enableRails

/-- PWR_EN_DEASSERT: the switched domains go off, and the hold of 100 ms begins. -/
def pwrEnDeassertOp (s : Blk) : Blk :=
  if !s.power.pwrEn then s
  else
    let s1 := s.switchOff
    { s1 with power := { s1.power with pwrEn := false, hold := true, reassert := false, d3cold := true } }

/-- PWR_EN_HOLD_END. -/
def pwrEnHoldEndOp (s : Blk) : Blk :=
  let s1 := { s with power := { s.power with hold := false, reassert := false } }
  if s.power.hold ∧ s.power.reassert ∧ s.power.pwrEn then s1.enableRails else s1

/-- Clock domains that a PLL on a switched rail feeds (R450): regions, dies, MAC and the hub. -/
def pllDomains : List Nat := List.range 152 ++ (List.range 8).map (fun k => 280 + k) ++ (List.range 8).map (fun k => 292 + k)

/-- PWR_GOOD_ASSERT: every switched rail is in regulation. After D3cold the power-on reset comes first (R446). -/
def pwrGoodAssertOp (s : Blk) : Blk :=
  if s.power.rails ∧ !s.power.pwrGood ∧ !s.power.d3cold then
    pllDomains.foldl (fun t d => t.setLock d true) { s with power := { s.power with pwrGood := true } }
  else s

/-- RAIL_FAULT: PWR_GOOD falls. -/
def railFaultOp (s : Blk) : Blk := if s.power.pwrEn then { s with power := { s.power with pwrGood := false } } else s

/-! ## The reset of a position (R453, R454) -/

/-- A reset of a higher level is in progress at a position: PERST_N, or the reset of the instance that owns its region (R452). -/
def Blk.resetAbove (s : Blk) (p : Nat) : Bool :=
  s.power.perst || (match s.ownerOf (regionOfPos p) with
    | none => false
    | some i => (s.inst i).st == .resetting || (s.inst i).st == .destroying)

/-- POSITION_RESET: a write of GLB_POSRST with GO. During a reset of a higher level it is absorbed (R452): the register stays as it was
(DEDUCED, log entry 112). -/
def positionResetOp (pos : BitVec 14) (s : Blk) : Blk :=
  let p := pos.toNat
  if s.resetAbove p then s else
  let sids := ((s.cores.filter (fun c => c.1 == p)).flatMap (fun c => (c.2.threads.filter (fun t => t.2.st != .idle)).map (fun t => t.2.step))).eraseDups
  let s1 := forL sids (fun sid t => t.endStep sid .aborted none) (s.setReg .GLB_POSRST 0 (BitVec.ofNat 64 (p + 2 ^ 31)))
  let c := s1.core p
  let s2 := s1.modCore p (fun _ => { seq := c.seq, lastTid := c.lastTid, sser := c.sser + 1 })
  { s2 with mbox := tblErase p s2.mbox, reqs := s2.reqs.filter (fun r => r.1.1 ≠ p), hreads := s2.hreads.filter (fun r => r.2.pos ≠ p),
            power := { s2.power with posReset := [p] } }

/-- POS_RESET_DONE: the reset of the position has ended; hardware clears GO. -/
def posResetDoneOp (s : Blk) : Blk :=
  if s.power.posReset = [] then s
  else ({ s with power := { s.power with posReset := [] } }.setF F.GLB_POSRST_GO 0 0).event .glb 0 3

end Sys2Proof.Machine
end

