-- ==== Sys2Proof/Machine/Boot.lean ====
section
/-! DEFINITION. Reset, the boot ROM, start-up and the battery domain (R430, R452 to R458). -/

namespace Sys2Proof.Machine

/-- A word of the battery domain. -/
def Blk.bbr (s : Blk) (w : Nat) : Nat := (s.reg .BBR_WORD w).toNat

/-! ## Stored roles (R430) -/

/-- The stored roles of one cluster: the lowest vacated position goes to P16 where it is not RETIRED; the others are UNSERVED. The epoch
counts the position that P16 takes, and not one that only becomes UNSERVED (DESIGN CHOICE, log entry 99). -/
def Blk.clusterRoles (s : Blk) (g : Nat) (retired : List Nat) : Blk :=
  let vac := (List.range 16).filter (fun k => retired.contains k)
  let roles := retired.map (fun c => (c, Role.retired))
  let p := retired.contains 16
  let pl : Placement := match vac, p with
    | k :: t, false => { pmap := tblSet k (some 16) (t.map (fun j => (j, none))), roles := tblSet 16 .serving roles, epoch := 1 }
    | v, _ => { pmap := v.map (fun j => (j, none)), roles := roles }
  let un := if p then vac else vac.drop 1
  (forL un (fun k t => t.relEvent relPosUnserved { unit := unitCore g k }) (s.setPl g pl)).checkSpare g

/-- The Sideboard applies the stored roles: `retired` lists the units whose role RETIRED it holds. -/
def Blk.applyRoles (s : Blk) (retired : List Nat) : Blk :=
  let gs := (retired.map (fun u => u / 17)).eraseDups
  forL gs (fun g t => t.clusterRoles g ((List.range 17).filter (fun c => retired.contains (unitCore g c)))) s

/-! ## The resets of R453 -/

/-- Battery-backed words. -/
def Blk.bbrRegs (s : Blk) : Tbl (Reg × Nat) Word := s.regs.filter (fun p => p.1.1 == .BBR_WORD)

/-- What both device resets share: the input, the pins and the rails stand, as do fuses and what the device has sent. -/
def Blk.resetBase (s : Blk) : Blk :=
  let p := s.power
  { regs := s.bbrRegs, boot := { s.boot with running := false, rtcLow := 0 }, link := { refclk := s.link.refclk },
    power := { aon := p.aon, pwrEn := p.pwrEn, pwrGood := p.pwrGood, hold := p.hold, reassert := p.reassert, perst := p.perst, vinOff := p.vinOff,
               vinBad := p.vinBad, rails := p.rails, d3cold := p.d3cold, vinRow := p.vinRow },
    out := s.out, fresh := s.fresh }

/-- What the Sideboard keeps in flash and in its SPI configuration. -/
def RelSt.flashed (r : RelSt) : RelSt :=
  { hist := r.flash.map (fun p => (p.1, p.2.1)), flash := r.flash, udpEn := r.udpEn, redfishEn := r.redfishEn, minSev := r.minSev,
    udpPort := r.udpPort, subs := r.subs, hours := r.hours }

/-- What the Sideboard keeps through PERST_N: all but the error handler's log. -/
def RelSt.perst (r : RelSt) : RelSt :=
  { r with seq := 0, pend := [], handling := [], log := [], prod := 0, fatal := false }

/-- POWER_ON_RESET (R430, R452, R453, R457): words that are not valid are 0; the local time starts from the time-of-day seed; step 1
of start-up ends with the stored roles. -/
def powerOnResetOp (s : Blk) : Blk :=
  let b := s.resetBase
  let s1 := { b with
    regs := if s.boot.bbrValid then b.regs else [],
    rel := s.rel.flashed,
    time := { uptime := s.time.uptime },
    power := { b.power with aon := true, vinOff := false, vinBad := false, vinRow := 0, d3cold := false } }
  let seed := if s.boot.bbrValid then (s.bbr 40 + s.bbr 41 * 2 ^ 32) * 10 ^ 9 else 0
  let s2 := (s1.setNs seed 0).applyRoles ((s.rel.flash.filter (fun p => p.2.2)).map (fun p => p.1))
  s2.setF F.GLB_STATUS_STAGE 0 1

/-- PERST_N_ASSERT (R452, R453): the Sideboard, the battery domain and the local time go on; a trip ends (R473; DESIGN CHOICE, log entry 81). -/
def perstNAssertOp (s : Blk) : Blk :=
  let b := s.resetBase
  let s1 := { b with rel := s.rel.perst, smbAlert := s.smbAlert, power := { b.power with perst := true },
                     time := { s.time with st := .free, srcPresent := false, inRow := 0, outRow := 0, holdMs := 0 } }
  s1.recountBeats.applyRoles (s.place.flatMap (fun p => ((List.range 17).map (fun c => unitCore p.1 c)).filter (fun u => s.isRetired u)))

/-- PERST_N_DEASSERT: start-up begins, with the Sideboard's step 1 done. -/
def perstNDeassertOp (s : Blk) : Blk :=
  if !s.power.perst then s
  else
    let s1 := { s with power := { s.power with perst := false } }
    if s.getF F.GLB_STATUS_STAGE = 0 then s1.setF F.GLB_STATUS_STAGE 0 1 else s1

/-! ## The boot ROM (R455, R456) -/

/-- RB_MIN: the fused counter, as burnt. -/
def Blk.rbMin (s : Blk) : Nat := max Config.rbMin.toNat s.boot.rbBurnt

/-- BOOT_GO: a write of 1 to GLB_BOOT_CTL.GO in WAIT_IMAGE or FAILED. -/
def bootGoOp (s : Blk) : Blk :=
  let st := s.getF F.GLB_BOOT_STATUS_STATE
  if st = 0 ∨ st = 4 then
    (((s.setF F.GLB_BOOT_CTL_GO 0 1).setF F.GLB_BOOT_STATUS_STATE 0 1).setF F.GLB_BOOT_STATUS_ATTEMPTS 0
      (s.getF F.GLB_BOOT_STATUS_ATTEMPTS + 1)).setF F.GLB_STATUS_STAGE 0 3
  else s

/-- The check of R456 that an image of the length GLB_BOOT_LEN fails first, by its ERR code; 0 when it passes every one (DEDUCED, log entry 79). -/
def Blk.imageErr (s : Blk) (image : Option (List Byte)) : Nat :=
  match image with
  | none => 1
  | some m =>
    let f := fun (o k : Nat) => fieldAt m o k
    let flags := f 6 1
    let len := f 24 4
    let key := flags % 4
    if f 0 4 ≠ 0x54555431 ∨ f 4 2 ≠ 1 ∨ bits flags 6 2 ≠ 0 ∨ f 7 1 ≠ 0 ∨ !(allZero (slice m 224 288)) ∨
        s.getF F.GLB_BOOT_LEN_LEN ≠ 512 + len then 2
    else if 8388608 < len ∨ len ≤ f 28 4 then 3
    else if sha384 (slice m 32 96) ≠ (Config.keyHash key).toNat then 4
    else if Config.keyRevoked.toNat.testBit key then 5
    else if !(ecdsaVerify (beAt m 32 48) (beAt m 80 48) (beAt m 128 48) (beAt m 176 48)
        (sha384 (slice m 0 128 ++ List.replicate 96 0 ++ slice m 224 (288 + len)))) then 6
    else if f 8 4 < s.rbMin then 7
    else 0

/-- The settings of the battery-backed words that Tutoby applies at step 5 (R458). -/
def Blk.bbrSettings (s : Blk) : Blk :=
  if !s.boot.bbrValid then s
  else
    let w1 := s.bbr 1
    let w2 := s.bbr 2
    let s1 := if w1.testBit 12 then s.setReg .DEV_ID 0 (BitVec.ofNat 64 (w1 % 2 ^ 13 + 2 ^ 13)) else s
    let src := (s.reg .TT_SRC_CFG).toNat / 2 ^ 9 * 2 ^ 9 + bits w2 3 2 + bits w2 10 10 * 4 + bits w2 9 4 * 8
    let s2 := ttBeatCfgWriteOp (BitVec.ofNat 32 (s.bbr 6 % 2 ^ 18)) (srcWriteOp (BitVec.ofNat 32 src) s1)
    ((s2.setReg .REL_CFG 0 (BitVec.ofNat 64 (s.bbr 32 % 32))).setReg .REL_TEST_CFG 0 (BitVec.ofNat 64 (s.bbr 33 % 2 ^ 16))).setReg .REL_HIST_CFG 0
      (BitVec.ofNat 64 (s.bbr 34 % 2 ^ 12 + s.bbr 34 / 2 ^ 16 * 2 ^ 16))

/-- ETH_EN and DISC_EN of BOOT_OPT; the word's Reset value is 0. -/
def Blk.ethEn (s : Blk) : Bool := s.boot.bbrValid && (s.bbr 2).testBit 0
def Blk.discEn (s : Blk) : Bool := s.boot.bbrValid && (s.bbr 2).testBit 1

/-- Step 6: PORT_CFG, PORT_PWR and LP_EN from the battery-backed words. -/
def Blk.startPorts (s : Blk) : Blk :=
  let w3 := s.bbr 3
  let s1 := forN 8 (fun n t => portCfgWriteOp n (BitVec.ofNat 32 (bits w3 (3 * n + 2) (3 * n))) t) s
  let s2 := (s1.setF F.PWR_CTL_PORT_PWR 0 (w3 / 2 ^ 24)).applyPorts
  forN 64 (fun l t => if (s.bbr (4 + l / 32)).testBit (l % 32) then lpEnWriteOp l (BitVec.ofNat 32 ((t.reg .LP_CFG l).toNat ||| 1)) t else t) s2

/-- Tutoby runs: step 5, and the start of step 6; with ETH_EN = 0 steps 6 and 7 do nothing (R455). The engine of the cipher is enabled
when the known-answer test has passed (R330). -/
def Blk.startTutoby (s : Blk) (m : List Byte) (katOk : Bool) : Blk :=
  let f := fun (o k : Nat) => fieldAt m o k
  let svn := min (f 8 4) 64
  let s1 := { s with boot := { s.boot with running := true, rbBurnt := if bits (f 6 1) 7 7 = 1 ∧ s.rbMin < f 8 4 then max s.boot.rbBurnt svn
                                                                                                 else s.boot.rbBurnt },
                     hutch := { s.hutch with selfDone := true, selfFail := !katOk },
                     emu := { s.emu with fwUp := true, seen := s.getF F.EMU_HEARTBEAT_COUNT } }
  let s2 := ((s1.setF F.EMU_FW_VER_VER 0 (f 12 4)).setF F.EMU_FW_BUILD_BUILD 0 (f 16 4)).setF F.EMU_API_VER_VER 0 (f 20 4)
  let s3 := if katOk then s2.setF F.CIP_CTRL_EN 0 1 else s2.event .cip 0 2
  let s4 := s3.bbrSettings
  let s5 := if s4.power.pwrGood then s4.powerRegions else s4
  let s6 := (s5.setF F.GLB_STATUS_STAGE 0 5).event .glb 0 1
  if s6.ethEn then s6.startPorts else s6.setF F.GLB_STATUS_STAGE 0 7

/-- BOOT_VERIFY: the fetch of the image ends (none where the host refused it), and the boot ROM judges it; `katOk` is the outcome of
the known-answer test. -/
def bootVerifyOp (image : Option (List Byte)) (katOk : Bool) (s : Blk) : Blk :=
  if s.getF F.GLB_BOOT_STATUS_STATE ≠ 1 then s
  else
    let s0 := s.setF F.GLB_BOOT_CTL_GO 0 0
    let m := image.getD []
    let s1 := s0.memWrite 0x1008000000 m
    let err := s.imageErr image
    if err = 0 then (s1.setF F.GLB_BOOT_STATUS_STATE 0 3).startTutoby m katOk
    else ((s1.setF F.GLB_BOOT_STATUS_STATE 0 4).setF F.GLB_BOOT_STATUS_ERR 0 err).event .glb 0 0 { info0 := err }

/-- STARTUP_PORTS_DONE: step 6 ends; discovery runs where DISC_EN = 1 and a port is UP. -/
def startupPortsDoneOp (s : Blk) : Blk :=
  if s.getF F.GLB_STATUS_STAGE ≠ 5 then s
  else if s.discEn && !s.upPorts.isEmpty then (s.setF F.GLB_STATUS_STAGE 0 6).startDisc
  else s.setF F.GLB_STATUS_STAGE 0 7

/-- REGION_OK of the regions that are not disabled. -/
def Blk.enabledMask (s : Blk) : Nat := (List.range 64).foldl (fun n r => if s.regionDisabled r then n else n + 2 ^ r) 0

/-- STARTUP_FABRIC_READY: steps 8 and 9. Until the links are in STREAM start-up waits in step 8. Stored ages are judged as normal
service begins (R424, R426; DEDUCED, log entry 97). -/
def startupFabricReadyOp (s : Blk) : Blk :=
  if s.getF F.GLB_STATUS_STAGE ≠ 7 then s
  else
    let s1 := streamEnWriteOp (BitVec.ofNat 32 ((s.reg .FAB_CTRL).toNat ||| 1)) (s.setReg .REGION_OK 0 (BitVec.ofNat 64 s.enabledMask))
    if s1.fabReady then (((s1.setF F.GLB_STATUS_STAGE 0 9).setF F.GLB_STATUS_READY 0 1).event .glb 0 2).judgeAges else s1

/-! ## The battery domain (R457) -/

/-- VBAT_LOW: without 48 V, VBAT falls below 2.2 V: the words are lost. -/
def vbatLowOp (s : Blk) : Blk :=
  if s.power.aon then s
  else { s with boot := { s.boot with bbrValid := false, vbatOk := false }, regs := s.regs.filter (fun p => !(p.1.1 == .BBR_WORD)) }

/-- Set the RTC's words. -/
def Blk.setRtc (s : Blk) (n : Nat) : Blk :=
  (s.setReg .BBR_WORD 40 (BitVec.ofNat 64 (n % 2 ^ 32))).setReg .BBR_WORD 41 (BitVec.ofNat 64 (n / 2 ^ 32 % 2 ^ 32))

/-- RTC_TICK: one second. -/
def rtcTickOp (s : Blk) : Blk := s.setRtc (s.bbr 40 + s.bbr 41 * 2 ^ 32 + 1)

/-- RTC_WRITE: a write to word 41 loads word 40, as it was last written, with it. -/
def rtcWriteOp (v : BitVec 32) (s : Blk) : Blk := s.setRtc (s.boot.rtcLow + v.toNat * 2 ^ 32)

end Sys2Proof.Machine
end

