-- ==== Sys2Proof/Machine/RegView.lean ====
section
/-! DEFINITION. What software reads in each register: the stored value, or a view of the device's state (R21, R22, and the register
maps). -/

namespace Sys2Proof.Machine

/-- Bits of the numbers below `n` that satisfy `p`. -/
def bitMask (n : Nat) (p : Nat → Bool) : Nat := (List.range n).foldl (fun m k => if p k then m + 2 ^ k else m) 0

/-- Views of GLB, PWR and BBR (R459, R460, R462). -/
def Blk.viewGlb (s : Blk) (r : Reg) : Option Nat :=
  match r with
  | .GLB_STEPPING => some Config.stepping.toNat
  | .GLB_STATUS => some ((s.reg .GLB_STATUS).toNat % 32 + b2n s.rel.fatal * 32)
  | .GLB_FUSE => some (s.rbMin % 128 + Config.keyRevoked.toNat * 2 ^ 8)
  | .PWR_STATUS => some s.power.dev
  | .PWR_PD_ON0 => some s.pdOn0
  | .PWR_PD_ON1 => some s.pdOn1
  | .BBR_STATUS => some (b2n s.boot.bbrValid + b2n s.boot.vbatOk * 2 + s.boot.vbat % 256 * 2 ^ 8)
  | _ => none

/-- HL_STATUS.LPS. -/
def linkPsCode : LinkPs → Nat
  | .l0 => 0 | .l0p => 1 | .l1 => 2 | .l11 => 2 | .l12 => 2 | .training => 3

/-- MOD_STATUS of a vector. -/
def Blk.modStatus (s : Blk) (f v : Nat) : Nat := (s.vec f v).cnt % 256 + b2n (s.vec f v).timerRun * 2 ^ 8

/-- Views of the interrupt blocks (R358, R360). -/
def Blk.viewIrq (s : Blk) (r : Reg) (i : Nat) : Option Nat :=
  match r with
  | .PBA => some (bitMask 64 (fun b => (s.vec 0 (64 * i + b)).pba))
  | .HL_STATUS => some ((if s.link.active then s.link.speed + s.link.width * 2 ^ 3 + b2n s.link.cxl * 2 ^ 8 else 0) +
      linkPsCode s.link.lps * 2 ^ 9 + (if (s.fn 0).d3 then 3 else 0) * 2 ^ 11)
  | .HL_LTR => some (match s.hostLatency with
      | some n => n % 2 ^ 32
      | none => 0xFFFFFFFF)
  | .BIAS_BUSY => some ((s.bias.filter (fun p => p.2 == 2)).length)
  | .HCE_STATUS => some (s.hceActive % 128)
  | .MOD_STATUS => some (s.modStatus 0 i)
  | .BIAS => some (bitMask 32 (fun b => s.biasOf (32 * i + b) == 1))
  | .VPBA => some (bitMask 64 (fun b => (s.vec (i + 1) b).pba))
  | .VMOD_STATUS => some (s.modStatus (i / 64 + 1) (i % 64))
  | .VFS_ID => some (match s.instOfVf (i + 1) with
      | some n => n + 2 ^ 6 + (s.inst n).gen % 2 ^ 16 * 2 ^ 16
      | none => 0)
  | .EMU_STATUS => some (b2n s.emu.pending + b2n s.emu.lost * 2 + b2n s.emu.fwUp * 4 + s.emu.ring.length * 2 ^ 16)
  | .EMU_ROLLBACK_MIN => some s.rbMin
  | _ => none

/-- STATE of a queue (R388). -/
def QState.code : QState → Nat
  | .disabled => 0 | .active => 1 | .error => 2 | .draining => 3

/-- HRM_STATUS of a function. -/
def Blk.hrmStatus (s : Blk) (f : Nat) : Nat :=
  let m := (s.hmb f).swap
  m.pkts % 2 ^ 10 + m.drain.length % 2 ^ 9 * 2 ^ 16 + b2n m.bank * 2 ^ 25

/-- HRM_DATA of a function, as a read would return it. -/
def Blk.hrmData (s : Blk) (f : Nat) : Nat :=
  match (s.hmb f).take.1 with
  | some w => w.data % 2 ^ 32 + 2 ^ 32 + b2n w.last * 2 ^ 33
  | none => 0

/-- Views of QUE and MBX (R388, R389). -/
def Blk.viewQue (s : Blk) (r : Reg) (i : Nat) : Option Nat :=
  let q := s.queue i
  match r with
  | .QUE_STATUS => some (16384 - s.getF F.QUE_PF_COUNT - s.liveIns.foldl (fun n p => n + p.2.qCount) 0)
  | .QUEI => some ((s.inst i).qBase + (s.inst i).qCount * 2 ^ 16)
  | .QSTATE => some (q.st.code + b2n q.dbPend * 4 + b2n (s.cqFull i) * 8 + q.errStatus % 2 ^ 16 * 2 ^ 16)
  | .QERR_INDEX => some (q.errIndex % 2 ^ 16 + b2n q.errValid * 2 ^ 31)
  | .QSCAN => some (s.qscanView i)
  | .QHEAD => some (s.qheadView i)
  | .HRM_DATA => some (s.hrmData 0)
  | .VHRM_DATA => some (s.hrmData (i + 1))
  | .HRM_STATUS => some (s.hrmStatus 0)
  | .VHRM_STATUS => some (s.hrmStatus (i + 1))
  | .MBXC_STATUS =>
    let m := (tblGet {} i s.mbox : MBox).swap
    some (m.pkts % 2 ^ 7 + m.fill.length % 2 ^ 6 * 2 ^ 7 + m.drain.length % 2 ^ 6 * 2 ^ 13)
  | _ => none

/-- STATE and PRESENT of a link end. -/
def Blk.portState (s : Blk) (e : Nat) : Nat := (s.lnk e).st.code + b2n (s.linkPresent e) * 4

/-- Views of FAB (R199, R200). A cluster port has no link end of R178: its PORT_STATE reads 0 (DESIGN CHOICE, log entry 104). -/
def Blk.viewFab (s : Blk) (r : Reg) (i : Nat) : Option Nat :=
  match r with
  | .FAB_STATUS => some (b2n s.fabReady + b2n s.disc.busy * 2 + s.linksIn .basic % 256 * 2 ^ 8 + s.linksIn .down % 256 * 2 ^ 16)
  | .FAB_UID => some Config.fabUid.toNat
  | .AGE_NOW => some s.ageNow
  | .HPORT_STATE => some (s.portState (256 + i))
  | .PORT_STATE => some (if 16 ≤ i % 21 then s.portState (endOf (i / 21) (i % 21)) else 0)
  | _ => none

/-- Views of TT (R230, R231). -/
def Blk.viewTt (s : Blk) (r : Reg) (i : Nat) : Option Nat :=
  let t := s.tt i
  match r with
  | .TT_TIME => some s.time.ns
  | .TT_SET => some 0
  | .TT_RATE => some (BitVec.ofInt 32 s.time.rate).toNat
  | .TT_STATUS => some (s.time.st.code + b2n s.time.srcPresent * 8 + s.holdMs * 2 ^ 16)
  | .TT_BEAT => some s.time.beat
  | .TTI_STATE => some (t.st.code + t.groups.length * 2 ^ 8 + t.haltStatus % 2 ^ 16 * 2 ^ 16)
  | .TTI_B0 => some t.b0
  | .TTI_PERIOD => some (t.period + t.entries.length * 2 ^ 16)
  | .TTI_NSTEPS => some t.nsteps
  | .TTI_STEP => some t.stepK
  | .TTI_SLACK => some (min (s.slack i) 0xFFFFFFFF)
  | .TTI_STOP_BEAT => some t.lastStop
  | .TTI_GRP =>
    let g : GrpSt := tblGet {} (i % 16) (s.tt (i / 16)).grp
    some (g.sst + g.attempt % 8 * 2 ^ 3 + g.k % 2 ^ 48 * 2 ^ 16)
  | _ => none

/-- Views of FT (R288, R289). -/
def Blk.viewFt (s : Blk) (r : Reg) (i : Nat) : Option Nat :=
  let c := s.conn i
  match r with
  | .FT_STATUS => some (s.ftInFlight + (s.ft.conns.filter (fun p => p.2.pin && p.2.st != .free)).length * 2 ^ 18)
  | .FT_WIN_USED => some (s.ft.wins.filter (fun w => w.2.v)).length
  | .FTI_RCNT => some ((s.inst i).cBase + (s.inst i).cCount * 2 ^ 16)
  | .FTI_INFLIGHT => some (s.inFlight (fun q => (s.qOwner q).inst? == some i))
  | .FTI_WIN => some (s.winsOf i).length
  | .FTC_STATE => some (c.st.code + c.inst * 2 ^ 3 + b2n c.enc * 2 ^ 9 + c.lport * 2 ^ 10 + c.errStatus % 2 ^ 16 * 2 ^ 16)
  | .FTC_PEER => some (c.peerDev + c.peerConn * 2 ^ 16)
  | .FTC_RATE => some (min (c.flow.rate / 65536) 65535 + min (c.flow.alpha / 65536) 65535 * 2 ^ 16)
  | .FTC_TX_DSN => some c.txDsn
  | .FTC_RX_CDSN => some c.cdsn
  | .FTC_OUT => some ((c.txDsn + 2 ^ 32 - c.ackDsn) % 2 ^ 32 - c.sack.length + c.rcache.length * 2 ^ 16)
  | _ => none

/-- The lanes that are locked, and whether one calibrates. -/
def Blk.portStatus (s : Blk) (n : Nat) : Nat := (s.port n).lanes % 256 + b2n (decide ((s.port n).busy ≠ 0)) * 2 ^ 8

/-- Bytes in an egress queue. -/
def frameBytes (l : List TxFrame) : Nat := l.foldl (fun n f => n + f.data.length + 4) 0

/-- Views of ETH (R315 to R317). -/
def Blk.viewEth (s : Blk) (r : Reg) (i : Nat) : Option Nat :=
  match r with
  | .PORT_STATUS => some (s.portStatus i)
  | .LP_STATUS =>
    let x := s.lp i
    some (x.st.code + bitMask 8 (fun p => tblGet .normal p x.pwd == .paused) * 2 ^ 8 + bitMask 8 (fun p => tblGet .normal p x.pwd == .broken) * 2 ^ 16)
  | .EQ_DEPTH => some (frameBytes (tblGet [] (i % 64) (s.lp (i / 64)).eqs) % 2 ^ 21)
  | _ => none

/-- The instance whose range holds a key slot. -/
def Blk.instOfSlot (s : Blk) (n : Nat) : Nat :=
  ((s.liveIns.find? (fun p => decide (p.2.sBase ≤ n) && decide (n < p.2.sBase + p.2.sCount))).map (fun p => p.1)).getD 0

/-- Views of CIP and COL (R254, R255, R332, R333). -/
def Blk.viewCip (s : Blk) (r : Reg) (i : Nat) : Option Nat :=
  let x := s.ctx i
  match r with
  | .CIP_STATUS => some ((s.hutch.slots.filter (fun p => p.2.st != .empty)).length + s.hutch.keks.length * 2 ^ 16 +
      b2n s.hutch.selfDone * 2 ^ 23 + b2n s.hutch.selfFail * 2 ^ 24)
  | .CIP_DRK_ID => some Config.drkId.toNat
  | .CIPI_KEK => some (b2n (s.kek i).isSome)
  | .CIPI_SLOTS => some ((s.inst i).sBase + (s.inst i).sCount * 2 ^ 16)
  | .SLOT_STATE =>
    let k := s.slot i
    some (k.st.code + s.instOfSlot i * 2 ^ 2 + k.walg % 2 * 2 ^ 8 + k.conn % 2 ^ 16 * 2 ^ 16)
  | .COL_STATUS => some ((s.ctxs.filter (fun p => p.2.st != 0)).length + s.freeStaging.length * 2 ^ 16)
  | .COLI_STATUS => some (s.ctxsOf i).length
  | .COLC_STATE => some (x.st + x.inst * 2 ^ 2 + x.op * 2 ^ 8 + x.fmt * 2 ^ 11 + x.alg % 4 * 2 ^ 15)
  | .COLC_GCTX => some x.gctx
  | .COLC_RND => some x.rnd
  | .COLC_STAGE => some x.blocks.length
  | _ => none

/-- Limit and use of a pool. -/
def limitUsed (l u : Nat) : Nat := l + u * 2 ^ 32

/-- Sum of a resource over the instances that are not FREE. -/
def Blk.held (s : Blk) (f : Inst → Nat) : Nat := s.liveIns.foldl (fun n p => n + f p.2) 0

/-- Views of INS (R409, R410). -/
def Blk.viewIns (s : Blk) (r : Reg) (i : Nat) : Option Nat :=
  let x := s.inst i
  match r with
  | .INS_STATUS => some (s.liveIns.length + ((List.range 64).filter (fun g => (s.ownerOf g).isNone)).length * 2 ^ 16)
  | .INS_FREE_CONN => some (65536 - s.held (fun x => x.nConn))
  | .INS_FREE_WIN => some (1048576 - s.held (fun x => x.nWin))
  | .INS_FREE_TTE => some (65536 - s.held (fun x => x.nTte))
  | .INS_FREE_COLL => some (1024 - s.held (fun x => x.nColl))
  | .INS_REGION => some ((match s.ownerOf i with
      | some n => n + 2 ^ 6
      | none => 0) + b2n (s.ins.any (fun p => p.2.zeroing.contains i)) * 2 ^ 7)
  | .INSI_STATE => some (x.st.code + x.vf * 2 ^ 3 + x.nvec * 2 ^ 9 + x.gen % 2 ^ 16 * 2 ^ 16)
  | .INSI_PASID => some x.pasid
  | .INSI_HA_BASE => some x.haBase
  | .INSI_APER => some x.aperLimit
  | .INSI_LAT_DEF => some x.latDef
  | .INSI_LAT => some (s.insiLat i % 2 ^ 32)
  | .INSI_CONN => some (limitUsed x.nConn (s.connsOf i).length)
  | .INSI_WIN => some (limitUsed x.nWin (s.winsOf i).length)
  | .INSI_TTE => some (limitUsed x.nTte (s.tteUsed i))
  | .INSI_COLL => some (limitUsed x.nColl (s.ctxsOf i).length)
  | .INSI_MTR => some (x.mtrBase + x.mtrCount * 2 ^ 16)
  | .INSI_EQ => some x.neq
  | .INSI_RMAP => some (tblGet 0 (i % 64) (s.inst (i / 64)).map)
  | .INSI_DIRTY => some (b2n x.dirtyOn + b2n x.activeMap * 2 + b2n x.outside * 4)
  | .INSI_EPOCH => some (x.epoch % 2 ^ 32)
  | _ => none

/-- CL_ROLE's code of a role. -/
def Role.code : Role → Nat
  | .serving => 0 | .spare => 1 | .underTest => 2 | .retired => 3

/-- One byte of CL_PMAP: PCORE, SUSPECT, UNSERVED. -/
def Blk.pmapByte (s : Blk) (g k : Nat) : Nat :=
  match (s.pl g).core k with
  | some c => c + b2n (s.hist (unitCore g c)).suspect * 2 ^ 5
  | none => 2 ^ 6

/-- Cores of a role. -/
def Blk.rolesOf (s : Blk) (r : Role) : Nat :=
  s.place.foldl (fun n p => n + ((List.range 17).filter (fun c => p.2.role c == r)).length) 0

/-- Views of REL (R438, R439; DESIGN CHOICE, log entry 82). -/
def Blk.viewRel (s : Blk) (r : Reg) (i : Nat) : Option Nat :=
  match r with
  | .REL_STATUS => some ((s.place.filter (fun p => p.2.spare.isNone)).length +
      (s.rel.hist.filter (fun p => isCoreUnit p.1 && p.2.suspect)).length * 2 ^ 16 + b2n s.rel.fatal * 2 ^ 31 + s.rolesOf .retired * 2 ^ 32 +
      b2n (s.rel.histOk && decide (s.getF F.GLB_STATUS_STAGE ≠ 0)) * 2 ^ 47 +
      s.place.foldl (fun n p => n + ((List.range 16).filter (fun k => (p.2.core k).isNone)).length) 0 * 2 ^ 48)
  | .REL_LOG_PROD => some s.rel.prod
  | .REL_PEND => some (s.rel.pend.length + (match s.rel.handling with
      | h :: _ => h.1.sev * 2 ^ 6 + 2 ^ 9
      | [] => 0))
  | .REL_RPT => some (b2n s.rel.udpEn + b2n s.rel.redfishEn * 2 + s.rel.minSev % 8 * 4 + s.rel.udpPort * 2 ^ 16 + s.rel.sent * 2 ^ 32)
  | .REL_LOG => some (fieldAt (tblGet [] (i / 4) s.rel.log) (8 * (i % 4)) 8)
  | .CL_PMAP => some ((List.range 4).foldl (fun n m => n + s.pmapByte (i / 4) (4 * (i % 4) + m) * 2 ^ (8 * m)) 0)
  | .CL_ROLE => some ((List.range 17).foldl (fun n c => n + ((s.pl i).role c).code * 2 ^ (2 * c)) 0)
  | .CL_EPOCH => some (s.epoch i)
  | .REL_CORE =>
    let h := s.hist i
    some (s.ageOf i + min (s.eventsIn i) 15 * 2 ^ 16 + b2n (s.coreDue i) * 2 ^ 20 + b2n h.overdue * 2 ^ 21 + b2n h.retirePend * 2 ^ 22 +
      b2n h.suspect * 2 ^ 23 + h.passes * 2 ^ 32)
  | _ => none

/-- The first value that is there. -/
def firstSome : List (Option Nat) → Nat → Nat
  | [], d => d
  | some v :: _, _ => v
  | none :: t, d => firstSome t d

/-- What software reads in element `i` of a register. -/
def Blk.regView (s : Blk) (r : Reg) (i : Nat) : Nat :=
  match r with
  | .DOORBELL_SLOT => 0
  | _ => firstSome [s.viewGlb r, s.viewIrq r i, s.viewQue r i, s.viewFab r i, s.viewTt r i, s.viewFt r i, s.viewEth r i, s.viewCip r i, s.viewIns r i,
      s.viewRel r i] (s.reg r i).toNat

end Sys2Proof.Machine
end

