-- ==== Sys2Proof/Machine/RegAccess.lean ====
section
/-! DEFINITION. Software accesses to registers: where a register lies in a function's BARs, split accesses, what a write does and what a
read clears (R22 to R32, R339 to R341, R353). -/

namespace Sys2Proof.Machine

/-! ## Where a register lies (R27, R29, R31, R32) -/

/-- The element of an array of registers at a byte offset from its first, and the offset within the element. -/
def dimIndex : List (Nat × Nat) → Nat → Nat → Option (Nat × Nat)
  | [], o, acc => some (acc, o)
  | (st, n) :: t, o, acc => if o / st < n then dimIndex t (o % st) (acc * n + o / st) else none

/-- A register found at an address: its width and the byte within it. -/
structure RegHit where
  reg : Reg
  ix : Nat
  width : Nat
  lo : Nat
  deriving DecidableEq, Repr

/-- The element of a map entry at a byte address, if it covers it. -/
def RegInfo.hit (i : RegInfo) (a : Nat) : Option RegHit :=
  if a < i.base then none
  else match dimIndex i.dims (a - i.base) 0 with
    | some (ix, o) => if o < i.width / 8 then some { reg := i.reg, ix := ix, width := i.width, lo := o } else none
    | none => none

/-- The registers of a router port (R200). -/
def routerRegs1 : List Reg := [.STALL, .QDEPTH, .QPEAK, .LINKERR, .MARKS, .PORT_STATE]
def routerRegs4 : List Reg := [.PKT_VC, .BYTE_VC]

/-- Ports that a mesh router has: the cluster ports, a mesh port toward a neighbour, the hub port of a hub-attached region. -/
def routerPort (r p : Nat) : Bool := decide (p < 16) || (decide (p < 20) && endPresent (4 * r + (p - 16))) || (decide (p = 20) && [27, 28, 35, 36].contains r)

/-- Does the element exist? Absent router ports follow R29. -/
def RegHit.exists (h : RegHit) : Bool :=
  if routerRegs1.contains h.reg then routerPort (h.ix / 21) (h.ix % 21)
  else if routerRegs4.contains h.reg then routerPort (h.ix / 4 / 21) (h.ix / 4 % 21)
  else true

/-- The register at an address of the map (PF BAR0 from 0, VFs from 2^32, PF BAR2 from 2^33). -/
def findReg (a : Nat) : Option RegHit := (regTable.findSome? (fun i => i.hit a)).bind (fun h => if h.exists then some h else none)

/-! ## What a function sees (R339 to R341, R353) -/

/-- Where an offset of a function's BAR leads: an address of the map, writable or not; or nowhere. -/
inductive RegTarget where
  | at_ (a : Nat) (ro : Bool)
  | zero
  deriving DecidableEq, Repr

/-- An instance's context slot, connection or key slot as the status page shows it: none that is not its own. -/
def Blk.statusPage (s : Blk) (v i o : Nat) : RegTarget :=
  let x := s.inst i
  if 0x1000 ≤ o ∧ o < 0x2000 then .at_ (0x1900000 + 0x1000 * i + (o - 0x1000)) true
  else if o = 0x2000 ∨ o = 0x2004 then .at_ (0x3300000 + 0x1000 * i + (o - 0x2000)) true
  else if 0x3000 ≤ o ∧ o < 0x3010 then .at_ (0x2100000 + 0x1000 * i + (o - 0x3000)) true
  else if o = 0x4000 ∨ o = 0x4004 then .at_ (0x3100000 + 0x1000 * i + (o - 0x4000)) true
  else if 0x5020 ≤ o ∧ o < 0x5040 then
    let c := s.getF F.FTC_SEL_CONN (v - 1)
    if (s.conn c).st ≠ .free ∧ (s.conn c).inst = i then .at_ (0x2200000 + 32 * c + (o - 0x5020)) true else .zero
  else if 0x10000 ≤ o ∧ o < 0x20000 then
    let c := (o - 0x10000) / 0x40
    if (s.ctx c).st ≠ 0 ∧ (s.ctx c).inst = i then .at_ (0x3380000 + (o - 0x10000)) true else .zero
  else if 0x20000 ≤ o ∧ o < 0x30000 then
    let n := (o - 0x20000) / 4
    if n < x.cCount then .at_ (0x2010000 + 4 * (x.cBase + n) + o % 4) true else .zero
  else if 0x30000 ≤ o ∧ o < 0x40000 then
    let n := (o - 0x30000) / 0x10
    if n < x.sCount then .at_ (0x3180000 + 0x10 * (x.sBase + n) + o % 0x10) true else .zero
  else .zero

/-- The target of an offset of VF `v`'s BAR0. -/
def Blk.vfTarget (s : Blk) (v o : Nat) : RegTarget :=
  let own := 2 ^ 32 + v * 2 ^ 20 + o
  if o < 0x10000 then
    match s.globalQ v (o / 8) with
    | some q => .at_ (0x210000 + 8 * q + o % 8) false
    | none => .zero
  else if o < 0x20000 then .at_ own false
  else if o < 0x30000 then
    let q := (o - 0x20000) / 0x40
    match s.globalQ v q with
    | some g => if q < 1024 then .at_ (0x300000 + 0x40 * g + o % 0x40) false else .zero
    | none => .zero
  else if o < 0x40000 then .at_ own false
  else if 0x80000 ≤ o then .zero
  else match s.instOfVf v with
    | none => if o / 4 = 0x10000 ∨ o / 4 = 0x45000 / 4 then .at_ own false else .zero
    | some i => if o = 0x40000 ∨ o = 0x45000 then .at_ own false else s.statusPage v i (o - 0x40000)

/-- The target of an offset of a function's BAR0, or of PF BAR2's hardware page. -/
def Blk.target (s : Blk) (fn : Nat) (bar2 : Bool) (off : Nat) : RegTarget :=
  if bar2 then (if fn = 0 ∧ off < 2 ^ 24 then .at_ (2 ^ 33 + off) false else .zero)
  else if fn = 0 then (if off < 2 ^ 26 then .at_ off false else .zero)
  else if off < 2 ^ 20 then s.vfTarget fn off
  else .zero

/-- The register that an access reaches, and whether the function may write it. -/
def Blk.lookup (s : Blk) (fn : Nat) (bar2 : Bool) (off : Nat) : Option (RegHit × Bool) :=
  match s.target fn bar2 off with
  | .at_ a ro => (findReg a).map (fun h => (h, ro))
  | .zero => none

/-! ## Writes (R22, R24) -/

/-- Ones at [hi:lo]. -/
def fieldMask (hi lo : Nat) : Word := BitVec.ofNat 64 (2 ^ (hi + 1) - 2 ^ lo)

/-- What a write of `v` under the mask `m` makes of one field. -/
def fieldWrite (v m : Word) (n : Word) (f : FieldInfo) : Word :=
  let k := fieldMask f.hi f.lo &&& m
  match f.acc with
  | .rw | .status | .count | .countSat | .control => (n &&& ~~~k) ||| (v &&& k)
  | .w1c => n &&& ~~~(v &&& k)
  | .w1s => n ||| (v &&& k)
  | .ro | .rc | .wo => n

/-- The stored value after a write. -/
def regWrite (r : Reg) (old v m : Word) : Word := (regInfo r).fields.foldl (fieldWrite v m) old

/-- The value that a write hands to an action: `v` under the mask, the stored bits elsewhere. -/
def merged (old v m : Word) : Word := (old &&& ~~~m) ||| (v &&& m)

/-- Causes that a write has enabled while they are latched raise their requests (R350). -/
def Blk.enableCauses (s : Blk) (fn : Nat) (latched old new : Word) : Blk :=
  forN 13 (fun c t =>
    if latched.toNat.testBit c && new.toNat.testBit c && !old.toNat.testBit c then
      t.request fn (if fn = 0 then t.getF F.IRQ_CAUSE_VEC_VEC c else t.getF F.VF_CAUSE_VEC_VEC ((fn - 1) * 3 + c))
    else t) s

/-- A write of QCTL (R371): CLR_ERR, then EN. -/
def Blk.writeQctl (s : Blk) (q : Nat) (v m : Word) : Blk :=
  let s1 := if (v &&& m).toNat.testBit 1 then queueClrErrOp q s else s
  if !(m.toNat.testBit 0) then s1 else if v.toNat.testBit 0 then queueEnableOp q s1 else if (s1.queue q).st = .active then (queueDisableOp q s1).settleSq q else s1

/-- A write of a battery-backed word (R457, R458): word 0 makes the domain valid, word 40 waits for word 41. -/
def Blk.writeBbr (s : Blk) (w : Nat) (v : Word) : Blk :=
  if w = 40 then { s with boot := { s.boot with rtcLow := v.toNat % 2 ^ 32 } }
  else if w = 41 then rtcWriteOp (v.truncate 32) s
  else
    let s1 := s.setReg .BBR_WORD w (v &&& 0xFFFFFFFF)
    if w = 0 then { s1 with boot := { s1.boot with bbrValid := decide (v.toNat % 2 ^ 32 = 0xB8B80001) } } else s1

/-- A write of REL_FORCE (R438): GO applies ACTION. -/
def Blk.writeForce (s : Blk) (new : Word) : Blk :=
  let n := new.toNat
  let u := BitVec.ofNat 20 n
  if !(n.testBit 31) then s.setReg .REL_FORCE 0 (new &&& 0x3FFFFF)
  else if bits n 21 20 = 1 then relForceRetireOp u s
  else if bits n 21 20 = 2 then relForceReturnOp u s
  else s.forceTest u.toNat (bits n 21 20)

/-- Registers of a queue that are written only in DISABLED (R375). -/
def queueCfgRegs : List Reg := [.QBASE, .QHEAD_ADDR, .QCFG]

/-- A write whose register has an action of its own: control registers of the fabric, of time and of the hub's engines. -/
def Blk.writeAction (s : Blk) (r : Reg) (ix : Nat) (v m : Word) : Option Blk :=
  let old := s.reg r ix
  let n := merged old v m
  let w : BitVec 32 := n.truncate 32
  let one := fun (b : Nat) => (v &&& m).toNat.testBit b
  match r with
  | .FAB_CTRL => some (streamEnWriteOp w s)
  | .DISC_CTRL => some (discStartOp ((regWrite r (old &&& ~~~1) v m).truncate 32) s)
  | .DEV_ID => some (devIdWriteOp w s)
  | .TT_SRC_CFG => some (srcWriteOp w s)
  | .TT_SET => some (ttSetWriteOp v (m == BitVec.allOnes 64) s)
  | .TT_BEAT_CFG => some (ttBeatCfgWriteOp w s)
  | .TT_BEAT_EPOCH => some (ttBeatEpochWriteOp n s)
  | .COLI_CFG => some (collModeWriteOp ix w s)
  | .PORT_CFG => some (portCfgWriteOp ix w s)
  | .LP_CFG => some (lpEnWriteOp ix w s)
  | .MTR_CTL => some (mtrCtlWriteOp (ix / 512) (ix % 512) w s)
  | .PTP_TXTS_CTL => some (if one 0 then ptpTxtsPopOp ix s else s)
  | .CIP_CTRL => some (cipEnWriteOp w s)
  | .QCTL => some (s.writeQctl ix v m)
  | .CQ_CONS => some (cqConsWriteOp ix w s)
  | .QUE_PF => some (quePfWriteOp w s)
  | .FREQ_TGT => some (freqTgtWriteOp (BitVec.ofNat 6 ix) w s)
  | .GLB_POSRST => some (if one 31 then positionResetOp (n.truncate 14) s else s.setReg r 0 (regWrite r old v m))
  | .GLB_BOOT_CTL => some (if one 0 then bootGoOp s else s)
  | .PWR_CTL => some (s.setReg r 0 (regWrite r old v m)).applyPorts
  | .REL_FORCE => some (s.writeForce n)
  | .REL_HQ_UNIT => some (hqUnitWriteOp w s)
  | .BBR_WORD => some (s.writeBbr ix v)
  | .EMU_STATUS => some (if one 1 then { s with emu := { s.emu with lost := false } } else s)
  | .QSCAN => some (if (s.queue ix).st = .disabled ∧ s.getF F.QCFG_TYPE ix ≠ qtCpl then
      s.modQueue ix (fun x => { x with scan := bits v.toNat 15 0, lap := v.toNat.testBit 16 }) else s)
  | _ => none

/-- A write of a register by a function: its action, or its fields by their types and what follows from them. -/
def Blk.writeReg (s : Blk) (fn : Nat) (r : Reg) (ix : Nat) (v m : Word) : Blk :=
  match s.writeAction r ix v m with
  | some t => t
  | none =>
    let old := s.reg r ix
    let new := regWrite r old v m
    if queueCfgRegs.contains r ∧ (s.queue ix).st ≠ .disabled then s
    else if r = .DOORBELL_SLOT then s
    else
      let s1 := s.setReg r ix new
      if r = .MSIX_CTL ∨ r = .VMSIX_CTL then s1.flushPba fn
      else if r = .IRQ_CAUSE_EN then s1.enableCauses 0 (s.reg .IRQ_CAUSE) old new
      else if r = .VF_CAUSE_EN then s1.enableCauses (ix + 1) (s.reg .VF_CAUSE ix) old new
      else if r = .REL_CFG ∨ r = .REL_TEST_CFG then s1.judgeAges
      else s1

/-- Masks of a whole register, and of its halves. -/
def maskLow : Word := 0xFFFFFFFF
def maskHigh : Word := 0xFFFFFFFF00000000
def maskAll : Word := BitVec.allOnes 64

/-- The address of a found register's first byte. -/
def RegHit.addr (h : RegHit) : Nat := regAddr h.reg h.ix

/-- A held low half is written alone: another access of the function ends the hold (R28). -/
def Blk.endHold (s : Blk) (fn : Nat) : Blk :=
  match (s.fn fn).hold with
  | none => s
  | some (a, v) =>
    let s1 := s.modFn fn (fun x => { x with hold := none })
    match findReg a with
    | some h => s1.writeReg fn h.reg h.ix (BitVec.ofNat 64 v) maskLow
    | none => s1

/-- An access of a size or alignment that is not accepted (R28). -/
def Blk.badAccess (s : Blk) (off : Nat) : Blk := s.relEvent relRegBad { info1 := off }

/-- A write of a doorbell slot: a write of 4 or 8 bytes of any value (R366). The slot is global. -/
def Blk.ring (s : Blk) (q : Nat) : Blk := doorbellOp 0 q s

/-- REG_WRITE (R22 to R32): a function writes `size` bytes at an offset of its BAR0, or of PF BAR2. -/
def regWriteOp (fn : BitVec 6) (bar2 : Bool) (off : BitVec 26) (size : Nat) (v : Word) (s : Blk) : Blk :=
  let f := fn.toNat
  let o := off.toNat
  if bar2 ∧ f ≠ 0 then s
  else if bar2 ∧ 0x1000 ≤ o then emuWriteOp (off.truncate 24) size (v.truncate 32) (s.endHold 0)
  else if size = 4 ∧ o % 4 = 0 then
    match s.lookup f bar2 o with
    | none => s.endHold f
    | some (h, ro) =>
      if ro then s.endHold f
      else if h.reg = .DOORBELL_SLOT then (s.endHold f).ring h.ix
      else if h.width = 32 then (s.endHold f).writeReg f h.reg h.ix (v &&& maskLow) maskLow
      else if h.lo = 0 then (s.endHold f).modFn f (fun x => { x with hold := some (h.addr, (v &&& maskLow).toNat) })
      else match (s.fn f).hold with
        | some (a, l) =>
          if a = h.addr then (s.modFn f (fun x => { x with hold := none })).writeReg f h.reg h.ix (BitVec.ofNat 64 l ||| (v <<< 32)) maskAll
          else (s.endHold f).writeReg f h.reg h.ix (v <<< 32) maskHigh
        | none => s.writeReg f h.reg h.ix (v <<< 32) maskHigh
  else if size = 8 ∧ o % 8 = 0 ∧ !bar2 then
    match s.lookup f bar2 o, s.lookup f bar2 (o + 4) with
    | none, none => s.endHold f
    | some (h, ro), _ =>
      if h.width = 64 then
        (if ro then s.endHold f else if h.reg = .DOORBELL_SLOT then (s.endHold f).ring h.ix else (s.endHold f).writeReg f h.reg h.ix v maskAll)
      else (s.endHold f).badAccess o
    | none, some _ => (s.endHold f).badAccess o
  else (s.endHold f).badAccess o

/-! ## Reads (R22, R28, R30) -/

/-- What a read of a whole register returns, and what it clears or captures. -/
def Blk.readReg (s : Blk) (r : Reg) (ix : Nat) : Blk × Nat :=
  let v := s.regView r ix
  match r with
  | .TT_TIME => (s.setF F.TT_TIME_FRAC_FRAC 0 s.time.frac, v)
  | .HRM_DATA => ({ s with hmbox := tblSet 0 (s.hmb 0).take.2 s.hmbox }, v)
  | .VHRM_DATA => ({ s with hmbox := tblSet (ix + 1) (s.hmb (ix + 1)).take.2 s.hmbox }, v)
  | .PWR_PEAK => (s.setReg .PWR_PEAK 0 0, v)
  | .QPEAK => (s.setReg .QPEAK ix 0, v)
  | .HQPEAK => (s.setReg .HQPEAK ix 0, v)
  | _ => (s, v)

/-- A 4-byte read at an aligned offset. -/
def Blk.read4 (s : Blk) (f : Nat) (bar2 : Bool) (o : Nat) : Blk :=
  match s.lookup f bar2 o with
  | none => s.emit (.regData 0)
  | some (h, _) =>
    if h.width = 32 then let r := s.readReg h.reg h.ix; r.1.emit (.regData r.2)
    else if h.lo = 0 then
      let r := s.readReg h.reg h.ix
      (r.1.modFn f (fun x => { x with shadow := some (h.addr, r.2 / 2 ^ 32) })).emit (.regData (r.2 % 2 ^ 32))
    else match (s.fn f).shadow with
      | some (a, n) =>
        if a = h.addr then (s.modFn f (fun x => { x with shadow := none })).emit (.regData n)
        else s.emit (.regData (s.regView h.reg h.ix / 2 ^ 32))
      | none => s.emit (.regData (s.regView h.reg h.ix / 2 ^ 32))

/-- An 8-byte read at an aligned offset. -/
def Blk.read8 (s : Blk) (f : Nat) (o : Nat) : Blk :=
  match s.lookup f false o, s.lookup f false (o + 4) with
  | none, none => s.emit (.regData 0)
  | some (h, _), _ =>
    if h.width = 64 then let r := s.readReg h.reg h.ix; r.1.emit (.regData r.2)
    else (s.emit (.regData (2 ^ 64 - 1))).badAccess o
  | none, some _ => (s.emit (.regData (2 ^ 64 - 1))).badAccess o

/-- The readback value of an emulated register (R354, R357). -/
def Blk.emuRead (s : Blk) (o : Nat) : Nat :=
  match findReg (2 ^ 33 + o) with
  | some h => s.regView h.reg h.ix
  | none => 0

/-- REG_LOW_HALF_READ (R28): a function reads `size` bytes at an offset of its BAR0, or of PF BAR2; a 4-byte read of the low half of a
64-bit register captures the high half (DEDUCED, log entry 89). -/
def regLowHalfReadOp (fn : BitVec 6) (bar2 : Bool) (off : BitVec 26) (size : Nat) (s : Blk) : Blk :=
  let f := fn.toNat
  let o := off.toNat
  if bar2 ∧ f ≠ 0 then s
  else if bar2 ∧ (size ≠ 4 ∨ o % 4 ≠ 0) then ((s.endHold 0).emit (.regData (2 ^ (8 * size) - 1))).badAccess o
  else if bar2 ∧ 0x1000 ≤ o then let t := s.endHold 0; t.emit (.regData (t.emuRead o))
  else if size = 4 ∧ o % 4 = 0 then (s.endHold f).read4 f bar2 o
  else if size = 8 ∧ o % 8 = 0 then (s.endHold f).read8 f o
  else ((s.endHold f).emit (.regData (2 ^ (8 * size) - 1))).badAccess o

/-- QPEAK_READ (R200): the peaks of a router port, or of a hub side, are returned and cleared. -/
def qpeakReadOp (hub : Bool) (port : Nat) (s : Blk) : Blk :=
  let r := if hub then s.readReg .HQPEAK (port % 4) else s.readReg .QPEAK (port % (64 * 21))
  r.1.emit (.regData r.2)

/-- PWR_PEAK_READ (R460). -/
def pwrPeakReadOp (s : Blk) : Blk := let r := s.readReg .PWR_PEAK 0; r.1.emit (.regData r.2)

end Sys2Proof.Machine
end

