-- ==== Sys2Proof/Machine/State.lean ====
section
/-! DEFINITION. The machine: the device, and the queue of the commands that wait for it. -/

namespace Sys2Proof.Machine

/-- The reasons for which the device could stop. There are none: every error of the spec is a value that the device records, so no
command raises a fault. Nothing is hidden by it: safe. -/
inductive Fault where
  deriving DecidableEq, Repr

/-- The reasons for which a command could be refused. No meaning refuses. -/
inductive Refusal where
  /-- An arm of the dispatch without a meaning would answer this with the row's mnemonic; there is no such arm. Safe: nothing is claimed
  of a refused command. -/
  | notModelled (mnemonic : String)
  deriving DecidableEq, Repr

/-- The machine. -/
structure State where
  blk : Blk := {}
  /-- The commands that wait, first in, first out. -/
  pending : List Instr := []
  deriving DecidableEq, Repr

/-- The machine right after power-on reset with 48 V present (R452, R466): the pins at the levels of the module's pull-downs, every
stored register at the reset value of its map entry, memory with nothing listed and no command waiting. Log entries 2, 4, 5 and 6
name the values that the spec does not give. -/
def State.reset : State := {}

end Sys2Proof.Machine
end

