-- ==== Sys2Proof/Machine/ExecColl.lean ====
section
/-! DEFINITION. The meanings of the commands of collectives (R232 to R253). Each is the operation that the rule describes; the queue of
waiting commands stays as it is. -/

namespace Sys2Proof.Machine

/-- COLL_OPEN (R233). -/
def execCollOpen (desc ptab : Option (List Byte)) (s : State) : Host.Outcome State Fault Refusal :=
  .next { s with blk := collOpenOp desc ptab s.blk }

/-- COLL_RUN (R238). -/
def execCollRun (s : State) : Host.Outcome State Fault Refusal :=
  .next { s with blk := collRunOp s.blk }

/-- COLL_CLOSE (R233). -/
def execCollClose (s : State) : Host.Outcome State Fault Refusal :=
  .next { s with blk := collCloseOp s.blk }

/-- COLL_MODE_WRITE (R237). An access to a register ends a write hold of its function (DESIGN CHOICE, log entry 39). -/
def execCollModeWrite (i : Nat) (v : BitVec 32) (s : State) : Host.Outcome State Fault Refusal :=
  .next { s with blk := collModeWriteOp i v (s.blk.endHold 0) }

/-- COLL_ROUND_START (R238). -/
def execCollRoundStart (n : Nat) (hw : CollHw) (s : State) : Host.Outcome State Fault Refusal :=
  .next { s with blk := collRoundStartOp n hw s.blk }

/-- COLL_LOCAL_CLOSE_TIMEOUT (R241). -/
def execCollLocalCloseTimeout (n r : Nat) (hw : CollHw) (s : State) : Host.Outcome State Fault Refusal :=
  .next { s with blk := collLocalCloseTimeoutOp n r hw s.blk }

/-- COLL_ROUND_TIMEOUT (R251). -/
def execCollRoundTimeout (n r : Nat) (s : State) : Host.Outcome State Fault Refusal :=
  .next { s with blk := collRoundTimeoutOp n r s.blk }

/-- COLL_SEGMENT_DATA (R246). -/
def execCollSegmentData (h : List Byte) (items : List (List Byte × Bool)) (hw : CollHw) (s : State) : Host.Outcome State Fault Refusal :=
  .next { s with blk := collSegmentDataOp h items hw s.blk }

/-- COLL_SEGMENT_END (R247). -/
def execCollSegmentEnd (h : List Byte) (hw : CollHw) (s : State) : Host.Outcome State Fault Refusal :=
  .next { s with blk := collSegmentEndOp h hw s.blk }

/-- COLL_SEGMENT_ARRIVE (R246). -/
def execCollSegmentArrive (h : List Byte) (s : State) : Host.Outcome State Fault Refusal :=
  .next { s with blk := collSegmentArriveOp h s.blk }

end Sys2Proof.Machine
end

