-- ==== Sys2Proof/Machine/System.lean ====
section
/-! DEFINITION. The system instructions and the restart of a replayed step (R73, R83, R123, R418). -/

namespace Sys2Proof.Machine

/-- A special register as SRR reads it (R73). -/
def Blk.sreg (s : Blk) (p t n : Nat) : Option Word :=
  match n with
  | 0 => some (BitVec.ofNat 64 t)
  | 1 => some (BitVec.ofNat 64 p)
  | 2 => some (BitVec.ofNat 64 s.time.beat)
  | 3 => some (BitVec.ofNat 64 ((s.instOfPos p).getD 0))
  | 8 => some ((s.th p t).fflags.zeroExtend 64)
  | _ => none

/-- SRR (R123). -/
def srrOp (i : Issue) (f : FmtI) (s : Blk) : Blk :=
  let p := i.pos.toNat
  let t := i.tid.toNat
  let n := f.imm.toNat
  let v := s.sreg p t n
  s.issue i false [.g f.d.toNat] false (f.bad true false false false 1 || v.isNone) true (fun s =>
    (s.modTh p t (fun y => y.gw f.d.toNat (v.getD 0))).retire p t false)

/-- SRW (R123): FFLAGS alone may be written. -/
def srwOp (i : Issue) (f : FmtI) (s : Blk) : Blk :=
  let p := i.pos.toNat
  let t := i.tid.toNat
  let v := (s.th p t).gr f.a.toNat
  s.issue i false [.g f.a.toNat] false (f.bad false true false false 1 || f.imm != 8) true (fun s =>
    (s.modTh p t (fun y => { y with fflags := v.setWidth 5 })).retire p t false)

/-- TSTART (R83, R123). The PC keeps the low 40 bits of gA (DESIGN CHOICE, log entry 7). -/
def tstartOp (i : Issue) (f : FmtI) (s : Blk) : Blk :=
  let p := i.pos.toNat
  let t := i.tid.toNat
  let th := s.th p t
  let n := f.imm.toNat
  let pc := th.gr f.a.toNat
  let arg := th.gr f.b.toNat
  s.issue i false [.g f.a.toNat, .g f.b.toNat] false (f.bad false true true false 1 || decide (16 ≤ n)) true (fun s =>
    if pc.toNat % 8 ≠ 0 then s.raiseExc p t .align (s.pcOf p t) pc.toNat
    else if (s.th p n).st ≠ .idle then s.raiseExc p t .threadBusy (s.pcOf p t) 0
    else (s.modCore p (fun c => c.startThread n (pc.setWidth 40) arg th.stepIdx th.step)).retire p t false)

/-- NOP (R123). -/
def nopOp (i : Issue) (f : FmtI) (s : Blk) : Blk :=
  s.issue i false [] false (f.bad false false false false 1 || f.imm != 0) true (fun s => s.retire i.pos.toNat i.tid.toNat false)

/-- REPLAY_RESTART (R418): after a class H fault the step restarts on the same placement; one that waits for a move waits for
a beat boundary. -/
def replayRestartOp (sid : Nat) (s : Blk) : Blk :=
  match tblFind sid s.steps with
  | some x => if x.st = .replaying ∧ !x.waitMove then s.restartStep sid else s
  | none => s

end Sys2Proof.Machine
end

