-- ==== Sys2Proof/Machine/ExecCoreEvents.lean ====
section
/-! DEFINITION. The meanings of the commands of events of a core: what the units of a core finish (R80, R84, R108, R114, R115, R118,
R147, R413, R418). Each is the operation that the rule describes; the queue of waiting commands stays as it is. -/

namespace Sys2Proof.Machine

/-- TRANSFER_DONE (R108). -/
def execTransferDone (pos : Pos) (slot : BitVec 2) (hw : HwErr) (s : State) : Host.Outcome State Fault Refusal :=
  .next { s with blk := transferDoneOp pos slot hw s.blk }

/-- MATRIX_OP_DONE (R413). -/
def execMatrixOpDone (pos : Pos) (hw : HwErr) (s : State) : Host.Outcome State Fault Refusal :=
  .next { s with blk := matrixOpDoneOp pos hw s.blk }

/-- READOUT_DONE (R80). -/
def execReadoutDone (pos : Pos) (hw : HwErr) (s : State) : Host.Outcome State Fault Refusal :=
  .next { s with blk := readoutDoneOp pos hw s.blk }

/-- MXMS_DELIVERED (R114). -/
def execMxmsDelivered (pos : Pos) (s : State) : Host.Outcome State Fault Refusal :=
  .next { s with blk := mxmsDeliveredOp pos s.blk }

/-- MXMR_STAGED (R115). -/
def execMxmrStaged (pos : Pos) (hw : CollHw) (s : State) : Host.Outcome State Fault Refusal :=
  .next { s with blk := mxmrStagedOp pos hw s.blk }

/-- SEND_ACCEPTED (R118). -/
def execSendAccepted (pos : Pos) (tid : BitVec 4) (s : State) : Host.Outcome State Fault Refusal :=
  .next { s with blk := sendAcceptedOp pos tid s.blk }

/-- THREAD_COMMIT (R84). -/
def execThreadCommit (pos : Pos) (tid : BitVec 4) (s : State) : Host.Outcome State Fault Refusal :=
  .next { s with blk := threadCommitOp pos tid s.blk }

/-- LOCK_REEVALUATE (R147). -/
def execLockReevaluate (pos : Pos) (tid : BitVec 4) (hw : HwErr) (s : State) : Host.Outcome State Fault Refusal :=
  .next { s with blk := lockReevaluateOp pos tid hw s.blk }

/-- REPLAY_RESTART (R418). -/
def execReplayRestart (sid : Nat) (s : State) : Host.Outcome State Fault Refusal :=
  .next { s with blk := replayRestartOp sid s.blk }

end Sys2Proof.Machine
end

