-- ==== Sys2Proof/Machine/ExecEth.lean ====
section
/-! DEFINITION. The meanings of the commands of the Ethernet ports (R290 to R316). Each is the operation that the rule describes; the
queue of waiting commands stays as it is. -/

namespace Sys2Proof.Machine

/-- ETH_FRAME_RX (R297). -/
def execEthFrameRx (l : Nat) (frame : List Byte) (fecBad : Bool) (cw sym : Nat) (s : State) : Host.Outcome State Fault Refusal :=
  .next { s with blk := ethFrameRxOp l frame fecBad cw sym s.blk }

/-- PAUSE_RX (R306). -/
def execPauseRx (l quanta : Nat) (s : State) : Host.Outcome State Fault Refusal :=
  .next { s with blk := pauseRxOp l quanta s.blk }

/-- PFC_RX (R306). -/
def execPfcRx (l vec : Nat) (times : List Nat) (s : State) : Host.Outcome State Fault Refusal :=
  .next { s with blk := pfcRxOp l vec times s.blk }

/-- PAUSE_TIME_END (R308). -/
def execPauseTimeEnd (l p : Nat) (s : State) : Host.Outcome State Fault Refusal :=
  .next { s with blk := pauseTimeEndOp l p s.blk }

/-- PAUSE_WATCHDOG_EXPIRY (R308). -/
def execPauseWatchdogExpiry (l p : Nat) (s : State) : Host.Outcome State Fault Refusal :=
  .next { s with blk := pauseWatchdogExpiryOp l p s.blk }

/-- PWD_RECOVER_EXPIRY (R308). -/
def execPwdRecoverExpiry (l p : Nat) (s : State) : Host.Outcome State Fault Refusal :=
  .next { s with blk := pwdRecoverExpiryOp l p s.blk }

/-- PAUSE_REPEAT (R307). -/
def execPauseRepeat (l p : Nat) (s : State) : Host.Outcome State Fault Refusal :=
  .next { s with blk := pauseRepeatOp l p s.blk }

/-- LANE_CAL_DONE (R294). -/
def execLaneCalDone (l : Nat) (s : State) : Host.Outcome State Fault Refusal :=
  .next { s with blk := laneCalDoneOp l s.blk }

/-- LINK_UP (R294). -/
def execLinkUp (l : Nat) (s : State) : Host.Outcome State Fault Refusal :=
  .next { s with blk := portLinkUpOp l s.blk }

/-- LINK_DOWN (R294). -/
def execLinkDown (l : Nat) (s : State) : Host.Outcome State Fault Refusal :=
  .next { s with blk := linkDownOp l s.blk }

/-- PORT_CFG_WRITE (R291). An access to a register ends a write hold of its function (DESIGN CHOICE, log entry 39). -/
def execPortCfgWrite (n : Nat) (v : BitVec 32) (s : State) : Host.Outcome State Fault Refusal :=
  .next { s with blk := portCfgWriteOp n v (s.blk.endHold 0) }

/-- LP_EN_WRITE (R294). An access to a register ends a write hold of its function (DESIGN CHOICE, log entry 39). -/
def execLpEnWrite (l : Nat) (v : BitVec 32) (s : State) : Host.Outcome State Fault Refusal :=
  .next { s with blk := lpEnWriteOp l v (s.blk.endHold 0) }

/-- PORT_HOLD_EXPIRY (R295). -/
def execPortHoldExpiry (l q : Nat) (s : State) : Host.Outcome State Fault Refusal :=
  .next { s with blk := portHoldExpiryOp l q s.blk }

/-- EGRESS_VISIT (R312). -/
def execEgressVisit (l : Nat) (s : State) : Host.Outcome State Fault Refusal :=
  .next { s with blk := egressVisitOp l s.blk }

/-- MTR_CTL_WRITE (R305). An access to a register ends a write hold of its function (DESIGN CHOICE, log entry 39). -/
def execMtrCtlWrite (n m : Nat) (v : BitVec 32) (s : State) : Host.Outcome State Fault Refusal :=
  .next { s with blk := mtrCtlWriteOp n m v (s.blk.endHold 0) }

/-- PTP_TXTS_POP (R313). An access to a register ends a write hold of its function (DESIGN CHOICE, log entry 39). -/
def execPtpTxtsPop (l : Nat) (s : State) : Host.Outcome State Fault Refusal :=
  .next { s with blk := ptpTxtsPopOp l (s.blk.endHold 0) }

/-- FEC_RATE_CHECK (R315). -/
def execFecRateCheck (l extra : Nat) (s : State) : Host.Outcome State Fault Refusal :=
  .next { s with blk := fecRateCheckOp l extra s.blk }

/-- PTP_EVENT_MESSAGE_TX (R203). -/
def execPtpEventMessageTx (l : Nat) (frame : List Byte) (s : State) : Host.Outcome State Fault Refusal :=
  .next { s with blk := ptpEventMessageTxOp l frame s.blk }

end Sys2Proof.Machine
end

