-- ==== Sys2Proof/Machine/ExecFabric.lean ====
section
/-! DEFINITION. The meanings of the commands of the package fabric and discovery (R167 to R199). Each is the operation that the rule
describes; the queue of waiting commands stays as it is. -/

namespace Sys2Proof.Machine

/-- An answer that frees a tag: packets that wait for one are judged again (R173). -/
def answered (f : Blk → Blk) (s : Blk) : Blk :=
  let t := f s
  if t.reqs.length < s.reqs.length then t.retryPkts else t

/-- LINK_PACKET_RX (R177). -/
def execLinkPacketRx (e : Nat) (l : List Byte) (crc : BitVec 32) (s : State) : Host.Outcome State Fault Refusal :=
  .next { s with blk := linkPacketRxOp e l crc s.blk }

/-- LINK_TRAINED (R178). -/
def execLinkTrained (e : Nat) (s : State) : Host.Outcome State Fault Refusal :=
  .next { s with blk := linkTrainedOp e s.blk }

/-- LINK_TEST_TIMEOUT (R178). -/
def execLinkTestTimeout (e : Nat) (s : State) : Host.Outcome State Fault Refusal :=
  .next { s with blk := linkTestTimeoutOp e s.blk }

/-- STREAM_EN_WRITE (R178). An access to a register ends a write hold of its function (DESIGN CHOICE, log entry 39). -/
def execStreamEnWrite (v : BitVec 32) (s : State) : Host.Outcome State Fault Refusal :=
  .next { s with blk := streamEnWriteOp v (s.blk.endHold 0) }

/-- RD (R175). -/
def execRd (p : StreamPkt) (hw : HwErr) (s : State) : Host.Outcome State Fault Refusal :=
  .next { s with blk := fabricIn p (fun q => rdArrive q hw) s.blk }

/-- WR (R175). -/
def execWr (p : StreamPkt) (s : State) : Host.Outcome State Fault Refusal :=
  .next { s with blk := fabricIn p wrArrive s.blk }

/-- AMO (R175). -/
def execAmo (p : StreamPkt) (hw : HwErr) (s : State) : Host.Outcome State Fault Refusal :=
  .next { s with blk := fabricIn p (fun q => amoArrive q hw) s.blk }

/-- RDBLK (R175). -/
def execRdblk (p : StreamPkt) (hw : HwErr) (s : State) : Host.Outcome State Fault Refusal :=
  .next { s with blk := fabricIn p (fun q => rdblkArrive q hw) s.blk }

/-- RSP (R173). -/
def execRsp (p : StreamPkt) (s : State) : Host.Outcome State Fault Refusal :=
  .next { s with blk := answered (fabricIn p answerArrive) s.blk }

/-- ACK (R175). -/
def execAck (p : StreamPkt) (s : State) : Host.Outcome State Fault Refusal :=
  .next { s with blk := answered (fabricIn p answerArrive) s.blk }

/-- DATA (R175). -/
def execData (p : StreamPkt) (s : State) : Host.Outcome State Fault Refusal :=
  .next { s with blk := fabricIn p dataArrive s.blk }

/-- WBLK (R155). -/
def execWblk (p : StreamPkt) (s : State) : Host.Outcome State Fault Refusal :=
  .next { s with blk := fabricIn p wblkArrive s.blk }

/-- RBLK (R175). -/
def execRblk (p : StreamPkt) (s : State) : Host.Outcome State Fault Refusal :=
  .next { s with blk := answered (fabricIn p rblkArrive) s.blk }

/-- MBX (R385). -/
def execMbx (p : StreamPkt) (s : State) : Host.Outcome State Fault Refusal :=
  .next { s with blk := fabricIn p mbxArrive s.blk }

/-- NOTE (R114). -/
def execNote (p : StreamPkt) (s : State) : Host.Outcome State Fault Refusal :=
  .next { s with blk := fabricIn p noteArrive s.blk }

/-- CTRL (R184). -/
def execCtrl (p : StreamPkt) (s : State) : Host.Outcome State Fault Refusal :=
  .next { s with blk := fabricIn p ctrlArrive s.blk }

/-- LKPROBE (R147). -/
def execLkprobe (p : StreamPkt) (s : State) : Host.Outcome State Fault Refusal :=
  .next { s with blk := fabricIn p lkprobeArrive s.blk }

/-- LKREPLY (R147). -/
def execLkreply (p : StreamPkt) (s : State) : Host.Outcome State Fault Refusal :=
  .next { s with blk := answered (fabricIn p lkreplyArrive) s.blk }

/-- HELLO (R194). -/
def execHello (l : Nat) (s : State) : Host.Outcome State Fault Refusal :=
  .next { s with blk := helloOp l s.blk }

/-- LSA (R194). -/
def execLsa (l : Nat) (s : State) : Host.Outcome State Fault Refusal :=
  .next { s with blk := lsaOp l s.blk }

/-- LTEST (R178). -/
def execLtest (e : Nat) (p : BasicPkt) (s : State) : Host.Outcome State Fault Refusal :=
  .next { s with blk := ltestOp e p s.blk }

/-- LTEST_END (R178). -/
def execLtestEnd (e : Nat) (p : BasicPkt) (s : State) : Host.Outcome State Fault Refusal :=
  .next { s with blk := ltestEndOp e p s.blk }

/-- RECOVER (R178). -/
def execRecover (e : Nat) (s : State) : Host.Outcome State Fault Refusal :=
  .next { s with blk := recoverOp e s.blk }

/-- CTRLMSG (R176). -/
def execCtrlmsg (e : Nat) (p : BasicPkt) (s : State) : Host.Outcome State Fault Refusal :=
  .next { s with blk := ctrlmsgOp e p s.blk }

/-- RL_PERIOD_UPDATE (R189). -/
def execRlPeriodUpdate (conn : Option Nat) (s : State) : Host.Outcome State Fault Refusal :=
  .next { s with blk := rlPeriodOp conn s.blk }

/-- QDEPTH_SAMPLE (R197). -/
def execQdepthSample (hub : Bool) (port stall : Nat) (s : State) : Host.Outcome State Fault Refusal :=
  .next { s with blk := qdepthSampleOp hub port stall s.blk }

/-- HELLO_TIMER (R194). -/
def execHelloTimer (flood : Bool) (s : State) : Host.Outcome State Fault Refusal :=
  .next { s with blk := helloTimerOp flood s.blk }

/-- DISC_START (R194). An access to a register ends a write hold of its function (DESIGN CHOICE, log entry 39). -/
def execDiscStart (v : BitVec 32) (s : State) : Host.Outcome State Fault Refusal :=
  .next { s with blk := discStartOp v (s.blk.endHold 0) }

/-- DISC_QUIET_EXPIRY (R195). -/
def execDiscQuietExpiry (s : State) : Host.Outcome State Fault Refusal :=
  .next { s with blk := discQuietExpiryOp s.blk }

/-- DEV_ID_WRITE (R196). An access to a register ends a write hold of its function (DESIGN CHOICE, log entry 39). -/
def execDevIdWrite (v : BitVec 32) (s : State) : Host.Outcome State Fault Refusal :=
  .next { s with blk := devIdWriteOp v (s.blk.endHold 0) }

end Sys2Proof.Machine
end

