-- ==== Sys2Proof/Machine/ExecFt.lean ====
section
/-! DEFINITION. The meanings of the commands of Fyrrarel Transport (R256 to R288). Each is the operation that the rule describes; the
queue of waiting commands stays as it is. -/

namespace Sys2Proof.Machine

/-- FT_CONN_ALLOC (R264). -/
def execFtConnAlloc (n : Nat) (s : State) : Host.Outcome State Fault Refusal :=
  .next { s with blk := ftConnAllocOp n s.blk }

/-- FT_CONN_CONNECT (R264). -/
def execFtConnConnect (s : State) : Host.Outcome State Fault Refusal :=
  .next { s with blk := ftConnConnectOp s.blk }

/-- FT_CONN_CLOSE (R263). -/
def execFtConnClose (s : State) : Host.Outcome State Fault Refusal :=
  .next { s with blk := ftConnCloseOp s.blk }

/-- FT_CONN_RESET (R263). -/
def execFtConnReset (s : State) : Host.Outcome State Fault Refusal :=
  .next { s with blk := ftConnResetOp s.blk }

/-- FT_WIN_OPEN (R274). -/
def execFtWinOpen (n : Nat) (s : State) : Host.Outcome State Fault Refusal :=
  .next { s with blk := ftWinOpenOp n s.blk }

/-- FT_WIN_REVOKE (R277). -/
def execFtWinRevoke (s : State) : Host.Outcome State Fault Refusal :=
  .next { s with blk := ftWinRevokeOp s.blk }

/-- FT_WIN_REVOKE_DONE (R277). -/
def execFtWinRevokeDone (n : Nat) (s : State) : Host.Outcome State Fault Refusal :=
  .next { s with blk := ftWinRevokeDoneOp n s.blk }

/-- FT_CANCEL (R272). -/
def execFtCancel (ring : Option (List Byte)) (s : State) : Host.Outcome State Fault Refusal :=
  .next { s with blk := ftCancelOp ring s.blk }

/-- FT_CNT_SET (R269). -/
def execFtCntSet (s : State) : Host.Outcome State Fault Refusal :=
  .next { s with blk := ftCntSetOp s.blk }

/-- FT_SEND (R266). -/
def execFtSend (q : Nat) (s : State) : Host.Outcome State Fault Refusal :=
  .next { s with blk := ftSendOp q s.blk }

/-- FT_RECV (R267). -/
def execFtRecv (q : Nat) (s : State) : Host.Outcome State Fault Refusal :=
  .next { s with blk := ftRecvOp q s.blk }

/-- FT_ARMED_FIRE (R270). -/
def execFtArmedFire (q idx : Nat) (s : State) : Host.Outcome State Fault Refusal :=
  .next { s with blk := ftArmedFireOp q idx s.blk }

/-- FT_TX_SLICE (R286). -/
def execFtTxSlice (lose : Bool) (s : State) : Host.Outcome State Fault Refusal :=
  .next { s with blk := ftTxSliceOp lose s.blk }

/-- FT_CTX_FETCH_DONE (R286). -/
def execFtCtxFetchDone (c evict : Nat) (s : State) : Host.Outcome State Fault Refusal :=
  .next { s with blk := ftCtxFetchDoneOp c evict s.blk }

/-- FT_SEND_PACKET (R267). -/
def execFtSendPacket (l : Nat) (cm : Bool) (hw : FtHw) (s : State) : Host.Outcome State Fault Refusal :=
  .next { s with blk := ftSendPacketOp l cm hw s.blk }

/-- WRITE (R275). -/
def execWrite (l : Nat) (cm : Bool) (hw : FtHw) (s : State) : Host.Outcome State Fault Refusal :=
  .next { s with blk := ftWriteOp l cm hw s.blk }

/-- WRITE_IMM (R267). -/
def execWriteImm (l : Nat) (cm : Bool) (hw : FtHw) (s : State) : Host.Outcome State Fault Refusal :=
  .next { s with blk := ftWriteImmOp l cm hw s.blk }

/-- READ_REQ (R281). -/
def execReadReq (l : Nat) (cm : Bool) (hw : FtHw) (s : State) : Host.Outcome State Fault Refusal :=
  .next { s with blk := readReqOp l cm hw s.blk }

/-- READ_RESP (R268). -/
def execReadResp (l : Nat) (hw : FtHw) (s : State) : Host.Outcome State Fault Refusal :=
  .next { s with blk := readRespOp l hw s.blk }

/-- ATOMIC (R275). -/
def execAtomic (l : Nat) (cm : Bool) (hw : FtHw) (s : State) : Host.Outcome State Fault Refusal :=
  .next { s with blk := ftAtomicOp l cm hw s.blk }

/-- ATOMIC_RESP (R268). -/
def execAtomicResp (l : Nat) (hw : FtHw) (s : State) : Host.Outcome State Fault Refusal :=
  .next { s with blk := atomicRespOp l hw s.blk }

/-- FT_ACK (R282). -/
def execFtAck (l : Nat) (hw : FtHw) (s : State) : Host.Outcome State Fault Refusal :=
  .next { s with blk := ftAckOp l hw s.blk }

/-- NAK_SEQ (R280). -/
def execNakSeq (l : Nat) (hw : FtHw) (s : State) : Host.Outcome State Fault Refusal :=
  .next { s with blk := nakSeqOp l hw s.blk }

/-- NAK_BUSY (R280). -/
def execNakBusy (l : Nat) (hw : FtHw) (s : State) : Host.Outcome State Fault Refusal :=
  .next { s with blk := nakBusyOp l hw s.blk }

/-- NAK_ACCESS (R282). -/
def execNakAccess (l : Nat) (hw : FtHw) (s : State) : Host.Outcome State Fault Refusal :=
  .next { s with blk := nakAccessOp l hw s.blk }

/-- NAK_EXPIRED (R282). -/
def execNakExpired (l : Nat) (hw : FtHw) (s : State) : Host.Outcome State Fault Refusal :=
  .next { s with blk := nakExpiredOp l hw s.blk }

/-- NAK_INVALID (R282). -/
def execNakInvalid (l : Nat) (hw : FtHw) (s : State) : Host.Outcome State Fault Refusal :=
  .next { s with blk := nakInvalidOp l hw s.blk }

/-- NAK_CHECK (R283). -/
def execNakCheck (l : Nat) (hw : FtHw) (s : State) : Host.Outcome State Fault Refusal :=
  .next { s with blk := nakCheckOp l hw s.blk }

/-- FT_RTO_EXPIRY (R280). -/
def execFtRtoExpiry (c : Nat) (s : State) : Host.Outcome State Fault Refusal :=
  .next { s with blk := ftRtoExpiryOp c s.blk }

/-- FT_RNR_DELAY_EXPIRY (R280). -/
def execFtRnrDelayExpiry (c : Nat) (s : State) : Host.Outcome State Fault Refusal :=
  .next { s with blk := ftRnrDelayExpiryOp c s.blk }

/-- FT_ACK_DELAY_EXPIRY (R279). -/
def execFtAckDelayExpiry (c : Nat) (s : State) : Host.Outcome State Fault Refusal :=
  .next { s with blk := ftAckDelayExpiryOp c s.blk }

/-- FT_DRAIN_TIMEOUT (R263). -/
def execFtDrainTimeout (n : Nat) (s : State) : Host.Outcome State Fault Refusal :=
  .next { s with blk := ftDrainTimeoutOp n s.blk }

end Sys2Proof.Machine
end

