-- ==== Sys2Proof/Machine/ExecHost.lean ====
section
/-! DEFINITION. The meanings of the commands of the host link, the functions and the emulated registers (R334 to R360). Each is the
operation that the rule describes; the queue of waiting commands stays as it is. -/

namespace Sys2Proof.Machine

/-- HL_TRAINED (R334). -/
def execHlTrained (speed width : Nat) (cxl : Bool) (s : State) : Host.Outcome State Fault Refusal :=
  .next { s with blk := hlTrainedOp speed width cxl s.blk }

/-- HDM_HOST_READ (R343). -/
def execHdmHostRead (off : BitVec 35) (len : Nat) (cxl : Bool) (rid : Option (BitVec 16)) (s : State) : Host.Outcome State Fault Refusal :=
  .next { s with blk := hdmHostReadOp off len cxl rid s.blk }

/-- HDM_HOST_WRITE (R343). -/
def execHdmHostWrite (off : BitVec 35) (data : List Byte) (cxl : Bool) (rid : Option (BitVec 16)) (s : State) : Host.Outcome State Fault Refusal :=
  .next { s with blk := hdmHostWriteOp off data cxl rid s.blk }

/-- HDM_BIAS_SET (R344). -/
def execHdmBiasSet (s : State) : Host.Outcome State Fault Refusal :=
  .next { s with blk := hdmBiasSetOp s.blk }

/-- BIAS_FLUSH_DONE (R344). -/
def execBiasFlushDone (g : BitVec 19) (s : State) : Host.Outcome State Fault Refusal :=
  .next { s with blk := biasFlushDoneOp g s.blk }

/-- D3HOT_ENTER (R352). -/
def execD3hotEnter (f : BitVec 6) (pmeEn : Bool) (s : State) : Host.Outcome State Fault Refusal :=
  .next { s with blk := d3hotEnterOp f pmeEn s.blk }

/-- D0_RETURN (R352). -/
def execD0Return (f : BitVec 6) (s : State) : Host.Outcome State Fault Refusal :=
  .next { s with blk := d0ReturnOp f s.blk }

/-- FLR_PF (R453). -/
def execFlrPf (s : State) : Host.Outcome State Fault Refusal :=
  .next { s with blk := flrPfOp s.blk }

/-- FLR_VF (R337). -/
def execFlrVf (v : BitVec 6) (s : State) : Host.Outcome State Fault Refusal :=
  .next { s with blk := flrVfOp v s.blk }

/-- LTR_WRITE (R336). -/
def execLtrWrite (en : Bool) (snoop noSnoop : Option (BitVec 32)) (s : State) : Host.Outcome State Fault Refusal :=
  .next { s with blk := ltrWriteOp en snoop noSnoop s.blk }

/-- APERTURE_READ_COMPLETION (R135). -/
def execApertureReadCompletion (tag : Nat) (data : Option (List Byte)) (s : State) : Host.Outcome State Fault Refusal :=
  .next { s with blk := apertureReadCompletionOp tag data s.blk }

/-- COMPLETION_TIMEOUT (R135). -/
def execCompletionTimeout (tag : Nat) (s : State) : Host.Outcome State Fault Refusal :=
  .next { s with blk := completionTimeoutOp tag s.blk }

/-- MSIX_MOD_TIMER (R351). -/
def execMsixModTimer (f : BitVec 6) (v : BitVec 11) (s : State) : Host.Outcome State Fault Refusal :=
  .next { s with blk := msixModTimerOp f v s.blk }

/-- MSIX_UNMASK (R352). -/
def execMsixUnmask (f : BitVec 6) (en fnMask : Bool) (v : Option (BitVec 11)) (s : State) : Host.Outcome State Fault Refusal :=
  .next { s with blk := msixUnmaskOp f en fnMask v s.blk }

/-- LINK_L0_REACHED (R352). -/
def execLinkL0Reached (s : State) : Host.Outcome State Fault Refusal :=
  .next { s with blk := linkL0ReachedOp s.blk }

/-- EMU_WRITE (R354). -/
def execEmuWrite (off : BitVec 24) (size : Nat) (v : BitVec 32) (s : State) : Host.Outcome State Fault Refusal :=
  .next { s with blk := emuWriteOp off size v (s.blk.endHold 0) }

/-- EMU_ACT (R354). -/
def execEmuAct (s : State) : Host.Outcome State Fault Refusal :=
  .next { s with blk := emuActOp s.blk }

/-- EMU_HEARTBEAT (R356). -/
def execEmuHeartbeat (s : State) : Host.Outcome State Fault Refusal :=
  .next { s with blk := emuHeartbeatOp s.blk }

/-- FW_WATCHDOG (R434). -/
def execFwWatchdog (s : State) : Host.Outcome State Fault Refusal :=
  .next { s with blk := fwWatchdogOp s.blk }

/-- HOST_LINK_DOWN (R336). -/
def execHostLinkDown (s : State) : Host.Outcome State Fault Refusal :=
  .next { s with blk := hostLinkDownOp s.blk }

/-- LINK_POWER_STATE_ENTRY (R352). -/
def execLinkPowerStateEntry (ps : LinkPs) (s : State) : Host.Outcome State Fault Refusal :=
  .next { s with blk := linkPowerStateEntryOp ps s.blk }

/-- PME_STATUS_CLEAR (R352). -/
def execPmeStatusClear (f : BitVec 6) (s : State) : Host.Outcome State Fault Refusal :=
  .next { s with blk := pmeStatusClearOp f s.blk }

end Sys2Proof.Machine
end

