-- ==== Sys2Proof/Machine/ExecHutch.lean ====
section
/-! DEFINITION. The meanings of the commands of the Hutch and the cipher engine (R318 to R333). Each is the operation that the rule
describes; the queue of waiting commands stays as it is. -/

namespace Sys2Proof.Machine

/-- HUTCH_KEK_LOAD (R322). -/
def execHutchKekLoad (s : State) : Host.Outcome State Fault Refusal :=
  .next { s with blk := hutchKekLoadOp s.blk }

/-- HUTCH_KEK_CLEAR (R322). -/
def execHutchKekClear (s : State) : Host.Outcome State Fault Refusal :=
  .next { s with blk := hutchKekClearOp s.blk }

/-- HUTCH_KEY_LOAD (R322). -/
def execHutchKeyLoad (s : State) : Host.Outcome State Fault Refusal :=
  .next { s with blk := hutchKeyLoadOp s.blk }

/-- HUTCH_KEY_CLEAR (R322). -/
def execHutchKeyClear (s : State) : Host.Outcome State Fault Refusal :=
  .next { s with blk := hutchKeyClearOp s.blk }

/-- CIP_EN_WRITE (R330). An access to a register ends a write hold of its function (DESIGN CHOICE, log entry 39). -/
def execCipEnWrite (v : BitVec 32) (s : State) : Host.Outcome State Fault Refusal :=
  .next { s with blk := cipEnWriteOp v (s.blk.endHold 0) }

end Sys2Proof.Machine
end

