-- ==== Sys2Proof/Machine/ExecInstances.lean ====
section
/-! DEFINITION. The meanings of the commands of instances, freezing and migration (R390 to R411). Each is the operation that the rule
describes; the queue of waiting commands stays as it is. -/

namespace Sys2Proof.Machine

/-- CREATE_INSTANCE (R392). -/
def execCreateInstance (s : State) : Host.Outcome State Fault Refusal :=
  .next { s with blk := createInstanceOp s.blk }

/-- DESTROY_INSTANCE (R394). -/
def execDestroyInstance (s : State) : Host.Outcome State Fault Refusal :=
  .next { s with blk := destroyInstanceOp s.blk }

/-- RESET_INSTANCE (R397). -/
def execResetInstance (s : State) : Host.Outcome State Fault Refusal :=
  .next { s with blk := resetInstanceOp s.blk }

/-- FREEZE_INSTANCE (R402). -/
def execFreezeInstance (s : State) : Host.Outcome State Fault Refusal :=
  .next { s with blk := freezeInstanceOp s.blk }

/-- SAVE_INSTANCE (R405). -/
def execSaveInstance (gmap : Option (List Byte)) (s : State) : Host.Outcome State Fault Refusal :=
  .next { s with blk := saveInstanceOp gmap s.blk }

/-- RESTORE_INSTANCE (R407). -/
def execRestoreInstance (image : Option (List Byte)) (s : State) : Host.Outcome State Fault Refusal :=
  .next { s with blk := restoreInstanceOp image s.blk }

/-- RESUME_INSTANCE (R408). -/
def execResumeInstance (s : State) : Host.Outcome State Fault Refusal :=
  .next { s with blk := resumeInstanceOp s.blk }

/-- DIRTY_LOG_START (R403). -/
def execDirtyLogStart (s : State) : Host.Outcome State Fault Refusal :=
  .next { s with blk := dirtyLogStartOp s.blk }

/-- DIRTY_LOG_EPOCH (R403). -/
def execDirtyLogEpoch (s : State) : Host.Outcome State Fault Refusal :=
  .next { s with blk := dirtyLogEpochOp s.blk }

/-- DIRTY_LOG_STOP (R403). -/
def execDirtyLogStop (s : State) : Host.Outcome State Fault Refusal :=
  .next { s with blk := dirtyLogStopOp s.blk }

/-- RESET_DRAIN_DONE (R398). -/
def execResetDrainDone (i : BitVec 6) (s : State) : Host.Outcome State Fault Refusal :=
  .next { s with blk := resetDrainDoneOp i s.blk }

/-- ZEROISE_DONE (R400). -/
def execZeroiseDone (r : BitVec 6) (s : State) : Host.Outcome State Fault Refusal :=
  .next { s with blk := zeroiseDoneOp r s.blk }

/-- FREEZE_DONE (R402). -/
def execFreezeDone (i : BitVec 6) (s : State) : Host.Outcome State Fault Refusal :=
  .next { s with blk := freezeDoneOp i s.blk }

/-- FREEZE_CUT (R402). -/
def execFreezeCut (i : BitVec 6) (s : State) : Host.Outcome State Fault Refusal :=
  .next { s with blk := freezeCutOp i s.blk }

end Sys2Proof.Machine
end

