-- ==== Sys2Proof/Machine/ExecMatrix.lean ====
section
/-! DEFINITION. The meanings of the commands of loads, stores, block transfers and matrix instructions (R104 to R117). Each is the
operation that the rule describes; the queue of waiting commands stays as it is. -/

namespace Sys2Proof.Machine

/-- LD (R104). -/
def execLd (i : Issue) (f : FmtI) (s : State) : Host.Outcome State Fault Refusal :=
  .next { s with blk := ldOp i f s.blk }

/-- ST (R104). -/
def execSt (i : Issue) (f : FmtI) (s : State) : Host.Outcome State Fault Refusal :=
  .next { s with blk := stOp i f s.blk }

/-- VLD (R104). -/
def execVld (i : Issue) (f : FmtI) (s : State) : Host.Outcome State Fault Refusal :=
  .next { s with blk := vldOp i f s.blk }

/-- VST (R104). -/
def execVst (i : Issue) (f : FmtI) (s : State) : Host.Outcome State Fault Refusal :=
  .next { s with blk := vstOp i f s.blk }

/-- LDB (R105). -/
def execLdb (i : Issue) (f : FmtI) (s : State) : Host.Outcome State Fault Refusal :=
  .next { s with blk := ldbOp i f s.blk }

/-- STB (R107). -/
def execStb (i : Issue) (f : FmtI) (s : State) : Host.Outcome State Fault Refusal :=
  .next { s with blk := stbOp i f s.blk }

/-- MXM (R112). -/
def execMxm (i : Issue) (f : FmtM) (s : State) : Host.Outcome State Fault Refusal :=
  .next { s with blk := mxmOp i f s.blk }

/-- MXMS (R114). -/
def execMxms (i : Issue) (f : FmtM) (s : State) : Host.Outcome State Fault Refusal :=
  .next { s with blk := mxmsOp i f s.blk }

/-- MXMR (R115). -/
def execMxmr (i : Issue) (f : FmtM) (s : State) : Host.Outcome State Fault Refusal :=
  .next { s with blk := mxmrOp i f s.blk }

/-- MXST (R113). -/
def execMxst (i : Issue) (f : FmtM) (s : State) : Host.Outcome State Fault Refusal :=
  .next { s with blk := mxstOp i f s.blk }

/-- MXAW (R116). -/
def execMxaw (i : Issue) (f : FmtM) (s : State) : Host.Outcome State Fault Refusal :=
  .next { s with blk := mxawOp i f s.blk }

/-- ACLR (R117). -/
def execAclr (i : Issue) (f : FmtM) (s : State) : Host.Outcome State Fault Refusal :=
  .next { s with blk := aclrOp i f s.blk }

/-- ASAVE (R81). -/
def execAsave (i : Issue) (f : FmtM) (s : State) : Host.Outcome State Fault Refusal :=
  .next { s with blk := accXferOp true i f s.blk }

/-- ARST (R81). -/
def execArst (i : Issue) (f : FmtM) (s : State) : Host.Outcome State Fault Refusal :=
  .next { s with blk := accXferOp false i f s.blk }

/-- ASTAT (R117). -/
def execAstat (i : Issue) (f : FmtM) (s : State) : Host.Outcome State Fault Refusal :=
  .next { s with blk := astatOp i f s.blk }

/-- MALLOC (R76). -/
def execMalloc (i : Issue) (f : FmtM) (s : State) : Host.Outcome State Fault Refusal :=
  .next { s with blk := mallocOp i f s.blk }

/-- MFREE (R76). -/
def execMfree (i : Issue) (f : FmtM) (s : State) : Host.Outcome State Fault Refusal :=
  .next { s with blk := mfreeOp i f s.blk }

end Sys2Proof.Machine
end

