-- ==== Sys2Proof/Machine/ExecPower.lean ====
section
/-! DEFINITION. The meanings of the commands of power, clocks, resets, boot and register accesses (R22 to R32, R200, R440 to R473). Each
is the operation that the rule describes; the queue of waiting commands stays as it is. -/

namespace Sys2Proof.Machine

/-- REGION_WAKE_DONE (R441). -/
def execRegionWakeDone (r : BitVec 6) (s : State) : Host.Outcome State Fault Refusal :=
  .next { s with blk := (regionWakeDoneOp r s.blk).placeHeld.placeWaiting }

/-- PL3_EXIT (R444). -/
def execPl3Exit (s : State) : Host.Outcome State Fault Refusal :=
  .next { s with blk := (pl3ExitOp s.blk).placeHeld.placeWaiting }

/-- FREQ_STEP (R447). -/
def execFreqStep (r : BitVec 6) (s : State) : Host.Outcome State Fault Refusal :=
  .next { s with blk := freqStepOp r s.blk }

/-- FREQ_TGT_WRITE (R447). An access to a register ends a write hold of its function (DESIGN CHOICE, log entry 39). -/
def execFreqTgtWrite (r : BitVec 6) (v : BitVec 32) (s : State) : Host.Outcome State Fault Refusal :=
  .next { s with blk := freqTgtWriteOp r v (s.blk.endHold 0) }

/-- POWER_SAMPLE (R448). -/
def execPowerSample (vin iin : BitVec 16) (s : State) : Host.Outcome State Fault Refusal :=
  .next { s with blk := powerSampleOp vin iin s.blk }

/-- THERMAL_SAMPLE (R449). -/
def execThermalSample (temps : List (BitVec 8)) (s : State) : Host.Outcome State Fault Refusal :=
  .next { s with blk := thermalSampleOp temps s.blk }

/-- REF_LOST (R451). -/
def execRefLost (s : State) : Host.Outcome State Fault Refusal :=
  .next { s with blk := refLostOp s.blk }

/-- REF_RESTORED (R451). -/
def execRefRestored (s : State) : Host.Outcome State Fault Refusal :=
  .next { s with blk := refRestoredOp s.blk }

/-- PCIE_REFCLK_LOST (R451). -/
def execPcieRefclkLost (s : State) : Host.Outcome State Fault Refusal :=
  .next { s with blk := pcieRefclkLostOp s.blk }

/-- VIN_SAMPLE (R471). -/
def execVinSample (v : BitVec 16) (s : State) : Host.Outcome State Fault Refusal :=
  .next { s with blk := vinSampleOp v s.blk }

/-- POWER_ON_RESET (R452). -/
def execPowerOnReset (s : State) : Host.Outcome State Fault Refusal :=
  .next { s with blk := powerOnResetOp s.blk }

/-- PERST_N_ASSERT (R453). -/
def execPerstNAssert (s : State) : Host.Outcome State Fault Refusal :=
  .next { s with blk := perstNAssertOp s.blk }

/-- PERST_N_DEASSERT (R472). -/
def execPerstNDeassert (s : State) : Host.Outcome State Fault Refusal :=
  .next { s with blk := perstNDeassertOp s.blk }

/-- PWR_EN_ASSERT (R472). -/
def execPwrEnAssert (s : State) : Host.Outcome State Fault Refusal :=
  .next { s with blk := pwrEnAssertOp s.blk }

/-- PWR_EN_DEASSERT (R446). -/
def execPwrEnDeassert (s : State) : Host.Outcome State Fault Refusal :=
  .next { s with blk := pwrEnDeassertOp s.blk }

/-- PWR_EN_HOLD_END (R472). -/
def execPwrEnHoldEnd (s : State) : Host.Outcome State Fault Refusal :=
  .next { s with blk := pwrEnHoldEndOp s.blk }

/-- POSITION_RESET (R454). An access to a register ends a write hold of its function (DESIGN CHOICE, log entry 39). -/
def execPositionReset (pos : BitVec 14) (s : State) : Host.Outcome State Fault Refusal :=
  .next { s with blk := positionResetOp pos (s.blk.endHold 0) }

/-- POS_RESET_DONE (R454). -/
def execPosResetDone (s : State) : Host.Outcome State Fault Refusal :=
  .next { s with blk := posResetDoneOp s.blk }

/-- BOOT_GO (R455). An access to a register ends a write hold of its function (DESIGN CHOICE, log entry 39). -/
def execBootGo (s : State) : Host.Outcome State Fault Refusal :=
  .next { s with blk := bootGoOp (s.blk.endHold 0) }

/-- BOOT_VERIFY (R456). -/
def execBootVerify (image : Option (List Byte)) (katOk : Bool) (s : State) : Host.Outcome State Fault Refusal :=
  .next { s with blk := bootVerifyOp image katOk s.blk }

/-- STARTUP_PORTS_DONE (R455). -/
def execStartupPortsDone (s : State) : Host.Outcome State Fault Refusal :=
  .next { s with blk := startupPortsDoneOp s.blk }

/-- STARTUP_FABRIC_READY (R455). -/
def execStartupFabricReady (s : State) : Host.Outcome State Fault Refusal :=
  .next { s with blk := startupFabricReadyOp s.blk }

/-- VBAT_LOW (R457). -/
def execVbatLow (s : State) : Host.Outcome State Fault Refusal :=
  .next { s with blk := vbatLowOp s.blk }

/-- RTC_TICK (R457). -/
def execRtcTick (s : State) : Host.Outcome State Fault Refusal :=
  .next { s with blk := rtcTickOp s.blk }

/-- RTC_WRITE (R457). An access to a register ends a write hold of its function (DESIGN CHOICE, log entry 39). -/
def execRtcWrite (v : BitVec 32) (s : State) : Host.Outcome State Fault Refusal :=
  .next { s with blk := rtcWriteOp v (s.blk.endHold 0) }

/-- QPEAK_READ (R200). An access to a register ends a write hold of its function (DESIGN CHOICE, log entry 39). -/
def execQpeakRead (hub : Bool) (port : Nat) (s : State) : Host.Outcome State Fault Refusal :=
  .next { s with blk := qpeakReadOp hub port (s.blk.endHold 0) }

/-- PWR_PEAK_READ (R460). An access to a register ends a write hold of its function (DESIGN CHOICE, log entry 39). -/
def execPwrPeakRead (s : State) : Host.Outcome State Fault Refusal :=
  .next { s with blk := pwrPeakReadOp (s.blk.endHold 0) }

/-- REG_LOW_HALF_READ (R28). -/
def execRegLowHalfRead (fn : BitVec 6) (bar2 : Bool) (off : BitVec 26) (size : Nat) (s : State) : Host.Outcome State Fault Refusal :=
  .next { s with blk := regLowHalfReadOp fn bar2 off size s.blk }

/-- REG_WRITE (R24). -/
def execRegWrite (fn : BitVec 6) (bar2 : Bool) (off : BitVec 26) (size : Nat) (v : Word) (s : State) : Host.Outcome State Fault Refusal :=
  .next { s with blk := regWriteOp fn bar2 off size v s.blk }

/-- PWR_GOOD_ASSERT (R472). -/
def execPwrGoodAssert (s : State) : Host.Outcome State Fault Refusal :=
  .next { s with blk := pwrGoodAssertOp s.blk }

/-- RAIL_FAULT (R472). -/
def execRailFault (s : State) : Host.Outcome State Fault Refusal :=
  .next { s with blk := railFaultOp s.blk }

/-- PLL_UNLOCK (R461). -/
def execPllUnlock (d : Nat) (s : State) : Host.Outcome State Fault Refusal :=
  .next { s with blk := pllUnlockOp d s.blk }

/-- PCIE_REFCLK_RESTORED (R451). -/
def execPcieRefclkRestored (s : State) : Host.Outcome State Fault Refusal :=
  .next { s with blk := pcieRefclkRestoredOp s.blk }

end Sys2Proof.Machine
end

