-- ==== Sys2Proof/Machine/ExecQueues.lean ====
section
/-! DEFINITION. The meanings of the commands of queues, jobs and commands (R157 to R163, R348, R361 to R389). Each is the operation that
the rule describes; the queue of waiting commands stays as it is. -/

namespace Sys2Proof.Machine

/-- MOVE_FRAGMENT_DONE (R158). -/
def execMoveFragmentDone (id f : Nat) (corrupt : Bool) (host : Option (List Byte)) (s : State) : Host.Outcome State Fault Refusal :=
  .next { s with blk := moveFragmentDoneOp id f corrupt host s.blk }

/-- DOORBELL (R366). An access to a register ends a write hold of its function (DESIGN CHOICE, log entry 39). -/
def execDoorbell (fn slot : Nat) (s : State) : Host.Outcome State Fault Refusal :=
  .next { s with blk := doorbellOp fn slot (s.blk.endHold fn) }

/-- QUEUE_ENTRY_FETCHED (R365). -/
def execQueueEntryFetched (q : Nat) (data : Option (List Byte)) (s : State) : Host.Outcome State Fault Refusal :=
  .next { s with blk := queueEntryFetchedOp q data s.blk }

/-- QUEUE_ENABLE (R371). An access to a register ends a write hold of its function (DESIGN CHOICE, log entry 39). -/
def execQueueEnable (q : Nat) (s : State) : Host.Outcome State Fault Refusal :=
  .next { s with blk := queueEnableOp q (s.blk.endHold (s.blk.fnOfQueue q)) }

/-- QUEUE_DISABLE (R371). An access to a register ends a write hold of its function (DESIGN CHOICE, log entry 39). -/
def execQueueDisable (q : Nat) (s : State) : Host.Outcome State Fault Refusal :=
  .next { s with blk := (queueDisableOp q (s.blk.endHold (s.blk.fnOfQueue q))).settleSq q }

/-- QUEUE_CLR_ERR (R371). An access to a register ends a write hold of its function (DESIGN CHOICE, log entry 39). -/
def execQueueClrErr (q : Nat) (s : State) : Host.Outcome State Fault Refusal :=
  .next { s with blk := queueClrErrOp q (s.blk.endHold (s.blk.fnOfQueue q)) }

/-- CQ_CONS_WRITE (R376). An access to a register ends a write hold of its function (DESIGN CHOICE, log entry 39). -/
def execCqConsWrite (q : Nat) (v : BitVec 32) (s : State) : Host.Outcome State Fault Refusal :=
  .next { s with blk := cqConsWriteOp q v (s.blk.endHold (s.blk.fnOfQueue q)) }

/-- QUE_PF_WRITE (R388). An access to a register ends a write hold of its function (DESIGN CHOICE, log entry 39). -/
def execQuePfWrite (v : BitVec 32) (s : State) : Host.Outcome State Fault Refusal :=
  .next { s with blk := quePfWriteOp v (s.blk.endHold 0) }

/-- HEAD_PUBLISH (R369). -/
def execHeadPublish (q : Nat) (s : State) : Host.Outcome State Fault Refusal :=
  .next { s with blk := headPublishOp q s.blk }

/-- JOB_STEP (R377). -/
def execJobStep (q : Nat) (s : State) : Host.Outcome State Fault Refusal :=
  .next { s with blk := jobStepOp q s.blk }

/-- JOB_STEP_START (R377). -/
def execJobStepStart (q : Nat) (s : State) : Host.Outcome State Fault Refusal :=
  .next { s with blk := jobStepStartOp q s.blk }

/-- JOB_MOVE (R377). -/
def execJobMove (q : Nat) (s : State) : Host.Outcome State Fault Refusal :=
  .next { s with blk := jobMoveOp q s.blk }

/-- JOB_HCOPY (R348). -/
def execJobHcopy (q : Nat) (s : State) : Host.Outcome State Fault Refusal :=
  .next { s with blk := jobHcopyOp q s.blk }

/-- CMD_ACCEPT (R379). -/
def execCmdAccept (q : Nat) (payload : Option (List Byte)) (s : State) : Host.Outcome State Fault Refusal :=
  .next { s with blk := cmdAcceptOp q payload s.blk }

/-- CMD_REPLY (R381). -/
def execCmdReply (fn : Nat) (s : State) : Host.Outcome State Fault Refusal :=
  .next { s with blk := cmdReplyOp fn s.blk }

/-- HRM_DATA_READ (R385). An access to a register ends a write hold of its function (DESIGN CHOICE, log entry 39). -/
def execHrmDataRead (fn : Nat) (low : Bool) (s : State) : Host.Outcome State Fault Refusal :=
  .next { s with blk := hrmDataReadOp fn low (s.blk.endHold fn) }

/-- CMD_NOP (R382). -/
def execCmdNop (s : State) : Host.Outcome State Fault Refusal :=
  .next { s with blk := cmdNopOp s.blk }

/-- MOVE (R382). -/
def execMove (s : State) : Host.Outcome State Fault Refusal :=
  .next { s with blk := moveOp s.blk }

/-- HCOPY (R348). -/
def execHcopy (s : State) : Host.Outcome State Fault Refusal :=
  .next { s with blk := hcopyOp s.blk }

end Sys2Proof.Machine
end

