-- ==== Sys2Proof/Machine/ExecReliability.lean ====
section
/-! DEFINITION. The meanings of the commands of reliability and management (R156, R412 to R439, R477). Each is the operation that the
rule describes; the queue of waiting commands stays as it is. -/

namespace Sys2Proof.Machine

/-- SCRUB (R156). -/
def execScrub (x : ScrubAt) (hw : HwErr) (s : State) : Host.Outcome State Fault Refusal :=
  .next { s with blk := scrubOp x hw s.blk }

/-- CORE_AGE_TICK (R424). -/
def execCoreAgeTick (s : State) : Host.Outcome State Fault Refusal :=
  .next { s with blk := coreAgeTickOp s.blk }

/-- IFT_DONE (R425). -/
def execIftDone (unit : Nat) (pass : Bool) (s : State) : Host.Outcome State Fault Refusal :=
  .next { s with blk := iftDoneOp unit pass s.blk }

/-- ERROR_HANDLE (R432). -/
def execErrorHandle (s : State) : Host.Outcome State Fault Refusal :=
  .next { s with blk := errorHandleOp s.blk }

/-- SIDEBOARD_HEARTBEAT (R436). -/
def execSideboardHeartbeat (s : State) : Host.Outcome State Fault Refusal :=
  .next { s with blk := sideboardHeartbeatOp s.blk }

/-- HIST_FLASH_WRITE (R429). -/
def execHistFlashWrite (ok : Bool) (s : State) : Host.Outcome State Fault Refusal :=
  .next { s with blk := histFlashWriteOp ok s.blk }

/-- REL_FORCE_TEST (R438). An access to a register ends a write hold of its function (DESIGN CHOICE, log entry 39). -/
def execRelForceTest (u : BitVec 20) (s : State) : Host.Outcome State Fault Refusal :=
  .next { s with blk := relForceTestOp u (s.blk.endHold 0) }

/-- REL_FORCE_RETIRE (R438). An access to a register ends a write hold of its function (DESIGN CHOICE, log entry 39). -/
def execRelForceRetire (u : BitVec 20) (s : State) : Host.Outcome State Fault Refusal :=
  .next { s with blk := relForceRetireOp u (s.blk.endHold 0) }

/-- REL_FORCE_RETURN (R428). An access to a register ends a write hold of its function (DESIGN CHOICE, log entry 39). -/
def execRelForceReturn (u : BitVec 20) (s : State) : Host.Outcome State Fault Refusal :=
  .next { s with blk := relForceReturnOp u (s.blk.endHold 0) }

/-- HQ_UNIT_WRITE (R438). An access to a register ends a write hold of its function (DESIGN CHOICE, log entry 39). -/
def execHqUnitWrite (v : BitVec 32) (s : State) : Host.Outcome State Fault Refusal :=
  .next { s with blk := hqUnitWriteOp v (s.blk.endHold 0) }

/-- HQ_ANSWER (R438). -/
def execHqAnswer (s : State) : Host.Outcome State Fault Refusal :=
  .next { s with blk := hqAnswerOp s.blk }

/-- MCTP_MESSAGE (R477). -/
def execMctpMessage (warn : Bool) (s : State) : Host.Outcome State Fault Refusal :=
  .next { s with blk := mctpMessageOp warn s.blk }

/-- REDFISH_REQUEST (R437). -/
def execRedfishRequest (q : RedfishReq) (s : State) : Host.Outcome State Fault Refusal :=
  .next { s with blk := redfishRequestOp q s.blk }

/-- AON_PARITY (R434). -/
def execAonParity (x : AonFault) (s : State) : Host.Outcome State Fault Refusal :=
  .next { s with blk := aonParityOp x s.blk }

end Sys2Proof.Machine
end

