-- ==== Sys2Proof/Machine/Flags.lean ====
section
/-! DEFINITION. Conditions and flags: the integer conditions of R99, the floating-point conditions of R101, and the flags of
a signalling operand (R62). -/

namespace Sys2Proof.Machine

/-- The integer conditions (R99) on `w`-bit values: 0 EQ, 1 NE, 2 LT signed, 3 GE signed, 4 LTU, 5 GEU. -/
def intCond (m w a b : Nat) : Bool :=
  match m with
  | 0 => a == b
  | 1 => a != b
  | 2 => decide (sext w a < sext w b)
  | 3 => decide (sext w b ≤ sext w a)
  | 4 => decide (a < b)
  | _ => decide (b ≤ a)

/-- The floating-point conditions of VCMP (R101): 0 EQ, 1 NE, 2 LT, 3 LE, 4 UNORD. LT and LE are IEEE 754's signalling
comparisons, the others are quiet (DEDUCED, log entry 9). -/
def fpCond (f : FFmt) (m a b : Nat) : Bool × FFlags :=
  let x := f.decode a
  let y := f.decode b
  let un := x == .nan || y == .nan
  let sn := f.isSNaN a || f.isSNaN b
  let r := match m with
    | 0 => fEq x y
    | 1 => !(fEq x y)
    | 2 => fLt x y
    | 3 => fLt x y || fEq x y
    | _ => un
  (r, { nv := sn || (un && (m == 2 || m == 3)) })

/-- The invalid flag of a signalling NaN among the operands (IEEE 754, R62). -/
def snanFlags (f : FFmt) (l : List Nat) : FFlags := { nv := l.any (fun a => f.isSNaN a) }

end Sys2Proof.Machine
end

