-- ==== Sys2Proof/Machine/Scalar.lean ====
section
/-! DEFINITION. The scalar instructions (R98 to R100). -/

namespace Sys2Proof.Machine

/-- The scalar operations of two operands (R98). -/
inductive AluOp where
  | add | sub | mul | mulh | div | rem | and | or | xor | shl | shr | cmp
  deriving DecidableEq, Repr

/-- Truncated signed quotient and remainder with the fixed results of R100. -/
def sdivW (a b : Word) : Word :=
  if b = 0 then BitVec.allOnes 64 else BitVec.ofInt 64 (Int.tdiv a.toInt b.toInt)
def sremW (a b : Word) : Word :=
  if b = 0 then a else BitVec.ofInt 64 (Int.tmod a.toInt b.toInt)
def udivW (a b : Word) : Word := if b = 0 then BitVec.allOnes 64 else BitVec.ofNat 64 (a.toNat / b.toNat)
def uremW (a b : Word) : Word := if b = 0 then a else BitVec.ofNat 64 (a.toNat % b.toNat)

/-- One scalar result (R98 to R100); `m` is the modifier M. -/
def alu (op : AluOp) (m : Nat) (a b : Word) : Word :=
  match op with
  | .add => a + b
  | .sub => a - b
  | .mul => a * b
  | .mulh => if m % 2 = 0 then BitVec.ofInt 64 ((a.toInt * b.toInt) / 2 ^ 64) else BitVec.ofNat 64 (a.toNat * b.toNat / 2 ^ 64)
  | .div => if m % 2 = 0 then sdivW a b else udivW a b
  | .rem => if m % 2 = 0 then sremW a b else uremW a b
  | .and => a &&& b
  | .or => a ||| b
  | .xor => a ^^^ b
  | .shl => a <<< (b.toNat % 64)
  | .shr => if m % 2 = 0 then a >>> (b.toNat % 64) else a.sshiftRight (b.toNat % 64)
  | .cmp => if intCond m 64 a.toNat b.toNat then 1 else 0

/-- How many values M may take (R98, R99). -/
def AluOp.mMax : AluOp → Nat
  | .mulh | .div | .rem | .shr => 2
  | .cmp => 6
  | _ => 1

/-- Write gD and go on at the next instruction. -/
def Blk.writeG (s : Blk) (p t d : Nat) (v : Word) : Blk := (s.modTh p t (fun x => x.gw d v)).retire p t false

/-- A scalar instruction in format R. -/
def scalarR (op : AluOp) (i : Issue) (f : FmtR) (s : Blk) : Blk :=
  let p := i.pos.toNat
  let t := i.tid.toNat
  let th := s.th p t
  s.issue i false [.g f.d.toNat, .g f.a.toNat, .g f.b.toNat] false (f.bad true false false false op.mMax) true
    (fun s => s.writeG p t f.d.toNat (alu op f.m.toNat (th.gr f.a.toNat) (th.gr f.b.toNat)))

/-- A scalar instruction in format I: as in format R, with IMM in place of gB (R98). -/
def scalarI (op : AluOp) (i : Issue) (f : FmtI) (s : Blk) : Blk :=
  let p := i.pos.toNat
  let t := i.tid.toNat
  let th := s.th p t
  s.issue i false [.g f.d.toNat, .g f.a.toNat] false (f.bad true true false false op.mMax) true
    (fun s => s.writeG p t f.d.toNat (alu op f.m.toNat (th.gr f.a.toNat) f.immW))

/-- SEL (R98): gD ← gA when gC ≠ 0, otherwise gB. -/
def selOp (i : Issue) (f : FmtR) (s : Blk) : Blk :=
  let p := i.pos.toNat
  let t := i.tid.toNat
  let th := s.th p t
  s.issue i false [.g f.d.toNat, .g f.a.toNat, .g f.b.toNat, .g f.c.toNat] false (f.bad true true false false 1) true
    (fun s => s.writeG p t f.d.toNat (if th.gr f.c.toNat ≠ 0 then th.gr f.a.toNat else th.gr f.b.toNat))

/-- LIH (R98): IMM in the high half above gA[31:0]. -/
def lihOp (i : Issue) (f : FmtI) (s : Blk) : Blk :=
  let p := i.pos.toNat
  let t := i.tid.toNat
  let th := s.th p t
  s.issue i false [.g f.d.toNat, .g f.a.toNat] false (f.bad true true false false 1) true
    (fun s => s.writeG p t f.d.toNat ((f.immW <<< 32) ||| ((th.gr f.a.toNat) &&& 0xFFFFFFFF#64)))

/-- BR (R98, R99): PC ← PC + 8 × IMM when the condition holds. -/
def brOp (i : Issue) (f : FmtI) (s : Blk) : Blk :=
  let p := i.pos.toNat
  let t := i.tid.toNat
  let th := s.th p t
  s.issue i false [.g f.a.toNat, .g f.b.toNat] false (f.bad false true true false 6) true
    (fun s => if intCond f.m.toNat 64 (th.gr f.a.toNat).toNat (th.gr f.b.toNat).toNat then
        s.modTh p t (fun x => { x with pc := x.pc + ((f.immW <<< 3).setWidth 40) })
      else s.retire p t false)

/-- JAL (R98, R100): gD ← PC + 8; PC ← gA + IMM; a misaligned target raises ALIGN and does not jump. PC keeps 40 bits of the
target (DEDUCED, log entry 7). -/
def jalOp (i : Issue) (f : FmtI) (s : Blk) : Blk :=
  let p := i.pos.toNat
  let t := i.tid.toNat
  let th := s.th p t
  let target := th.gr f.a.toNat + f.immW
  s.issue i false [.g f.d.toNat, .g f.a.toNat] false (f.bad true true false false 1) true
    (fun s => if target.toNat % 8 ≠ 0 then s.raiseExc p t .align th.pc.toNat target.toNat
      else s.modTh p t (fun x => { (x.gw f.d.toNat ((x.pc + 8).zeroExtend 64)) with pc := target.setWidth 40 }))

end Sys2Proof.Machine
end

