-- ==== Sys2Proof/Machine/ExecScalar.lean ====
section
/-! DEFINITION. The meanings of the commands of scalar and branch instructions (R98 to R100). Each is the operation that the rule
describes; the queue of waiting commands stays as it is. -/

namespace Sys2Proof.Machine

/-- ADD (R98). -/
def execAdd (i : Issue) (f : FmtR) (s : State) : Host.Outcome State Fault Refusal :=
  .next { s with blk := scalarR .add i f s.blk }

/-- SUB (R98). -/
def execSub (i : Issue) (f : FmtR) (s : State) : Host.Outcome State Fault Refusal :=
  .next { s with blk := scalarR .sub i f s.blk }

/-- MUL (R98). -/
def execMul (i : Issue) (f : FmtR) (s : State) : Host.Outcome State Fault Refusal :=
  .next { s with blk := scalarR .mul i f s.blk }

/-- MULH (R98). -/
def execMulh (i : Issue) (f : FmtR) (s : State) : Host.Outcome State Fault Refusal :=
  .next { s with blk := scalarR .mulh i f s.blk }

/-- DIV (R100). -/
def execDiv (i : Issue) (f : FmtR) (s : State) : Host.Outcome State Fault Refusal :=
  .next { s with blk := scalarR .div i f s.blk }

/-- REM (R100). -/
def execRem (i : Issue) (f : FmtR) (s : State) : Host.Outcome State Fault Refusal :=
  .next { s with blk := scalarR .rem i f s.blk }

/-- AND (R98). -/
def execAnd (i : Issue) (f : FmtR) (s : State) : Host.Outcome State Fault Refusal :=
  .next { s with blk := scalarR .and i f s.blk }

/-- OR (R98). -/
def execOr (i : Issue) (f : FmtR) (s : State) : Host.Outcome State Fault Refusal :=
  .next { s with blk := scalarR .or i f s.blk }

/-- XOR (R98). -/
def execXor (i : Issue) (f : FmtR) (s : State) : Host.Outcome State Fault Refusal :=
  .next { s with blk := scalarR .xor i f s.blk }

/-- SHL (R98). -/
def execShl (i : Issue) (f : FmtR) (s : State) : Host.Outcome State Fault Refusal :=
  .next { s with blk := scalarR .shl i f s.blk }

/-- SHR (R98). -/
def execShr (i : Issue) (f : FmtR) (s : State) : Host.Outcome State Fault Refusal :=
  .next { s with blk := scalarR .shr i f s.blk }

/-- CMP (R99). -/
def execCmp (i : Issue) (f : FmtR) (s : State) : Host.Outcome State Fault Refusal :=
  .next { s with blk := scalarR .cmp i f s.blk }

/-- SEL (R98). -/
def execSel (i : Issue) (f : FmtR) (s : State) : Host.Outcome State Fault Refusal :=
  .next { s with blk := selOp i f s.blk }

/-- LIH (R98). -/
def execLih (i : Issue) (f : FmtI) (s : State) : Host.Outcome State Fault Refusal :=
  .next { s with blk := lihOp i f s.blk }

/-- ADDI (R98). -/
def execAddi (i : Issue) (f : FmtI) (s : State) : Host.Outcome State Fault Refusal :=
  .next { s with blk := scalarI .add i f s.blk }

/-- MULI (R98). -/
def execMuli (i : Issue) (f : FmtI) (s : State) : Host.Outcome State Fault Refusal :=
  .next { s with blk := scalarI .mul i f s.blk }

/-- ANDI (R98). -/
def execAndi (i : Issue) (f : FmtI) (s : State) : Host.Outcome State Fault Refusal :=
  .next { s with blk := scalarI .and i f s.blk }

/-- ORI (R98). -/
def execOri (i : Issue) (f : FmtI) (s : State) : Host.Outcome State Fault Refusal :=
  .next { s with blk := scalarI .or i f s.blk }

/-- XORI (R98). -/
def execXori (i : Issue) (f : FmtI) (s : State) : Host.Outcome State Fault Refusal :=
  .next { s with blk := scalarI .xor i f s.blk }

/-- SHLI (R98). -/
def execShli (i : Issue) (f : FmtI) (s : State) : Host.Outcome State Fault Refusal :=
  .next { s with blk := scalarI .shl i f s.blk }

/-- SHRI (R98). -/
def execShri (i : Issue) (f : FmtI) (s : State) : Host.Outcome State Fault Refusal :=
  .next { s with blk := scalarI .shr i f s.blk }

/-- CMPI (R99). -/
def execCmpi (i : Issue) (f : FmtI) (s : State) : Host.Outcome State Fault Refusal :=
  .next { s with blk := scalarI .cmp i f s.blk }

/-- BR (R98). -/
def execBr (i : Issue) (f : FmtI) (s : State) : Host.Outcome State Fault Refusal :=
  .next { s with blk := brOp i f s.blk }

/-- JAL (R100). -/
def execJal (i : Issue) (f : FmtI) (s : State) : Host.Outcome State Fault Refusal :=
  .next { s with blk := jalOp i f s.blk }

end Sys2Proof.Machine
end

