-- ==== Sys2Proof/Machine/ExecThread.lean ====
section
/-! DEFINITION. The meanings of the commands of mailbox, atomic, lock, ordering and thread instructions (R118 to R123). Each is the
operation that the rule describes; the queue of waiting commands stays as it is. -/

namespace Sys2Proof.Machine

/-- SEND (R118). -/
def execSend (i : Issue) (f : FmtC) (s : State) : Host.Outcome State Fault Refusal :=
  .next { s with blk := sendOp i f s.blk }

/-- MBRD (R118). -/
def execMbrd (i : Issue) (f : FmtC) (s : State) : Host.Outcome State Fault Refusal :=
  .next { s with blk := mbrdDrainOp i f s.blk }

/-- AFADD (R120). -/
def execAfadd (i : Issue) (f : FmtI) (s : State) : Host.Outcome State Fault Refusal :=
  .next { s with blk := amoOp .fadd i f s.blk }

/-- ASWAP (R120). -/
def execAswap (i : Issue) (f : FmtI) (s : State) : Host.Outcome State Fault Refusal :=
  .next { s with blk := amoOp .swap i f s.blk }

/-- ACAS (R120). -/
def execAcas (i : Issue) (f : FmtI) (s : State) : Host.Outcome State Fault Refusal :=
  .next { s with blk := amoOp .cas i f s.blk }

/-- LKACQ (R145). -/
def execLkacq (i : Issue) (f : FmtI) (s : State) : Host.Outcome State Fault Refusal :=
  .next { s with blk := lkacqOp i f s.blk }

/-- LKREL (R146). -/
def execLkrel (i : Issue) (f : FmtI) (s : State) : Host.Outcome State Fault Refusal :=
  .next { s with blk := lkrelOp i f s.blk }

/-- FENCE (R138). -/
def execFence (i : Issue) (f : FmtI) (s : State) : Host.Outcome State Fault Refusal :=
  .next { s with blk := fenceOp i f s.blk }

/-- WAITB (R85). -/
def execWaitb (i : Issue) (f : FmtI) (s : State) : Host.Outcome State Fault Refusal :=
  .next { s with blk := waitbOp i f s.blk }

/-- COMMIT (R84). -/
def execCommit (i : Issue) (f : FmtI) (s : State) : Host.Outcome State Fault Refusal :=
  .next { s with blk := commitOp i f s.blk }

/-- SRR (R123). -/
def execSrr (i : Issue) (f : FmtI) (s : State) : Host.Outcome State Fault Refusal :=
  .next { s with blk := srrOp i f s.blk }

/-- SRW (R123). -/
def execSrw (i : Issue) (f : FmtI) (s : State) : Host.Outcome State Fault Refusal :=
  .next { s with blk := srwOp i f s.blk }

/-- TSTART (R83). -/
def execTstart (i : Issue) (f : FmtI) (s : State) : Host.Outcome State Fault Refusal :=
  .next { s with blk := tstartOp i f s.blk }

/-- NOP (R123). -/
def execNop (i : Issue) (f : FmtI) (s : State) : Host.Outcome State Fault Refusal :=
  .next { s with blk := nopOp i f s.blk }

end Sys2Proof.Machine
end

