-- ==== Sys2Proof/Machine/Beat.lean ====
section
/-! DEFINITION. The beat boundary (R210, R219): what takes effect at it, in order. -/

namespace Sys2Proof.Machine

/-- BEAT_BOUNDARY: fabric time reaches the next boundary. Placement changes come first, then wake-ups, expiring windows (R276) and freezes
(R402), then the timetable's actions, and the power levels last (R442, R444, R445). The order of what R219 does not order is the model's
(DEDUCED, log entry 38). -/
def beatBoundaryOp (s : Blk) : Blk := s.inCycle fun s =>
  let s1 := s.nextBoundary
  let b := s1.time.beat
  ((((s1.placementChanges.wakeThreads b).expireWins b).freezeAtBeat b).beatActions b).evalLevels

end Sys2Proof.Machine
end

