-- ==== Sys2Proof/Machine/ExecTime.lean ====
section
/-! DEFINITION. The meanings of the commands of fabric time, beats and timetables (R201 to R231). Each is the operation that the rule
describes; the queue of waiting commands stays as it is. -/

namespace Sys2Proof.Machine

/-- TIME_UPDATE (R204). -/
def execTimeUpdate (l : BitVec 6) (dom : BitVec 8) (off : BitVec 64) (s : State) : Host.Outcome State Fault Refusal :=
  .next { s with blk := timeUpdateOp l dom off s.blk }

/-- PPS_EDGE (R202). -/
def execPpsEdge (localNs : BitVec 64) (s : State) : Host.Outcome State Fault Refusal :=
  .next { s with blk := ppsEdgeOp localNs s.blk }

/-- TIME_SOURCE_TIMEOUT (R205). -/
def execTimeSourceTimeout (s : State) : Host.Outcome State Fault Refusal :=
  .next { s with blk := timeSourceTimeoutOp s.blk }

/-- HOLDOVER_EXPIRY (R205). -/
def execHoldoverExpiry (s : State) : Host.Outcome State Fault Refusal :=
  .next { s with blk := holdoverExpiryOp s.blk }

/-- SRC_WRITE (R205). An access to a register ends a write hold of its function (DESIGN CHOICE, log entry 39). -/
def execSrcWrite (v : BitVec 32) (s : State) : Host.Outcome State Fault Refusal :=
  .next { s with blk := srcWriteOp v (s.blk.endHold 0) }

/-- TT_SET_WRITE (R208). An access to a register ends a write hold of its function (DESIGN CHOICE, log entry 39). -/
def execTtSetWrite (v : Word) (full : Bool) (s : State) : Host.Outcome State Fault Refusal :=
  .next { s with blk := ttSetWriteOp v full (s.blk.endHold 0) }

/-- TT_BEAT_CFG_WRITE (R211). An access to a register ends a write hold of its function (DESIGN CHOICE, log entry 39). -/
def execTtBeatCfgWrite (v : BitVec 32) (s : State) : Host.Outcome State Fault Refusal :=
  .next { s with blk := ttBeatCfgWriteOp v (s.blk.endHold 0) }

/-- TT_BEAT_EPOCH_WRITE (R211). An access to a register ends a write hold of its function (DESIGN CHOICE, log entry 39). -/
def execTtBeatEpochWrite (v : Word) (s : State) : Host.Outcome State Fault Refusal :=
  .next { s with blk := ttBeatEpochWriteOp v (s.blk.endHold 0) }

/-- TT_TIME_READ (R230). An access to a register ends a write hold of its function (DESIGN CHOICE, log entry 39). -/
def execTtTimeRead (s : State) : Host.Outcome State Fault Refusal :=
  .next { s with blk := ttTimeReadOp (s.blk.endHold 0) }

/-- PPS_OUT_PULSE (R202). -/
def execPpsOutPulse (s : State) : Host.Outcome State Fault Refusal :=
  .next { s with blk := ppsOutPulseOp s.blk }

/-- BEAT_BOUNDARY (R219). -/
def execBeatBoundary (s : State) : Host.Outcome State Fault Refusal :=
  .next { s with blk := beatBoundaryOp s.blk }

/-- STEP_INPUT_MET (R220). -/
def execStepInputMet (sid : Nat) (s : State) : Host.Outcome State Fault Refusal :=
  .next { s with blk := stepInputMetOp sid s.blk }

/-- TT_LOAD (R212). -/
def execTtLoad (image : Option (List Byte)) (s : State) : Host.Outcome State Fault Refusal :=
  .next { s with blk := ttLoadOp image s.blk }

/-- TT_START (R212). -/
def execTtStart (s : State) : Host.Outcome State Fault Refusal :=
  .next { s with blk := ttStartOp s.blk }

/-- TT_STOP (R212). -/
def execTtStop (s : State) : Host.Outcome State Fault Refusal :=
  .next { s with blk := ttStopOp s.blk }

/-- TT_UNLOAD (R212). -/
def execTtUnload (s : State) : Host.Outcome State Fault Refusal :=
  .next { s with blk := ttUnloadOp s.blk }

end Sys2Proof.Machine
end

