-- ==== Sys2Proof/Machine/Vector.lean ====
section
/-! DEFINITION. The vector instructions (R72, R101 to R103). -/

namespace Sys2Proof.Machine

/-- Lane `i` of width `w`. -/
def lane (w i : Nat) (v : VReg) : Nat := (v.toNat >>> (w * i)) % 2 ^ w

/-- A predicate bit. -/
def pbit (p : Word) (b : Nat) : Bool := p.toNat.testBit b

/-- Write the lanes of width `w` that the predicate governs (R72), lane `i` by `f i`; the other lanes keep their value. -/
def mapLanes (w n : Nat) (pred : Word) (old : VReg) (f : Nat → Nat) : VReg :=
  BitVec.ofNat 512 ((List.range n).foldl (fun a i =>
    if pbit pred (w * i / 8) then putBits a (w * i + w - 1) (w * i) (f i) else a) old.toNat)

/-- The union of the flags of the governed lanes (R72). -/
def laneFlags (w n : Nat) (pred : Word) (f : Nat → FFlags) : FFlags :=
  (List.range n).foldl (fun a i => if pbit pred (w * i / 8) then a.or (f i) else a) {}

/-- Write the predicate bits of the governed lanes' bytes (R101). -/
def mapPred (w n : Nat) (pred old : Word) (f : Nat → Bool) : Word :=
  BitVec.ofNat 64 ((List.range n).foldl (fun a i =>
    let b := w * i / 8
    if pbit pred b then putBits a (b + w / 8 - 1) b (if f i then 2 ^ (w / 8) - 1 else 0) else a) old.toNat)

/-- The floating formats with vector arithmetic (R101): FP32, BF16, FP16. -/
def vecFmt (t : Nat) : Option FFmt :=
  match t with
  | 0 => some fmtBF16
  | 1 => some fmtF16
  | 14 => some fmtF32
  | _ => none

/-- The floating lane operations of R101. -/
inductive VfOp where
  | add | sub | mul | fma | div | sqrt | min | max
  | approx (a : Approx)
  deriving DecidableEq, Repr

/-- One floating lane: the result in the operand format and its flags (R62, R63, R65). -/
def vfLane (f : FFmt) (op : VfOp) (a b c : Nat) : Nat × FFlags :=
  let x := f.decode a
  let y := f.decode b
  let z := f.decode c
  let fin := fun (r : FVal × FFlags) (sn : FFlags) =>
    let e := f.encode r.1
    (e.1, (e.2.or r.2).or sn)
  match op with
  | .add => fin (fAdd x y) (snanFlags f [a, b])
  | .sub => fin (fAdd x (if y = .nan then y else y.neg)) (snanFlags f [a, b])
  | .mul => fin (fMul x y) (snanFlags f [a, b])
  | .fma => fin (fFma x y z) (snanFlags f [a, b, c])
  | .div => fin (fDiv x y) (snanFlags f [a, b])
  | .sqrt => fin (fSqrt x) (snanFlags f [a])
  | .min => if x = .nan ∨ y = .nan then (f.qnan, snanFlags f [a, b]) else ((if minLt y x then b else a), {})
  | .max => if x = .nan ∨ y = .nan then (f.qnan, snanFlags f [a, b]) else ((if minLt x y then b else a), {})
  | .approx fn =>
    -- the binary32 result, rounded to the operand format (R65)
    let a32 := (fmtF32.encode x).1
    let (r, fl) := approxF32 fn a32
    if f = fmtF32 then (r, fl)
    else
      let e := f.encode (fmtF32.decode r)
      (e.1, fl.or e.2)

/-- Which operands a floating operation uses beyond vA. -/
def VfOp.useB : VfOp → Bool
  | .sqrt | .approx _ => false
  | _ => true
def VfOp.useC : VfOp → Bool
  | .fma => true
  | _ => false

/-- A floating vector instruction (R101): BAD_FORMAT for a T without vector arithmetic. -/
def vfOp (op : VfOp) (i : Issue) (f : FmtR) (s : Blk) : Blk :=
  let p := i.pos.toNat
  let t := i.tid.toNat
  let th := s.th p t
  let rs := [RegRef.v f.d.toNat, .v f.a.toNat, .p f.p.toNat] ++ (if op.useB then [.v f.b.toNat] else []) ++
    (if op.useC then [.v f.c.toNat] else [])
  s.issue i false rs false (f.bad op.useB op.useC true true 1) (vecFmt f.t.toNat).isSome
    (fun s => match vecFmt f.t.toNat with
      | none => s.raiseExc p t .badFormat th.pc.toNat 0
      | some ff =>
        let w := ff.width
        let n := 512 / w
        let pred := th.pr f.p.toNat
        let r := fun k => vfLane ff op (lane w k (th.vr f.a.toNat)) (lane w k (th.vr f.b.toNat)) (lane w k (th.vr f.c.toNat))
        (s.modTh p t (fun x => (x.vw f.d.toNat (mapLanes w n pred (x.vr f.d.toNat) (fun k => (r k).1))).orFlags
          (laneFlags w n pred (fun k => (r k).2)))).retire p t false)

/-- VCMP (R101). -/
def vcmpOp (i : Issue) (f : FmtR) (s : Blk) : Blk :=
  let p := i.pos.toNat
  let t := i.tid.toNat
  let th := s.th p t
  s.issue i false [.p (f.d.toNat % 8), .v f.a.toNat, .v f.b.toNat, .p f.p.toNat] false
    (f.bad true false true true 5 || decide (f.d.toNat ≥ 8)) (vecFmt f.t.toNat).isSome
    (fun s => match vecFmt f.t.toNat with
      | none => s.raiseExc p t .badFormat th.pc.toNat 0
      | some ff =>
        let w := ff.width
        let n := 512 / w
        let pred := th.pr f.p.toNat
        let r := fun k => fpCond ff f.m.toNat (lane w k (th.vr f.a.toNat)) (lane w k (th.vr f.b.toNat))
        (s.modTh p t (fun x => (x.pw f.d.toNat (mapPred w n pred (x.pr f.d.toNat) (fun k => (r k).1))).orFlags
          (laneFlags w n pred (fun k => (r k).2)))).retire p t false)

/-- The integer lane operations of R101. -/
inductive ViOp where
  | add | sub | mul | and | or | xor | shl | shr
  deriving DecidableEq, Repr

/-- One integer lane of `w` bits; `m` is M (M[2] = 1 shifts right arithmetically). -/
def viLane (op : ViOp) (w m a b : Nat) : Nat :=
  match op with
  | .add => (a + b) % 2 ^ w
  | .sub => (a + 2 ^ w - b) % 2 ^ w
  | .mul => a * b % 2 ^ w
  | .and => a &&& b
  | .or => a ||| b
  | .xor => a ^^^ b
  | .shl => (a <<< (b % w)) % 2 ^ w
  | .shr => if m.testBit 2 then (BitVec.ofInt w (sext w a / 2 ^ (b % w))).toNat else a >>> (b % w)

/-- Lane width of M[1:0]: 8, 16, 32 or 64 bits (R101). -/
def viWidth (m : Nat) : Nat := 8 * 2 ^ (m % 4)

/-- An integer vector instruction (R101). -/
def viOp (op : ViOp) (i : Issue) (f : FmtR) (s : Blk) : Blk :=
  let p := i.pos.toNat
  let t := i.tid.toNat
  let th := s.th p t
  s.issue i false [.v f.d.toNat, .v f.a.toNat, .v f.b.toNat, .p f.p.toNat] false
    (f.bad true false true false (if op = .shr then 8 else 4)) true
    (fun s =>
      let w := viWidth f.m.toNat
      (s.modTh p t (fun x => x.vw f.d.toNat (mapLanes w (512 / w) (x.pr f.p.toNat) (x.vr f.d.toNat)
        (fun k => viLane op w f.m.toNat (lane w k (th.vr f.a.toNat)) (lane w k (th.vr f.b.toNat)))))).retire p t false)

/-- VSEL (R101): vA where the lane's bit in pC is 1, otherwise vB. -/
def vselOp (i : Issue) (f : FmtR) (s : Blk) : Blk :=
  let p := i.pos.toNat
  let t := i.tid.toNat
  let th := s.th p t
  s.issue i false [.v f.d.toNat, .v f.a.toNat, .v f.b.toNat, .p (f.c.toNat % 8), .p f.p.toNat] false
    (f.bad true true true false 4 || decide (f.c.toNat ≥ 8)) true
    (fun s =>
      let w := viWidth f.m.toNat
      let pc := th.pr f.c.toNat
      (s.modTh p t (fun x => x.vw f.d.toNat (mapLanes w (512 / w) (x.pr f.p.toNat) (x.vr f.d.toNat)
        (fun k => if pbit pc (w * k / 8) then lane w k (th.vr f.a.toNat) else lane w k (th.vr f.b.toNat))))).retire p t false)

/-- VBC (R101): every lane ← low w bits of gA. -/
def vbcOp (i : Issue) (f : FmtR) (s : Blk) : Blk :=
  let p := i.pos.toNat
  let t := i.tid.toNat
  let th := s.th p t
  s.issue i false [.v f.d.toNat, .g f.a.toNat, .p f.p.toNat] false (f.bad false false true false 4) true
    (fun s =>
      let w := viWidth f.m.toNat
      (s.modTh p t (fun x => x.vw f.d.toNat (mapLanes w (512 / w) (x.pr f.p.toNat) (x.vr f.d.toNat)
        (fun _ => (th.gr f.a.toNat).toNat % 2 ^ w)))).retire p t false)

/-- VGET (R101): gD ← lane (gB mod lanes) of vA, zero-extended. It writes no vector lane, and P is accepted and has no effect (DESIGN
CHOICE, log entry 101). -/
def vgetOp (i : Issue) (f : FmtR) (s : Blk) : Blk :=
  let p := i.pos.toNat
  let t := i.tid.toNat
  let th := s.th p t
  s.issue i false [.g f.d.toNat, .v f.a.toNat, .g f.b.toNat, .p f.p.toNat] false (f.bad true false true false 4) true
    (fun s =>
      let w := viWidth f.m.toNat
      let k := (th.gr f.b.toNat).toNat % (512 / w)
      (s.modTh p t (fun x => x.gw f.d.toNat (BitVec.ofNat 64 (lane w k (th.vr f.a.toNat))))).retire p t false)

/-- VICMP (R101): as VCMP on integers of width M[1:0]; T gives the condition of R99. -/
def vicmpOp (i : Issue) (f : FmtR) (s : Blk) : Blk :=
  let p := i.pos.toNat
  let t := i.tid.toNat
  let th := s.th p t
  s.issue i false [.p (f.d.toNat % 8), .v f.a.toNat, .v f.b.toNat, .p f.p.toNat] false
    (f.bad true false true true 4 || decide (f.d.toNat ≥ 8) || decide (f.t.toNat ≥ 6)) true
    (fun s =>
      let w := viWidth f.m.toNat
      (s.modTh p t (fun x => x.pw f.d.toNat (mapPred w (512 / w) (x.pr f.p.toNat) (x.pr f.d.toNat)
        (fun k => intCond f.t.toNat w (lane w k (th.vr f.a.toNat)) (lane w k (th.vr f.b.toNat)))))).retire p t false)

/-- One lane of VCVT (R102, R63). -/
def cvtLane (src dst : Fmt) (a : Nat) : Nat × FFlags :=
  match dst with
  | .fp32 => (fmtF32.encode (src.elem a)).1 |> fun r => (r, {})
  | .int8 | .int4 =>
    let w := dst.width
    match fmtF32.decode a with
    | .nan => (2 ^ (w - 1), { nv := true })
    | .inf n => (if n then 2 ^ (w - 1) else 2 ^ (w - 1) - 1, { nv := true })
    | .fin n m e _ =>
      let (v, nx) := roundInt n m e .rne
      let (c, out) := clampI (-(2 ^ (w - 1))) (2 ^ (w - 1) - 1) v
      ((BitVec.ofInt w c).toNat, if out then { nv := true } else { nx := nx })
  | _ => match dst.fl with
    | some ff => ff.encode (fmtF32.decode a)
    | none => (0, {})

/-- The pairs that VCVT accepts (R102). -/
def cvtPair (t m : Nat) : Option (Fmt × Fmt) :=
  match Fmt.ofCode t, Fmt.ofCode m with
  | some .fp32, some .bf16 => some (.fp32, .bf16)
  | some .fp32, some .fp16 => some (.fp32, .fp16)
  | some .fp32, some .e4m3 => some (.fp32, .e4m3)
  | some .fp32, some .e5m2 => some (.fp32, .e5m2)
  | some .fp32, some .int8 => some (.fp32, .int8)
  | some .fp32, some .int4 => some (.fp32, .int4)
  | some .bf16, some .fp32 => some (.bf16, .fp32)
  | some .fp16, some .fp32 => some (.fp16, .fp32)
  | some .e4m3, some .fp32 => some (.e4m3, .fp32)
  | some .e5m2, some .fp32 => some (.e5m2, .fp32)
  | some .int8, some .fp32 => some (.int8, .fp32)
  | some .int4, some .fp32 => some (.int4, .fp32)
  | _, _ => none

/-- VCVT (R102). -/
def vcvtOp (i : Issue) (f : FmtR) (s : Blk) : Blk :=
  let p := i.pos.toNat
  let t := i.tid.toNat
  let th := s.th p t
  s.issue i false [.v f.d.toNat, .v f.a.toNat, .p f.p.toNat] false (f.bad false false true true 16)
    (cvtPair f.t.toNat f.m.toNat).isSome
    (fun s => match cvtPair f.t.toNat f.m.toNat with
      | none => s.raiseExc p t .badFormat th.pc.toNat 0
      | some (src, dst) =>
        let n := 512 / max src.width dst.width
        let w := dst.width
        let pred := th.pr f.p.toNat
        let r := fun k => cvtLane src dst (lane src.width k (th.vr f.a.toNat))
        (s.modTh p t (fun x => (x.vw f.d.toNat (mapLanes w n pred (x.vr f.d.toNat) (fun k => (r k).1))).orFlags
          (laneFlags w n pred (fun k => (r k).2)))).retire p t false)

/-- VWADD (R103): four W128 lanes added under R46 to R48; an out-of-range sum sets the overflow flag. -/
def vwaddOp (i : Issue) (f : FmtR) (s : Blk) : Blk :=
  let p := i.pos.toNat
  let t := i.tid.toNat
  let th := s.th p t
  s.issue i false [.v f.d.toNat, .v f.a.toNat, .v f.b.toNat, .p f.p.toNat] false (f.bad true false true false 1) true
    (fun s =>
      let pred := th.pr f.p.toNat
      let r := fun k => w128Add (BitVec.ofNat 128 (lane 128 k (th.vr f.a.toNat))) (BitVec.ofNat 128 (lane 128 k (th.vr f.b.toNat)))
      (s.modTh p t (fun x => (x.vw f.d.toNat (mapLanes 128 4 pred (x.vr f.d.toNat) (fun k => (r k).1.toNat))).orFlags
        (laneFlags 128 4 pred (fun k => { of := (r k).2 })))).retire p t false)

/-- The WE and OSH of gB for VCVTW and VCVTF; none where a bit that must be 0 is 1 (R103). -/
def cvtParams (g : Word) : Option (Int × Int) :=
  let n := g.toNat
  if bits n 15 10 = 0 ∧ bits n 63 26 = 0 then some (sext 10 (bits n 9 0), sext 10 (bits n 25 16)) else none

/-- VCVTW (R103, R64): W128 lanes 0 to 3 → binary32 lanes 0 to 3; 128-bit lane n is governed by predicate bit 16n. -/
def vcvtwOp (i : Issue) (f : FmtR) (s : Blk) : Blk :=
  let p := i.pos.toNat
  let t := i.tid.toNat
  let th := s.th p t
  let prm := cvtParams (th.gr f.b.toNat)
  s.issue i false [.v f.d.toNat, .v f.a.toNat, .g f.b.toNat, .p f.p.toNat] false
    (f.bad true false true false 1 || prm.isNone) true
    (fun s =>
      let (we, osh) := prm.getD (0, 0)
      let pred := th.pr f.p.toNat
      let r := fun k => w128ToF32 (BitVec.ofNat 128 (lane 128 k (th.vr f.a.toNat))) we osh
      (s.modTh p t (fun x => (x.vw f.d.toNat (BitVec.ofNat 512 ((List.range 4).foldl (fun a k =>
          if pbit pred (16 * k) then putBits a (32 * k + 31) (32 * k) (r k).1 else a) (x.vr f.d.toNat).toNat))).orFlags
        (laneFlags 128 4 pred (fun k => (r k).2)))).retire p t false)

/-- VCVTF (R103, R64): binary32 lanes 0 to 3 → W128 lanes 0 to 3. -/
def vcvtfOp (i : Issue) (f : FmtR) (s : Blk) : Blk :=
  let p := i.pos.toNat
  let t := i.tid.toNat
  let th := s.th p t
  let prm := cvtParams (th.gr f.b.toNat)
  s.issue i false [.v f.d.toNat, .v f.a.toNat, .g f.b.toNat, .p f.p.toNat] false
    (f.bad true false true false 1 || prm.isNone) true
    (fun s =>
      let (we, _) := prm.getD (0, 0)
      let pred := th.pr f.p.toNat
      let r := fun k => f32ToW128 (lane 32 k (th.vr f.a.toNat)) we
      (s.modTh p t (fun x => (x.vw f.d.toNat (mapLanes 128 4 pred (x.vr f.d.toNat) (fun k => (r k).1.toNat))).orFlags
        (laneFlags 128 4 pred (fun k => (r k).2)))).retire p t false)

end Sys2Proof.Machine
end

