-- ==== Sys2Proof/Machine/ExecVector.lean ====
section
/-! DEFINITION. The meanings of the commands of vector instructions (R101 to R103). Each is the operation that the rule describes; the
queue of waiting commands stays as it is. -/

namespace Sys2Proof.Machine

/-- VADD (R101). -/
def execVadd (i : Issue) (f : FmtR) (s : State) : Host.Outcome State Fault Refusal :=
  .next { s with blk := vfOp .add i f s.blk }

/-- VSUB (R101). -/
def execVsub (i : Issue) (f : FmtR) (s : State) : Host.Outcome State Fault Refusal :=
  .next { s with blk := vfOp .sub i f s.blk }

/-- VMUL (R101). -/
def execVmul (i : Issue) (f : FmtR) (s : State) : Host.Outcome State Fault Refusal :=
  .next { s with blk := vfOp .mul i f s.blk }

/-- VFMA (R62). -/
def execVfma (i : Issue) (f : FmtR) (s : State) : Host.Outcome State Fault Refusal :=
  .next { s with blk := vfOp .fma i f s.blk }

/-- VDIV (R62). -/
def execVdiv (i : Issue) (f : FmtR) (s : State) : Host.Outcome State Fault Refusal :=
  .next { s with blk := vfOp .div i f s.blk }

/-- VSQRT (R62). -/
def execVsqrt (i : Issue) (f : FmtR) (s : State) : Host.Outcome State Fault Refusal :=
  .next { s with blk := vfOp .sqrt i f s.blk }

/-- VMIN (R101). -/
def execVmin (i : Issue) (f : FmtR) (s : State) : Host.Outcome State Fault Refusal :=
  .next { s with blk := vfOp .min i f s.blk }

/-- VMAX (R101). -/
def execVmax (i : Issue) (f : FmtR) (s : State) : Host.Outcome State Fault Refusal :=
  .next { s with blk := vfOp .max i f s.blk }

/-- VCMP (R101). -/
def execVcmp (i : Issue) (f : FmtR) (s : State) : Host.Outcome State Fault Refusal :=
  .next { s with blk := vcmpOp i f s.blk }

/-- VRCP (R65). -/
def execVrcp (i : Issue) (f : FmtR) (s : State) : Host.Outcome State Fault Refusal :=
  .next { s with blk := vfOp (.approx .rcp) i f s.blk }

/-- VRSQ (R65). -/
def execVrsq (i : Issue) (f : FmtR) (s : State) : Host.Outcome State Fault Refusal :=
  .next { s with blk := vfOp (.approx .rsq) i f s.blk }

/-- VEXP2 (R65). -/
def execVexp2 (i : Issue) (f : FmtR) (s : State) : Host.Outcome State Fault Refusal :=
  .next { s with blk := vfOp (.approx .exp2) i f s.blk }

/-- VLOG2 (R65). -/
def execVlog2 (i : Issue) (f : FmtR) (s : State) : Host.Outcome State Fault Refusal :=
  .next { s with blk := vfOp (.approx .log2) i f s.blk }

/-- VTANH (R65). -/
def execVtanh (i : Issue) (f : FmtR) (s : State) : Host.Outcome State Fault Refusal :=
  .next { s with blk := vfOp (.approx .tanh) i f s.blk }

/-- VCVT (R102). -/
def execVcvt (i : Issue) (f : FmtR) (s : State) : Host.Outcome State Fault Refusal :=
  .next { s with blk := vcvtOp i f s.blk }

/-- VIADD (R101). -/
def execViadd (i : Issue) (f : FmtR) (s : State) : Host.Outcome State Fault Refusal :=
  .next { s with blk := viOp .add i f s.blk }

/-- VISUB (R101). -/
def execVisub (i : Issue) (f : FmtR) (s : State) : Host.Outcome State Fault Refusal :=
  .next { s with blk := viOp .sub i f s.blk }

/-- VIMUL (R101). -/
def execVimul (i : Issue) (f : FmtR) (s : State) : Host.Outcome State Fault Refusal :=
  .next { s with blk := viOp .mul i f s.blk }

/-- VAND (R101). -/
def execVand (i : Issue) (f : FmtR) (s : State) : Host.Outcome State Fault Refusal :=
  .next { s with blk := viOp .and i f s.blk }

/-- VOR (R101). -/
def execVor (i : Issue) (f : FmtR) (s : State) : Host.Outcome State Fault Refusal :=
  .next { s with blk := viOp .or i f s.blk }

/-- VXOR (R101). -/
def execVxor (i : Issue) (f : FmtR) (s : State) : Host.Outcome State Fault Refusal :=
  .next { s with blk := viOp .xor i f s.blk }

/-- VSHL (R101). -/
def execVshl (i : Issue) (f : FmtR) (s : State) : Host.Outcome State Fault Refusal :=
  .next { s with blk := viOp .shl i f s.blk }

/-- VSHR (R101). -/
def execVshr (i : Issue) (f : FmtR) (s : State) : Host.Outcome State Fault Refusal :=
  .next { s with blk := viOp .shr i f s.blk }

/-- VSEL (R101). -/
def execVsel (i : Issue) (f : FmtR) (s : State) : Host.Outcome State Fault Refusal :=
  .next { s with blk := vselOp i f s.blk }

/-- VBC (R101). -/
def execVbc (i : Issue) (f : FmtR) (s : State) : Host.Outcome State Fault Refusal :=
  .next { s with blk := vbcOp i f s.blk }

/-- VGET (R101). -/
def execVget (i : Issue) (f : FmtR) (s : State) : Host.Outcome State Fault Refusal :=
  .next { s with blk := vgetOp i f s.blk }

/-- VWADD (R103). -/
def execVwadd (i : Issue) (f : FmtR) (s : State) : Host.Outcome State Fault Refusal :=
  .next { s with blk := vwaddOp i f s.blk }

/-- VCVTW (R103). -/
def execVcvtw (i : Issue) (f : FmtR) (s : State) : Host.Outcome State Fault Refusal :=
  .next { s with blk := vcvtwOp i f s.blk }

/-- VCVTF (R103). -/
def execVcvtf (i : Issue) (f : FmtR) (s : State) : Host.Outcome State Fault Refusal :=
  .next { s with blk := vcvtfOp i f s.blk }

/-- VICMP (R101). -/
def execVicmp (i : Issue) (f : FmtR) (s : State) : Host.Outcome State Fault Refusal :=
  .next { s with blk := vicmpOp i f s.blk }

end Sys2Proof.Machine
end

