-- ==== Sys2Proof/Machine/Dispatch.lean ====
section
/-! DEFINITION. The meaning of every command: one arm for each constructor. -/

namespace Sys2Proof.Machine

/-- The effect of a command on everything but the queue of waiting commands. -/
def exec (i : Instr) (s : State) : Host.Outcome State Fault Refusal :=
  match i with
  | .add x1 f => Sys2Proof.Machine.execAdd x1 f s
  | .sub x1 f => Sys2Proof.Machine.execSub x1 f s
  | .mul x1 f => Sys2Proof.Machine.execMul x1 f s
  | .mulh x1 f => Sys2Proof.Machine.execMulh x1 f s
  | .div x1 f => Sys2Proof.Machine.execDiv x1 f s
  | .rem x1 f => Sys2Proof.Machine.execRem x1 f s
  | .and x1 f => Sys2Proof.Machine.execAnd x1 f s
  | .or x1 f => Sys2Proof.Machine.execOr x1 f s
  | .xor x1 f => Sys2Proof.Machine.execXor x1 f s
  | .shl x1 f => Sys2Proof.Machine.execShl x1 f s
  | .shr x1 f => Sys2Proof.Machine.execShr x1 f s
  | .cmp x1 f => Sys2Proof.Machine.execCmp x1 f s
  | .sel x1 f => Sys2Proof.Machine.execSel x1 f s
  | .lih x1 f => Sys2Proof.Machine.execLih x1 f s
  | .addi x1 f => Sys2Proof.Machine.execAddi x1 f s
  | .muli x1 f => Sys2Proof.Machine.execMuli x1 f s
  | .andi x1 f => Sys2Proof.Machine.execAndi x1 f s
  | .ori x1 f => Sys2Proof.Machine.execOri x1 f s
  | .xori x1 f => Sys2Proof.Machine.execXori x1 f s
  | .shli x1 f => Sys2Proof.Machine.execShli x1 f s
  | .shri x1 f => Sys2Proof.Machine.execShri x1 f s
  | .cmpi x1 f => Sys2Proof.Machine.execCmpi x1 f s
  | .br x1 f => Sys2Proof.Machine.execBr x1 f s
  | .jal x1 f => Sys2Proof.Machine.execJal x1 f s
  | .vadd x1 f => Sys2Proof.Machine.execVadd x1 f s
  | .vsub x1 f => Sys2Proof.Machine.execVsub x1 f s
  | .vmul x1 f => Sys2Proof.Machine.execVmul x1 f s
  | .vfma x1 f => Sys2Proof.Machine.execVfma x1 f s
  | .vdiv x1 f => Sys2Proof.Machine.execVdiv x1 f s
  | .vsqrt x1 f => Sys2Proof.Machine.execVsqrt x1 f s
  | .vmin x1 f => Sys2Proof.Machine.execVmin x1 f s
  | .vmax x1 f => Sys2Proof.Machine.execVmax x1 f s
  | .vcmp x1 f => Sys2Proof.Machine.execVcmp x1 f s
  | .vrcp x1 f => Sys2Proof.Machine.execVrcp x1 f s
  | .vrsq x1 f => Sys2Proof.Machine.execVrsq x1 f s
  | .vexp2 x1 f => Sys2Proof.Machine.execVexp2 x1 f s
  | .vlog2 x1 f => Sys2Proof.Machine.execVlog2 x1 f s
  | .vtanh x1 f => Sys2Proof.Machine.execVtanh x1 f s
  | .vcvt x1 f => Sys2Proof.Machine.execVcvt x1 f s
  | .viadd x1 f => Sys2Proof.Machine.execViadd x1 f s
  | .visub x1 f => Sys2Proof.Machine.execVisub x1 f s
  | .vimul x1 f => Sys2Proof.Machine.execVimul x1 f s
  | .vand x1 f => Sys2Proof.Machine.execVand x1 f s
  | .vor x1 f => Sys2Proof.Machine.execVor x1 f s
  | .vxor x1 f => Sys2Proof.Machine.execVxor x1 f s
  | .vshl x1 f => Sys2Proof.Machine.execVshl x1 f s
  | .vshr x1 f => Sys2Proof.Machine.execVshr x1 f s
  | .vsel x1 f => Sys2Proof.Machine.execVsel x1 f s
  | .vbc x1 f => Sys2Proof.Machine.execVbc x1 f s
  | .vget x1 f => Sys2Proof.Machine.execVget x1 f s
  | .vwadd x1 f => Sys2Proof.Machine.execVwadd x1 f s
  | .vcvtw x1 f => Sys2Proof.Machine.execVcvtw x1 f s
  | .vcvtf x1 f => Sys2Proof.Machine.execVcvtf x1 f s
  | .vicmp x1 f => Sys2Proof.Machine.execVicmp x1 f s
  | .ld x1 f => Sys2Proof.Machine.execLd x1 f s
  | .st x1 f => Sys2Proof.Machine.execSt x1 f s
  | .vld x1 f => Sys2Proof.Machine.execVld x1 f s
  | .vst x1 f => Sys2Proof.Machine.execVst x1 f s
  | .ldb x1 f => Sys2Proof.Machine.execLdb x1 f s
  | .stb x1 f => Sys2Proof.Machine.execStb x1 f s
  | .mxm x1 f => Sys2Proof.Machine.execMxm x1 f s
  | .mxms x1 f => Sys2Proof.Machine.execMxms x1 f s
  | .mxmr x1 f => Sys2Proof.Machine.execMxmr x1 f s
  | .mxst x1 f => Sys2Proof.Machine.execMxst x1 f s
  | .mxaw x1 f => Sys2Proof.Machine.execMxaw x1 f s
  | .aclr x1 f => Sys2Proof.Machine.execAclr x1 f s
  | .asave x1 f => Sys2Proof.Machine.execAsave x1 f s
  | .arst x1 f => Sys2Proof.Machine.execArst x1 f s
  | .astat x1 f => Sys2Proof.Machine.execAstat x1 f s
  | .malloc x1 f => Sys2Proof.Machine.execMalloc x1 f s
  | .mfree x1 f => Sys2Proof.Machine.execMfree x1 f s
  | .send x1 f => Sys2Proof.Machine.execSend x1 f s
  | .mbrd x1 f => Sys2Proof.Machine.execMbrd x1 f s
  | .afadd x1 f => Sys2Proof.Machine.execAfadd x1 f s
  | .aswap x1 f => Sys2Proof.Machine.execAswap x1 f s
  | .acas x1 f => Sys2Proof.Machine.execAcas x1 f s
  | .lkacq x1 f => Sys2Proof.Machine.execLkacq x1 f s
  | .lkrel x1 f => Sys2Proof.Machine.execLkrel x1 f s
  | .fence x1 f => Sys2Proof.Machine.execFence x1 f s
  | .waitb x1 f => Sys2Proof.Machine.execWaitb x1 f s
  | .commit x1 f => Sys2Proof.Machine.execCommit x1 f s
  | .srr x1 f => Sys2Proof.Machine.execSrr x1 f s
  | .srw x1 f => Sys2Proof.Machine.execSrw x1 f s
  | .tstart x1 f => Sys2Proof.Machine.execTstart x1 f s
  | .nop x1 f => Sys2Proof.Machine.execNop x1 f s
  | .transferDone pos slot hw => Sys2Proof.Machine.execTransferDone pos slot hw s
  | .matrixOpDone pos hw => Sys2Proof.Machine.execMatrixOpDone pos hw s
  | .readoutDone pos hw => Sys2Proof.Machine.execReadoutDone pos hw s
  | .mxmsDelivered pos => Sys2Proof.Machine.execMxmsDelivered pos s
  | .mxmrStaged pos hw => Sys2Proof.Machine.execMxmrStaged pos hw s
  | .sendAccepted pos tid => Sys2Proof.Machine.execSendAccepted pos tid s
  | .threadCommit pos tid => Sys2Proof.Machine.execThreadCommit pos tid s
  | .lockReevaluate pos tid hw => Sys2Proof.Machine.execLockReevaluate pos tid hw s
  | .replayRestart sid => Sys2Proof.Machine.execReplayRestart sid s
  | .linkPacketRx e l crc => Sys2Proof.Machine.execLinkPacketRx e l crc s
  | .linkTrained e => Sys2Proof.Machine.execLinkTrained e s
  | .linkTestTimeout e => Sys2Proof.Machine.execLinkTestTimeout e s
  | .streamEnWrite v => Sys2Proof.Machine.execStreamEnWrite v s
  | .rd p hw => Sys2Proof.Machine.execRd p hw s
  | .wr p => Sys2Proof.Machine.execWr p s
  | .amo p hw => Sys2Proof.Machine.execAmo p hw s
  | .rdblk p hw => Sys2Proof.Machine.execRdblk p hw s
  | .rsp p => Sys2Proof.Machine.execRsp p s
  | .ack p => Sys2Proof.Machine.execAck p s
  | .data p => Sys2Proof.Machine.execData p s
  | .wblk p => Sys2Proof.Machine.execWblk p s
  | .rblk p => Sys2Proof.Machine.execRblk p s
  | .mbx p => Sys2Proof.Machine.execMbx p s
  | .note p => Sys2Proof.Machine.execNote p s
  | .ctrl p => Sys2Proof.Machine.execCtrl p s
  | .lkprobe p => Sys2Proof.Machine.execLkprobe p s
  | .lkreply p => Sys2Proof.Machine.execLkreply p s
  | .hello l => Sys2Proof.Machine.execHello l s
  | .lsa l => Sys2Proof.Machine.execLsa l s
  | .ltest e p => Sys2Proof.Machine.execLtest e p s
  | .ltestEnd e p => Sys2Proof.Machine.execLtestEnd e p s
  | .recover e => Sys2Proof.Machine.execRecover e s
  | .ctrlmsg e p => Sys2Proof.Machine.execCtrlmsg e p s
  | .rlPeriodUpdate conn => Sys2Proof.Machine.execRlPeriodUpdate conn s
  | .qdepthSample hub port stall => Sys2Proof.Machine.execQdepthSample hub port stall s
  | .helloTimer flood => Sys2Proof.Machine.execHelloTimer flood s
  | .discStart v => Sys2Proof.Machine.execDiscStart v s
  | .discQuietExpiry => Sys2Proof.Machine.execDiscQuietExpiry s
  | .devIdWrite v => Sys2Proof.Machine.execDevIdWrite v s
  | .timeUpdate l dom off => Sys2Proof.Machine.execTimeUpdate l dom off s
  | .ppsEdge localNs => Sys2Proof.Machine.execPpsEdge localNs s
  | .timeSourceTimeout => Sys2Proof.Machine.execTimeSourceTimeout s
  | .holdoverExpiry => Sys2Proof.Machine.execHoldoverExpiry s
  | .srcWrite v => Sys2Proof.Machine.execSrcWrite v s
  | .ttSetWrite v full => Sys2Proof.Machine.execTtSetWrite v full s
  | .ttBeatCfgWrite v => Sys2Proof.Machine.execTtBeatCfgWrite v s
  | .ttBeatEpochWrite v => Sys2Proof.Machine.execTtBeatEpochWrite v s
  | .ttTimeRead => Sys2Proof.Machine.execTtTimeRead s
  | .ppsOutPulse => Sys2Proof.Machine.execPpsOutPulse s
  | .beatBoundary => Sys2Proof.Machine.execBeatBoundary s
  | .stepInputMet sid => Sys2Proof.Machine.execStepInputMet sid s
  | .ttLoad image => Sys2Proof.Machine.execTtLoad image s
  | .ttStart => Sys2Proof.Machine.execTtStart s
  | .ttStop => Sys2Proof.Machine.execTtStop s
  | .ttUnload => Sys2Proof.Machine.execTtUnload s
  | .collOpen desc ptab => Sys2Proof.Machine.execCollOpen desc ptab s
  | .collRun => Sys2Proof.Machine.execCollRun s
  | .collClose => Sys2Proof.Machine.execCollClose s
  | .collModeWrite x1 v => Sys2Proof.Machine.execCollModeWrite x1 v s
  | .collRoundStart n hw => Sys2Proof.Machine.execCollRoundStart n hw s
  | .collLocalCloseTimeout n r hw => Sys2Proof.Machine.execCollLocalCloseTimeout n r hw s
  | .collRoundTimeout n r => Sys2Proof.Machine.execCollRoundTimeout n r s
  | .collSegmentData h items hw => Sys2Proof.Machine.execCollSegmentData h items hw s
  | .collSegmentEnd h hw => Sys2Proof.Machine.execCollSegmentEnd h hw s
  | .collSegmentArrive h => Sys2Proof.Machine.execCollSegmentArrive h s
  | .ftConnAlloc n => Sys2Proof.Machine.execFtConnAlloc n s
  | .ftConnConnect => Sys2Proof.Machine.execFtConnConnect s
  | .ftConnClose => Sys2Proof.Machine.execFtConnClose s
  | .ftConnReset => Sys2Proof.Machine.execFtConnReset s
  | .ftWinOpen n => Sys2Proof.Machine.execFtWinOpen n s
  | .ftWinRevoke => Sys2Proof.Machine.execFtWinRevoke s
  | .ftWinRevokeDone n => Sys2Proof.Machine.execFtWinRevokeDone n s
  | .ftCancel ring => Sys2Proof.Machine.execFtCancel ring s
  | .ftCntSet => Sys2Proof.Machine.execFtCntSet s
  | .ftSend q => Sys2Proof.Machine.execFtSend q s
  | .ftRecv q => Sys2Proof.Machine.execFtRecv q s
  | .ftArmedFire q idx => Sys2Proof.Machine.execFtArmedFire q idx s
  | .ftTxSlice lose => Sys2Proof.Machine.execFtTxSlice lose s
  | .ftCtxFetchDone c evict => Sys2Proof.Machine.execFtCtxFetchDone c evict s
  | .ftSendPacket l cm hw => Sys2Proof.Machine.execFtSendPacket l cm hw s
  | .write l cm hw => Sys2Proof.Machine.execWrite l cm hw s
  | .writeImm l cm hw => Sys2Proof.Machine.execWriteImm l cm hw s
  | .readReq l cm hw => Sys2Proof.Machine.execReadReq l cm hw s
  | .readResp l hw => Sys2Proof.Machine.execReadResp l hw s
  | .atomic l cm hw => Sys2Proof.Machine.execAtomic l cm hw s
  | .atomicResp l hw => Sys2Proof.Machine.execAtomicResp l hw s
  | .ftAck l hw => Sys2Proof.Machine.execFtAck l hw s
  | .nakSeq l hw => Sys2Proof.Machine.execNakSeq l hw s
  | .nakBusy l hw => Sys2Proof.Machine.execNakBusy l hw s
  | .nakAccess l hw => Sys2Proof.Machine.execNakAccess l hw s
  | .nakExpired l hw => Sys2Proof.Machine.execNakExpired l hw s
  | .nakInvalid l hw => Sys2Proof.Machine.execNakInvalid l hw s
  | .nakCheck l hw => Sys2Proof.Machine.execNakCheck l hw s
  | .ftRtoExpiry c => Sys2Proof.Machine.execFtRtoExpiry c s
  | .ftRnrDelayExpiry c => Sys2Proof.Machine.execFtRnrDelayExpiry c s
  | .ftAckDelayExpiry c => Sys2Proof.Machine.execFtAckDelayExpiry c s
  | .ftDrainTimeout n => Sys2Proof.Machine.execFtDrainTimeout n s
  | .ethFrameRx l frame fecBad cw sym => Sys2Proof.Machine.execEthFrameRx l frame fecBad cw sym s
  | .pauseRx l quanta => Sys2Proof.Machine.execPauseRx l quanta s
  | .pfcRx l vec times => Sys2Proof.Machine.execPfcRx l vec times s
  | .pauseTimeEnd l p => Sys2Proof.Machine.execPauseTimeEnd l p s
  | .pauseWatchdogExpiry l p => Sys2Proof.Machine.execPauseWatchdogExpiry l p s
  | .pwdRecoverExpiry l p => Sys2Proof.Machine.execPwdRecoverExpiry l p s
  | .pauseRepeat l p => Sys2Proof.Machine.execPauseRepeat l p s
  | .laneCalDone l => Sys2Proof.Machine.execLaneCalDone l s
  | .linkUp l => Sys2Proof.Machine.execLinkUp l s
  | .linkDown l => Sys2Proof.Machine.execLinkDown l s
  | .portCfgWrite n v => Sys2Proof.Machine.execPortCfgWrite n v s
  | .lpEnWrite l v => Sys2Proof.Machine.execLpEnWrite l v s
  | .portHoldExpiry l q => Sys2Proof.Machine.execPortHoldExpiry l q s
  | .egressVisit l => Sys2Proof.Machine.execEgressVisit l s
  | .mtrCtlWrite n m v => Sys2Proof.Machine.execMtrCtlWrite n m v s
  | .ptpTxtsPop l => Sys2Proof.Machine.execPtpTxtsPop l s
  | .fecRateCheck l extra => Sys2Proof.Machine.execFecRateCheck l extra s
  | .hutchKekLoad => Sys2Proof.Machine.execHutchKekLoad s
  | .hutchKekClear => Sys2Proof.Machine.execHutchKekClear s
  | .hutchKeyLoad => Sys2Proof.Machine.execHutchKeyLoad s
  | .hutchKeyClear => Sys2Proof.Machine.execHutchKeyClear s
  | .cipEnWrite v => Sys2Proof.Machine.execCipEnWrite v s
  | .hlTrained speed width cxl => Sys2Proof.Machine.execHlTrained speed width cxl s
  | .hdmHostRead off len cxl rid => Sys2Proof.Machine.execHdmHostRead off len cxl rid s
  | .hdmHostWrite off data cxl rid => Sys2Proof.Machine.execHdmHostWrite off data cxl rid s
  | .hdmBiasSet => Sys2Proof.Machine.execHdmBiasSet s
  | .biasFlushDone g => Sys2Proof.Machine.execBiasFlushDone g s
  | .d3hotEnter f pmeEn => Sys2Proof.Machine.execD3hotEnter f pmeEn s
  | .d0Return f => Sys2Proof.Machine.execD0Return f s
  | .flrPf => Sys2Proof.Machine.execFlrPf s
  | .flrVf v => Sys2Proof.Machine.execFlrVf v s
  | .ltrWrite en snoop noSnoop => Sys2Proof.Machine.execLtrWrite en snoop noSnoop s
  | .apertureReadCompletion tag data => Sys2Proof.Machine.execApertureReadCompletion tag data s
  | .completionTimeout tag => Sys2Proof.Machine.execCompletionTimeout tag s
  | .msixModTimer f v => Sys2Proof.Machine.execMsixModTimer f v s
  | .msixUnmask f en fnMask v => Sys2Proof.Machine.execMsixUnmask f en fnMask v s
  | .linkL0Reached => Sys2Proof.Machine.execLinkL0Reached s
  | .emuWrite off size v => Sys2Proof.Machine.execEmuWrite off size v s
  | .emuAct => Sys2Proof.Machine.execEmuAct s
  | .emuHeartbeat => Sys2Proof.Machine.execEmuHeartbeat s
  | .fwWatchdog => Sys2Proof.Machine.execFwWatchdog s
  | .moveFragmentDone id f corrupt host => Sys2Proof.Machine.execMoveFragmentDone id f corrupt host s
  | .doorbell fn slot => Sys2Proof.Machine.execDoorbell fn slot s
  | .queueEntryFetched q data => Sys2Proof.Machine.execQueueEntryFetched q data s
  | .queueEnable q => Sys2Proof.Machine.execQueueEnable q s
  | .queueDisable q => Sys2Proof.Machine.execQueueDisable q s
  | .queueClrErr q => Sys2Proof.Machine.execQueueClrErr q s
  | .cqConsWrite q v => Sys2Proof.Machine.execCqConsWrite q v s
  | .quePfWrite v => Sys2Proof.Machine.execQuePfWrite v s
  | .headPublish q => Sys2Proof.Machine.execHeadPublish q s
  | .jobStep q => Sys2Proof.Machine.execJobStep q s
  | .jobStepStart q => Sys2Proof.Machine.execJobStepStart q s
  | .jobMove q => Sys2Proof.Machine.execJobMove q s
  | .jobHcopy q => Sys2Proof.Machine.execJobHcopy q s
  | .cmdAccept q payload => Sys2Proof.Machine.execCmdAccept q payload s
  | .cmdReply fn => Sys2Proof.Machine.execCmdReply fn s
  | .hrmDataRead fn low => Sys2Proof.Machine.execHrmDataRead fn low s
  | .cmdNop => Sys2Proof.Machine.execCmdNop s
  | .createInstance => Sys2Proof.Machine.execCreateInstance s
  | .destroyInstance => Sys2Proof.Machine.execDestroyInstance s
  | .resetInstance => Sys2Proof.Machine.execResetInstance s
  | .freezeInstance => Sys2Proof.Machine.execFreezeInstance s
  | .saveInstance gmap => Sys2Proof.Machine.execSaveInstance gmap s
  | .restoreInstance image => Sys2Proof.Machine.execRestoreInstance image s
  | .resumeInstance => Sys2Proof.Machine.execResumeInstance s
  | .dirtyLogStart => Sys2Proof.Machine.execDirtyLogStart s
  | .dirtyLogEpoch => Sys2Proof.Machine.execDirtyLogEpoch s
  | .dirtyLogStop => Sys2Proof.Machine.execDirtyLogStop s
  | .move => Sys2Proof.Machine.execMove s
  | .hcopy => Sys2Proof.Machine.execHcopy s
  | .resetDrainDone x1 => Sys2Proof.Machine.execResetDrainDone x1 s
  | .zeroiseDone r => Sys2Proof.Machine.execZeroiseDone r s
  | .freezeDone x1 => Sys2Proof.Machine.execFreezeDone x1 s
  | .freezeCut x1 => Sys2Proof.Machine.execFreezeCut x1 s
  | .scrub x hw => Sys2Proof.Machine.execScrub x hw s
  | .coreAgeTick => Sys2Proof.Machine.execCoreAgeTick s
  | .iftDone unit pass => Sys2Proof.Machine.execIftDone unit pass s
  | .errorHandle => Sys2Proof.Machine.execErrorHandle s
  | .sideboardHeartbeat => Sys2Proof.Machine.execSideboardHeartbeat s
  | .histFlashWrite ok => Sys2Proof.Machine.execHistFlashWrite ok s
  | .relForceTest u => Sys2Proof.Machine.execRelForceTest u s
  | .relForceRetire u => Sys2Proof.Machine.execRelForceRetire u s
  | .relForceReturn u => Sys2Proof.Machine.execRelForceReturn u s
  | .hqUnitWrite v => Sys2Proof.Machine.execHqUnitWrite v s
  | .hqAnswer => Sys2Proof.Machine.execHqAnswer s
  | .regionWakeDone r => Sys2Proof.Machine.execRegionWakeDone r s
  | .pl3Exit => Sys2Proof.Machine.execPl3Exit s
  | .freqStep r => Sys2Proof.Machine.execFreqStep r s
  | .freqTgtWrite r v => Sys2Proof.Machine.execFreqTgtWrite r v s
  | .powerSample vin iin => Sys2Proof.Machine.execPowerSample vin iin s
  | .thermalSample temps => Sys2Proof.Machine.execThermalSample temps s
  | .refLost => Sys2Proof.Machine.execRefLost s
  | .refRestored => Sys2Proof.Machine.execRefRestored s
  | .pcieRefclkLost => Sys2Proof.Machine.execPcieRefclkLost s
  | .vinSample v => Sys2Proof.Machine.execVinSample v s
  | .powerOnReset => Sys2Proof.Machine.execPowerOnReset s
  | .perstNAssert => Sys2Proof.Machine.execPerstNAssert s
  | .perstNDeassert => Sys2Proof.Machine.execPerstNDeassert s
  | .pwrEnAssert => Sys2Proof.Machine.execPwrEnAssert s
  | .pwrEnDeassert => Sys2Proof.Machine.execPwrEnDeassert s
  | .pwrEnHoldEnd => Sys2Proof.Machine.execPwrEnHoldEnd s
  | .positionReset pos => Sys2Proof.Machine.execPositionReset pos s
  | .posResetDone => Sys2Proof.Machine.execPosResetDone s
  | .bootGo => Sys2Proof.Machine.execBootGo s
  | .bootVerify image katOk => Sys2Proof.Machine.execBootVerify image katOk s
  | .startupPortsDone => Sys2Proof.Machine.execStartupPortsDone s
  | .startupFabricReady => Sys2Proof.Machine.execStartupFabricReady s
  | .vbatLow => Sys2Proof.Machine.execVbatLow s
  | .rtcTick => Sys2Proof.Machine.execRtcTick s
  | .rtcWrite v => Sys2Proof.Machine.execRtcWrite v s
  | .qpeakRead hub port => Sys2Proof.Machine.execQpeakRead hub port s
  | .pwrPeakRead => Sys2Proof.Machine.execPwrPeakRead s
  | .regLowHalfRead fn bar2 off size => Sys2Proof.Machine.execRegLowHalfRead fn bar2 off size s
  | .regWrite fn bar2 off size v => Sys2Proof.Machine.execRegWrite fn bar2 off size v s
  | .pwrGoodAssert => Sys2Proof.Machine.execPwrGoodAssert s
  | .railFault => Sys2Proof.Machine.execRailFault s
  | .pllUnlock d => Sys2Proof.Machine.execPllUnlock d s
  | .pcieRefclkRestored => Sys2Proof.Machine.execPcieRefclkRestored s
  | .hostLinkDown => Sys2Proof.Machine.execHostLinkDown s
  | .linkPowerStateEntry ps => Sys2Proof.Machine.execLinkPowerStateEntry ps s
  | .pmeStatusClear f => Sys2Proof.Machine.execPmeStatusClear f s
  | .ptpEventMessageTx l frame => Sys2Proof.Machine.execPtpEventMessageTx l frame s
  | .mctpMessage warn => Sys2Proof.Machine.execMctpMessage warn s
  | .redfishRequest q => Sys2Proof.Machine.execRedfishRequest q s
  | .aonParity x => Sys2Proof.Machine.execAonParity x s

end Sys2Proof.Machine
end

