-- ==== Sys2Proof/Safety.lean ====
section
/-! DEFINITION. What a good state is, in the terms that claims use: memory in canonical form, and a placement in which every core serves
at most one position and every core that serves is in service. -/

namespace Sys2Proof.Machine

/-- Memory is in its canonical form. -/
def State.memOk (s : State) : Prop := s.blk.mem.wf = true

/-- The placement of one cluster (R10, R91): each position 0 to 15 is served by at most one of the 17 cores, no core serves two positions,
and a core that serves is SERVING, or RETIRED and waiting for its move (R420). -/
def Placement.ok (p : Placement) : Prop :=
  (∀ k, k < 16 → ∀ c, p.core k = some c → c < 17 ∧ (p.role c = .serving ∨ p.role c = .retired)) ∧
  (∀ j k, j < 16 → k < 16 → ∀ c, p.core j = some c → p.core k = some c → j = k)

/-- Every cluster's placement is good, and what waits for a move is a position. -/
def State.placeOk (s : State) : Prop :=
  (∀ g, (s.blk.pl g).ok) ∧ (∀ g k, k ∈ (s.blk.cl g).waiting → k < 16)

/-- The commands at which the map from positions to cores may change: a beat boundary, and the two resets that apply the stored roles
(R11, R430, R453). -/
def changesPlacement : Instr → Bool
  | .beatBoundary | .powerOnReset | .perstNAssert => true
  | _ => false

/-- Which core serves each position, and the placement epoch of each cluster, are the same in both states. -/
def samePlacement (s t : State) : Prop :=
  ∀ g, (∀ k, (t.blk.pl g).core k = (s.blk.pl g).core k) ∧ (t.blk.pl g).epoch = (s.blk.pl g).epoch

/-! ## A thread that can run an instruction (R68, R70, R82, R85, R124) -/

/-- The thread can issue its next instruction now, the instruction's fetch raises nothing, and no check finds an error in it. `two` says
that the instruction has two words, `rs` lists the registers it names. -/
def State.ready (s : State) (i : Issue) (two : Bool) (rs : List RegRef) : Prop :=
  s.blk.canIssue i.pos.toNat i.tid.toNat rs = true ∧ s.blk.fetchFault i two = none ∧ i.hw = .none

/-- The thread that an instruction is issued by. -/
def State.thread (s : State) (i : Issue) : Thread := s.blk.th i.pos.toNat i.tid.toNat

/-- The device with the thread recorded as the core's last to issue (R68). -/
def State.issued (s : State) (i : Issue) : Blk := s.blk.modCore i.pos.toNat (fun c => { c with lastTid := i.tid.toNat })

/-- The state after an instruction that changes its thread by `f` and goes on at the next instruction. -/
def State.ran (s : State) (i : Issue) (two : Bool) (f : Thread → Thread) : State :=
  { s with blk := ((s.issued i).modTh i.pos.toNat i.tid.toNat f).retire i.pos.toNat i.tid.toNat two }

/-- The state after an instruction that changes its thread by `f`, the PC included. -/
def State.jumped (s : State) (i : Issue) (f : Thread → Thread) : State :=
  { s with blk := (s.issued i).modTh i.pos.toNat i.tid.toNat f }

/-- The state after an instruction that raises a cause instead of completing. -/
def State.raised (s : State) (i : Issue) (c : Cause) (addr : Nat) : State :=
  { s with blk := (s.issued i).raiseExc i.pos.toNat i.tid.toNat c (s.thread i).pc.toNat addr }

end Sys2Proof.Machine
end

