-- ==== Sys2Proof/Certificates/Slice0/Obligations.lean ====
section
/-! DEFINITION. The statements about the model. -/

open Sys2Proof Sys2Proof.Machine

/-! ## The machine -/

/-- A step runs the command at the front of the queue, with the rest of the queue waiting. With no command waiting a step changes nothing (the model's
choice, log entry 40). -/
def Obligations.StepRunsFront : Prop :=
  (∀ (c : Instr) (s : State), step (s.withCommand c) = exec c s ∧
    ∀ rest, step { s with pending := c :: rest } = exec c { s with pending := rest }) ∧
  (∀ s : State, s.pending = [] → step s = .next s)

/-- Every command is answered with a next state, and leaves the commands that wait as they are. -/
def Obligations.CommandsNeverStop : Prop :=
  ∀ (c : Instr) (s : State), ∃ t, exec c s = .next t ∧ t.pending = s.pending

/-- R10: after power-on reset position Lk is served by core Pk and P16 is the spare; memory is in canonical form; no command waits. -/
def Obligations.ResetState : Prop :=
  State.reset.placeOk ∧ State.reset.memOk ∧ State.reset.pending = [] ∧
  (∀ g k, k < 16 → (State.reset.blk.pl g).core k = some k) ∧ (∀ g, (State.reset.blk.pl g).spare = some 16)

/-- Every step keeps memory in its canonical form. -/
def Obligations.StepKeepsMemory : Prop :=
  ∀ s t : State, s.memOk → step s = .next t → t.memOk

/-- Every step keeps a good placement (R10, R91, R92): no core serves two positions, and a core that serves is in service. -/
def Obligations.StepKeepsPlacement : Prop :=
  ∀ s t : State, s.placeOk → step s = .next t → t.placeOk

/-- R11: placement changes only at beat boundaries and where the stored roles are applied. Every other command leaves the map from
positions to cores and the placement epochs as they are. -/
def Obligations.PlacementChangesAtBoundaries : Prop :=
  ∀ (c : Instr) (s t : State), changesPlacement c = false → exec c s = .next t → samePlacement s t

/-! ## Scalar instructions -/

/-- The format R fields that a scalar instruction of two operands does not use are 0. -/
def Sys2Proof.Machine.scalarForm (f : FmtR) : Prop := f.c = 0 ∧ f.p = 0 ∧ f.t = 0 ∧ f.z31 = 0 ∧ f.zhi = 0

/-- The format I fields that a scalar instruction with an immediate does not use are 0. -/
def Sys2Proof.Machine.immForm (f : FmtI) : Prop := f.b = 0 ∧ f.t = 0 ∧ f.z31 = 0

/-- R98: the scalar instructions of format R. R98: SEL and the instructions with an immediate. -/
def Obligations.ScalarResults : Prop :=
  (∀ (i : Issue) (f : FmtR) (s : State),
    s.ready i false [.g f.d.toNat, .g f.a.toNat, .g f.b.toNat] → scalarForm f →
    let a := (s.thread i).gr f.a.toNat
    let b := (s.thread i).gr f.b.toNat
    let wrote := fun (v : Word) => Host.Outcome.next (φ := Fault) (ρ := Refusal) (s.ran i false (fun x => x.gw f.d.toNat v))
    (f.m = 0 → exec (.add i f) s = wrote (a + b)) ∧
    (f.m = 0 → exec (.sub i f) s = wrote (a - b)) ∧
    (f.m = 0 → exec (.mul i f) s = wrote (a * b)) ∧
    (f.m = 0 → exec (.mulh i f) s = wrote (BitVec.ofInt 64 (a.toInt * b.toInt / 2 ^ 64))) ∧
    (f.m = 1 → exec (.mulh i f) s = wrote (BitVec.ofNat 64 (a.toNat * b.toNat / 2 ^ 64))) ∧
    (f.m = 0 → exec (.and i f) s = wrote (a &&& b)) ∧
    (f.m = 0 → exec (.or i f) s = wrote (a ||| b)) ∧
    (f.m = 0 → exec (.xor i f) s = wrote (a ^^^ b)) ∧
    (f.m = 0 → exec (.shl i f) s = wrote (a <<< (b.toNat % 64))) ∧
    (f.m = 0 → exec (.shr i f) s = wrote (a >>> (b.toNat % 64))) ∧
    (f.m = 1 → exec (.shr i f) s = wrote (a.sshiftRight (b.toNat % 64))) ∧
    (f.m = 0 → b ≠ 0 → exec (.div i f) s = wrote (BitVec.ofInt 64 (a.toInt.tdiv b.toInt))) ∧
    (f.m = 1 → b ≠ 0 → exec (.div i f) s = wrote (a / b)) ∧
    (f.m = 0 → b ≠ 0 → exec (.rem i f) s = wrote (BitVec.ofInt 64 (a.toInt.tmod b.toInt))) ∧
    (f.m = 1 → b ≠ 0 → exec (.rem i f) s = wrote (a % b))) ∧
  ((∀ (i : Issue) (f : FmtI) (s : State),
    s.ready i false [.g f.d.toNat, .g f.a.toNat] → immForm f →
    let a := (s.thread i).gr f.a.toNat
    let k := f.imm.signExtend 64
    let wrote := fun (v : Word) => Host.Outcome.next (φ := Fault) (ρ := Refusal) (s.ran i false (fun x => x.gw f.d.toNat v))
    (f.m = 0 → exec (.addi i f) s = wrote (a + k)) ∧
    (f.m = 0 → exec (.muli i f) s = wrote (a * k)) ∧
    (f.m = 0 → exec (.andi i f) s = wrote (a &&& k)) ∧
    (f.m = 0 → exec (.ori i f) s = wrote (a ||| k)) ∧
    (f.m = 0 → exec (.xori i f) s = wrote (a ^^^ k)) ∧
    (f.m = 0 → exec (.shli i f) s = wrote (a <<< (k.toNat % 64))) ∧
    (f.m = 0 → exec (.shri i f) s = wrote (a >>> (k.toNat % 64))) ∧
    (f.m = 1 → exec (.shri i f) s = wrote (a.sshiftRight (k.toNat % 64))) ∧
    (f.m = 0 → exec (.lih i f) s = wrote ((k <<< 32) ||| (a.setWidth 32).zeroExtend 64))) ∧
  (∀ (i : Issue) (f : FmtR) (s : State),
    s.ready i false [.g f.d.toNat, .g f.a.toNat, .g f.b.toNat, .g f.c.toNat] → f.p = 0 → f.t = 0 → f.z31 = 0 → f.zhi = 0 → f.m = 0 →
    let x := s.thread i
    exec (.sel i f) s = .next (s.ran i false (fun y => y.gw f.d.toNat
      (if x.gr f.c.toNat = 0 then x.gr f.b.toNat else x.gr f.a.toNat)))))

/-- R99: the condition that M names, on 64-bit values. -/
def Sys2Proof.Machine.condition (m : Nat) (a b : Word) : Bool :=
  match m with
  | 0 => a == b
  | 1 => a != b
  | 2 => a.slt b
  | 3 => b.sle a
  | 4 => a.ult b
  | _ => b.ule a

/-- R99: CMP, CMPI and BR take their condition from M, and values 6 to 15 raise ILLEGAL_OP. -/
def Obligations.Conditions : Prop :=
  (∀ (i : Issue) (f : FmtR) (s : State),
    s.ready i false [.g f.d.toNat, .g f.a.toNat, .g f.b.toNat] → scalarForm f →
    let c := condition f.m.toNat ((s.thread i).gr f.a.toNat) ((s.thread i).gr f.b.toNat)
    (f.m.toNat < 6 → exec (.cmp i f) s = .next (s.ran i false (fun x => x.gw f.d.toNat (if c then 1 else 0)))) ∧
    (6 ≤ f.m.toNat → exec (.cmp i f) s = .next (s.raised i .illegalOp 0))) ∧
  (∀ (i : Issue) (f : FmtI) (s : State),
    s.ready i false [.g f.d.toNat, .g f.a.toNat] → immForm f →
    let c := condition f.m.toNat ((s.thread i).gr f.a.toNat) (f.imm.signExtend 64)
    (f.m.toNat < 6 → exec (.cmpi i f) s = .next (s.ran i false (fun x => x.gw f.d.toNat (if c then 1 else 0)))) ∧
    (6 ≤ f.m.toNat → exec (.cmpi i f) s = .next (s.raised i .illegalOp 0))) ∧
  (∀ (i : Issue) (f : FmtI) (s : State),
    s.ready i false [.g f.a.toNat, .g f.b.toNat] → f.d = 0 → f.t = 0 → f.z31 = 0 →
    let c := condition f.m.toNat ((s.thread i).gr f.a.toNat) ((s.thread i).gr f.b.toNat)
    (f.m.toNat < 6 → c = false → exec (.br i f) s = .next (s.ran i false id)) ∧
    (f.m.toNat < 6 → c = true → exec (.br i f) s = .next (s.jumped i (fun x => { x with pc := x.pc + f.imm.signExtend 40 * 8 }))) ∧
    (6 ≤ f.m.toNat → exec (.br i f) s = .next (s.raised i .illegalOp 0)))

/-- R100: scalar arithmetic always goes on, raising nothing; the fixed results of division; and the jump of JAL, which raises ALIGN for a
misaligned target. -/
def Obligations.DivisionAndJumps : Prop :=
  (∀ (i : Issue) (f : FmtR) (s : State),
    s.ready i false [.g f.d.toNat, .g f.a.toNat, .g f.b.toNat] → scalarForm f → f.m = 0 →
    ∀ c, c ∈ [Instr.add i f, .sub i f, .mul i f, .mulh i f, .div i f, .rem i f, .and i f, .or i f, .xor i f, .shl i f, .shr i f, .cmp i f] →
      ∃ v, exec c s = .next (s.ran i false (fun x => x.gw f.d.toNat v))) ∧
  (∀ (i : Issue) (f : FmtI) (s : State),
    s.ready i false [.g f.d.toNat, .g f.a.toNat] → immForm f → f.m = 0 →
    ∀ c, c ∈ [Instr.addi i f, .muli i f, .andi i f, .ori i f, .xori i f, .shli i f, .shri i f, .lih i f, .cmpi i f] →
      ∃ v, exec c s = .next (s.ran i false (fun x => x.gw f.d.toNat v))) ∧
  (∀ (i : Issue) (f : FmtR) (s : State),
    s.ready i false [.g f.d.toNat, .g f.a.toNat, .g f.b.toNat] → scalarForm f → f.m.toNat < 2 →
    let a := (s.thread i).gr f.a.toNat
    let b := (s.thread i).gr f.b.toNat
    let wrote := fun (v : Word) => Host.Outcome.next (φ := Fault) (ρ := Refusal) (s.ran i false (fun x => x.gw f.d.toNat v))
    (b = 0 → exec (.div i f) s = wrote 0xFFFFFFFFFFFFFFFF) ∧
    (b = 0 → exec (.rem i f) s = wrote a) ∧
    (f.m = 0 → a = BitVec.intMin 64 → b = -1 → exec (.div i f) s = wrote (BitVec.intMin 64)) ∧
    (f.m = 0 → a = BitVec.intMin 64 → b = -1 → exec (.rem i f) s = wrote 0)) ∧
  (∀ (i : Issue) (f : FmtI) (s : State),
    s.ready i false [.g f.d.toNat, .g f.a.toNat] → immForm f → f.m = 0 →
    let target := (s.thread i).gr f.a.toNat + f.imm.signExtend 64
    (target.toNat % 8 = 0 → exec (.jal i f) s =
      .next (s.jumped i (fun x => { x.gw f.d.toNat ((x.pc + 8).zeroExtend 64) with pc := target.setWidth 40 }))) ∧
    (target.toNat % 8 ≠ 0 → exec (.jal i f) s = .next (s.raised i .align target.toNat)))

/-- What an instruction that writes a register of its thread and goes on changes: that register, the PC and the core's last issuer
(R71, R94). The rest of the thread, the other threads of the core, every other core and all of memory stay. -/
def Obligations.RegisterWriteFrame : Prop :=
  ∀ (i : Issue) (two : Bool) (d : Nat) (v : Word) (s : State),
    let p := i.pos.toNat
    let t := i.tid.toNat
    let u := s.ran i two (fun x => x.gw d v)
    (∀ n, (u.blk.th p t).gr n = if n = d ∧ n ≠ 0 then v else (s.blk.th p t).gr n) ∧
    (u.blk.th p t).pc = (s.blk.th p t).pc + (if two then 16 else 8) ∧
    (∀ n, (u.blk.th p t).vr n = (s.blk.th p t).vr n) ∧ (∀ n, (u.blk.th p t).pr n = (s.blk.th p t).pr n) ∧
    (u.blk.th p t).fflags = (s.blk.th p t).fflags ∧ (u.blk.th p t).st = (s.blk.th p t).st ∧
    (∀ t', t' ≠ t → u.blk.th p t' = s.blk.th p t') ∧ (∀ p', p' ≠ p → u.blk.core p' = s.blk.core p') ∧
    (∀ n, (u.blk.core p).tile n = (s.blk.core p).tile n) ∧ (∀ n, (u.blk.core p).acc n = (s.blk.core p).acc n) ∧
    (u.blk.core p).mq = (s.blk.core p).mq ∧ (u.blk.core p).sser = (s.blk.core p).sser ∧
    { u.blk with cores := s.blk.cores } = s.blk ∧ (∀ a, u.blk.mem.byte a = s.blk.mem.byte a)

/-- R85, R87: a cause of class P that a thread outside every step raises latches the fault record and stops the thread; its PC and its
registers stay. -/
def Obligations.ExceptionLatchesRecord : Prop :=
  ∀ (p t : Nat) (c : Cause) (pc addr : Nat) (s : Blk), c.isH = false → tblFind (s.th p t).step s.steps = none →
    let u := s.raiseExc p t c pc addr
    (u.th p t).st = .faulted ∧ (u.th p t).fault = some { cause := c, pc := pc, addr := addr } ∧
    (u.th p t).pc = (s.th p t).pc ∧ (∀ n, (u.th p t).gr n = (s.th p t).gr n) ∧
    (∀ t', t' ≠ t → u.th p t' = s.th p t') ∧ (∀ p', p' ≠ p → u.core p' = s.core p') ∧ u.mem = s.mem

/-- R95: an instruction of format R with a nonzero bit in a field marked 0 raises ILLEGAL_OP at issue. An instruction whose thread cannot issue it changes
nothing (the model's choice, log entry 10). -/
def Obligations.IssueChecks : Prop :=
  (∀ (i : Issue) (f : FmtR) (s : State),
    s.ready i false [.g f.d.toNat, .g f.a.toNat, .g f.b.toNat] → (f.z31 ≠ 0 ∨ f.zhi ≠ 0) →
    exec (.add i f) s = .next (s.raised i .illegalOp 0) ∧ exec (.sub i f) s = .next (s.raised i .illegalOp 0) ∧
    exec (.mul i f) s = .next (s.raised i .illegalOp 0) ∧ exec (.and i f) s = .next (s.raised i .illegalOp 0) ∧
    exec (.div i f) s = .next (s.raised i .illegalOp 0) ∧ exec (.shr i f) s = .next (s.raised i .illegalOp 0)) ∧
  (∀ (i : Issue) (two : Bool) (rs : List RegRef) (stall illegal dp : Bool) (body : Blk → Blk) (s : Blk),
    (s.canIssue i.pos.toNat i.tid.toNat rs = false ∨ stall = true) → s.issue i two rs stall illegal dp body = s)

/-! ## Vector instructions -/

/-- The bits of a format R word that are 0 in every vector instruction. -/
def Sys2Proof.Machine.vecForm (f : FmtR) : Prop := f.z31 = 0 ∧ f.zhi = 0

/-- R72: lane `k` of the result of writing lanes of `w` bits under a predicate is the new value where the bit of the lane's lowest byte
is 1, and the old one elsewhere; bits above the lanes stay. -/
def Obligations.PredicateGovernsLanes : Prop :=
  ∀ (w n : Nat) (pred : Word) (old : VReg) (g : Nat → Nat) (k : Nat), w ∈ [8, 16, 32, 64, 128] → w * n ≤ 512 → k < n →
    lane w k (mapLanes w n pred old g) = (if pbit pred (w * k / 8) then g k % 2 ^ w else lane w k old) ∧
    (mapLanes w n pred old g).toNat / 2 ^ (w * n) = old.toNat / 2 ^ (w * n)

/-- The floating-point formats of T with vector arithmetic (R101). -/
def Sys2Proof.Machine.floatOf (t : BitVec 4) (ff : FFmt) : Prop :=
  (t = 14 ∧ ff = fmtF32) ∨ (t = 0 ∧ ff = fmtBF16) ∨ (t = 1 ∧ ff = fmtF16)

/-- A floating-point lane by lane: each governed lane of vD takes the encoding of its value, and FFLAGS gathers the flags of the
governed lanes. -/
def Sys2Proof.Machine.State.floated (s : State) (i : Issue) (f : FmtR) (ff : FFmt) (r : Nat → Nat × FFlags) : State :=
  let pred := (s.thread i).pr f.p.toNat
  s.ran i false (fun x => (x.vw f.d.toNat (mapLanes ff.width (512 / ff.width) pred (x.vr f.d.toNat) (fun k => (r k).1))).orFlags
    (laneFlags ff.width (512 / ff.width) pred (fun k => (r k).2)))

/-- The IEEE 754 result of one lane: the value rounded into the format, with the flags of the operation, of the rounding and of a
signalling operand (R62). -/
def Sys2Proof.Machine.ieee (ff : FFmt) (r : FVal × FFlags) (ops : List Nat) : Nat × FFlags :=
  ((ff.encode r.1).1, ((ff.encode r.1).2.or r.2).or (snanFlags ff ops))

/-- R62, R101: the floating-point instructions of two operands, VFMA and VSQRT, by lanes. R65, R101: the approximate functions, on binary32 lanes. The
value within the bound is the device's own (log entry 1). R101: a floating-point instruction with another format in T raises BAD_FORMAT. -/
def Obligations.VectorFloats : Prop :=
  (∀ (i : Issue) (f : FmtR) (ff : FFmt) (s : State), vecForm f → f.m = 0 → floatOf f.t ff →
    let x := s.thread i
    let a := fun k => lane ff.width k (x.vr f.a.toNat)
    let b := fun k => lane ff.width k (x.vr f.b.toNat)
    let c := fun k => lane ff.width k (x.vr f.c.toNat)
    let v := ff.decode
    (f.c = 0 → s.ready i false [.v f.d.toNat, .v f.a.toNat, .p f.p.toNat, .v f.b.toNat] →
      exec (.vadd i f) s = .next (s.floated i f ff (fun k => ieee ff (fAdd (v (a k)) (v (b k))) [a k, b k])) ∧
      exec (.vsub i f) s = .next (s.floated i f ff (fun k =>
        ieee ff (fAdd (v (a k)) (if v (b k) = .nan then .nan else (v (b k)).neg)) [a k, b k])) ∧
      exec (.vmul i f) s = .next (s.floated i f ff (fun k => ieee ff (fMul (v (a k)) (v (b k))) [a k, b k])) ∧
      exec (.vdiv i f) s = .next (s.floated i f ff (fun k => ieee ff (fDiv (v (a k)) (v (b k))) [a k, b k])) ∧
      exec (.vmin i f) s = .next (s.floated i f ff (fun k =>
        if v (a k) = .nan ∨ v (b k) = .nan then (ff.qnan, snanFlags ff [a k, b k])
        else (if minLt (v (b k)) (v (a k)) then b k else a k, {}))) ∧
      exec (.vmax i f) s = .next (s.floated i f ff (fun k =>
        if v (a k) = .nan ∨ v (b k) = .nan then (ff.qnan, snanFlags ff [a k, b k])
        else (if minLt (v (a k)) (v (b k)) then b k else a k, {})))) ∧
    (s.ready i false [.v f.d.toNat, .v f.a.toNat, .p f.p.toNat, .v f.b.toNat, .v f.c.toNat] →
      exec (.vfma i f) s = .next (s.floated i f ff (fun k => ieee ff (fFma (v (a k)) (v (b k)) (v (c k))) [a k, b k, c k]))) ∧
    (f.b = 0 → f.c = 0 → s.ready i false [.v f.d.toNat, .v f.a.toNat, .p f.p.toNat] →
      exec (.vsqrt i f) s = .next (s.floated i f ff (fun k => ieee ff (fSqrt (v (a k))) [a k])))) ∧
  (∀ (i : Issue) (f : FmtR) (s : State), vecForm f → f.m = 0 → f.t = 14 → f.b = 0 → f.c = 0 →
    s.ready i false [.v f.d.toNat, .v f.a.toNat, .p f.p.toNat] →
    let a := fun k => (fmtF32.encode (fmtF32.decode (lane 32 k ((s.thread i).vr f.a.toNat)))).1
    exec (.vrcp i f) s = .next (s.floated i f fmtF32 (fun k => approxF32 .rcp (a k))) ∧
    exec (.vrsq i f) s = .next (s.floated i f fmtF32 (fun k => approxF32 .rsq (a k))) ∧
    exec (.vexp2 i f) s = .next (s.floated i f fmtF32 (fun k => approxF32 .exp2 (a k))) ∧
    exec (.vlog2 i f) s = .next (s.floated i f fmtF32 (fun k => approxF32 .log2 (a k))) ∧
    exec (.vtanh i f) s = .next (s.floated i f fmtF32 (fun k => approxF32 .tanh (a k)))) ∧
  (∀ (i : Issue) (f : FmtR) (s : State), vecForm f → f.m = 0 → f.t ≠ 14 → f.t ≠ 0 → f.t ≠ 1 →
    (f.c = 0 → s.ready i false [.v f.d.toNat, .v f.a.toNat, .p f.p.toNat, .v f.b.toNat] →
      exec (.vadd i f) s = .next (s.raised i .badFormat 0) ∧ exec (.vsub i f) s = .next (s.raised i .badFormat 0) ∧
      exec (.vmul i f) s = .next (s.raised i .badFormat 0) ∧ exec (.vdiv i f) s = .next (s.raised i .badFormat 0) ∧
      exec (.vmin i f) s = .next (s.raised i .badFormat 0) ∧ exec (.vmax i f) s = .next (s.raised i .badFormat 0)) ∧
    (s.ready i false [.v f.d.toNat, .v f.a.toNat, .p f.p.toNat, .v f.b.toNat, .v f.c.toNat] →
      exec (.vfma i f) s = .next (s.raised i .badFormat 0)) ∧
    (f.b = 0 → f.c = 0 → s.ready i false [.v f.d.toNat, .v f.a.toNat, .p f.p.toNat] →
      exec (.vsqrt i f) s = .next (s.raised i .badFormat 0) ∧ exec (.vrcp i f) s = .next (s.raised i .badFormat 0)))

/-- An integer vector instruction: governed lanes of `w` bits take `r`. -/
def Sys2Proof.Machine.State.vectored (s : State) (i : Issue) (f : FmtR) (w : Nat) (r : Nat → Nat) : State :=
  s.ran i false (fun x => x.vw f.d.toNat (mapLanes w (512 / w) (x.pr f.p.toNat) (x.vr f.d.toNat) r))

/-- R101: the integer and bit instructions by lanes of 8, 16, 32 or 64 bits, as M[1:0] says. R101: VSEL, VBC and VGET. R101: VCMP and VICMP set every bit
of the predicate that belongs to a governed lane's bytes to the lane's result. -/
def Obligations.VectorIntegers : Prop :=
  (∀ (i : Issue) (f : FmtR) (s : State), vecForm f → f.c = 0 → f.t = 0 →
    s.ready i false [.v f.d.toNat, .v f.a.toNat, .v f.b.toNat, .p f.p.toNat] →
    let w := 8 * 2 ^ (f.m.toNat % 4)
    let a := fun k => lane w k ((s.thread i).vr f.a.toNat)
    let b := fun k => lane w k ((s.thread i).vr f.b.toNat)
    let by_ := fun (r : Nat → Nat) => Host.Outcome.next (φ := Fault) (ρ := Refusal) (s.vectored i f w r)
    (f.m.toNat < 4 →
      exec (.viadd i f) s = by_ (fun k => (a k + b k) % 2 ^ w) ∧ exec (.visub i f) s = by_ (fun k => (a k + 2 ^ w - b k) % 2 ^ w) ∧
      exec (.vimul i f) s = by_ (fun k => a k * b k % 2 ^ w) ∧ exec (.vand i f) s = by_ (fun k => a k &&& b k) ∧
      exec (.vor i f) s = by_ (fun k => a k ||| b k) ∧ exec (.vxor i f) s = by_ (fun k => a k ^^^ b k) ∧
      exec (.vshl i f) s = by_ (fun k => a k * 2 ^ (b k % w) % 2 ^ w) ∧ exec (.vshr i f) s = by_ (fun k => a k / 2 ^ (b k % w))) ∧
    (4 ≤ f.m.toNat → f.m.toNat < 8 →
      exec (.vshr i f) s = by_ (fun k => (BitVec.ofInt w ((BitVec.ofNat w (a k)).toInt / 2 ^ (b k % w))).toNat))) ∧
  (∀ (i : Issue) (f : FmtR) (s : State), vecForm f → f.t = 0 → f.m.toNat < 4 →
    let w := 8 * 2 ^ (f.m.toNat % 4)
    let x := s.thread i
    (f.c.toNat < 8 → s.ready i false [.v f.d.toNat, .v f.a.toNat, .v f.b.toNat, .p f.c.toNat, .p f.p.toNat] →
      exec (.vsel i f) s = .next (s.vectored i f w (fun k =>
        if pbit (x.pr f.c.toNat) (w * k / 8) then lane w k (x.vr f.a.toNat) else lane w k (x.vr f.b.toNat)))) ∧
    (f.b = 0 → f.c = 0 → s.ready i false [.v f.d.toNat, .g f.a.toNat, .p f.p.toNat] →
      exec (.vbc i f) s = .next (s.vectored i f w (fun _ => (x.gr f.a.toNat).toNat % 2 ^ w))) ∧
    (f.c = 0 → s.ready i false [.g f.d.toNat, .v f.a.toNat, .g f.b.toNat, .p f.p.toNat] →
      exec (.vget i f) s = .next (s.ran i false (fun y => y.gw f.d.toNat
        (BitVec.ofNat 64 (lane w ((x.gr f.b.toNat).toNat % (512 / w)) (x.vr f.a.toNat))))))) ∧
  (∀ (i : Issue) (f : FmtR) (s : State), vecForm f → f.c = 0 → f.d.toNat < 8 →
    s.ready i false [.p f.d.toNat, .v f.a.toNat, .v f.b.toNat, .p f.p.toNat] →
    let x := s.thread i
    let pred := x.pr f.p.toNat
    (∀ ff, floatOf f.t ff → f.m.toNat < 5 →
      let r := fun k => fpCond ff f.m.toNat (lane ff.width k (x.vr f.a.toNat)) (lane ff.width k (x.vr f.b.toNat))
      exec (.vcmp i f) s = .next (s.ran i false (fun y =>
        (y.pw f.d.toNat (mapPred ff.width (512 / ff.width) pred (y.pr f.d.toNat) (fun k => (r k).1))).orFlags
          (laneFlags ff.width (512 / ff.width) pred (fun k => (r k).2))))) ∧
    (f.m.toNat < 4 → f.t.toNat < 6 →
      let w := 8 * 2 ^ (f.m.toNat % 4)
      exec (.vicmp i f) s = .next (s.ran i false (fun y => y.pw f.d.toNat (mapPred w (512 / w) pred (y.pr f.d.toNat)
        (fun k => intCond f.t.toNat w (lane w k (x.vr f.a.toNat)) (lane w k (x.vr f.b.toNat))))))))

/-- R102, R103: VCVT on the pairs of the table, VWADD, VCVTW and VCVTF. -/
def Obligations.VectorConversions : Prop :=
  ∀ (i : Issue) (f : FmtR) (s : State), vecForm f → f.c = 0 →
    let x := s.thread i
    let pred := x.pr f.p.toNat
    (∀ src dst, f.b = 0 → cvtPair f.t.toNat f.m.toNat = some (src, dst) → s.ready i false [.v f.d.toNat, .v f.a.toNat, .p f.p.toNat] →
      let n := 512 / max src.width dst.width
      let r := fun k => cvtLane src dst (lane src.width k (x.vr f.a.toNat))
      exec (.vcvt i f) s = .next (s.ran i false (fun y =>
        (y.vw f.d.toNat (mapLanes dst.width n pred (y.vr f.d.toNat) (fun k => (r k).1))).orFlags (laneFlags dst.width n pred (fun k => (r k).2))))) ∧
    (f.t = 0 → f.m = 0 → s.ready i false [.v f.d.toNat, .v f.a.toNat, .v f.b.toNat, .p f.p.toNat] →
      let r := fun k => w128Add (BitVec.ofNat 128 (lane 128 k (x.vr f.a.toNat))) (BitVec.ofNat 128 (lane 128 k (x.vr f.b.toNat)))
      exec (.vwadd i f) s = .next (s.ran i false (fun y =>
        (y.vw f.d.toNat (mapLanes 128 4 pred (y.vr f.d.toNat) (fun k => (r k).1.toNat))).orFlags
          (laneFlags 128 4 pred (fun k => { of := (r k).2 }))))) ∧
    (∀ we osh, f.t = 0 → f.m = 0 → cvtParams (x.gr f.b.toNat) = some (we, osh) →
      s.ready i false [.v f.d.toNat, .v f.a.toNat, .g f.b.toNat, .p f.p.toNat] →
      let r := fun k => w128ToF32 (BitVec.ofNat 128 (lane 128 k (x.vr f.a.toNat))) we osh
      let q := fun k => f32ToW128 (lane 32 k (x.vr f.a.toNat)) we
      exec (.vcvtw i f) s = .next (s.ran i false (fun y => (y.vw f.d.toNat (BitVec.ofNat 512 ((List.range 4).foldl (fun a k =>
        if pbit pred (16 * k) then putBits a (32 * k + 31) (32 * k) (r k).1 else a) (y.vr f.d.toNat).toNat))).orFlags
          (laneFlags 128 4 pred (fun k => (r k).2)))) ∧
      exec (.vcvtf i f) s = .next (s.ran i false (fun y =>
        (y.vw f.d.toNat (mapLanes 128 4 pred (y.vr f.d.toNat) (fun k => (q k).1.toNat))).orFlags
          (laneFlags 128 4 pred (fun k => (q k).2)))))

/-! ## Loads, stores and transfers -/

/-- Where an instance address of the thread's instance leads. -/
def Sys2Proof.Machine.State.leads (s : State) (i : Issue) (addr : Nat) (a : Access) : Target :=
  s.blk.translate ((s.blk.instOfPos i.pos.toNat).getD 0) addr a

/-- A drawer of the thread's own cluster holds the bytes at `x`, nothing that the thread did before holds the access back, and no word
of the range is uncorrectable. -/
def Sys2Proof.Machine.State.localAccess (s : State) (i : Issue) (x n : Nat) (wr : Bool) : Prop :=
  remoteDpa i.pos.toNat x = false ∧ s.blk.memWaits i.pos.toNat i.tid.toNat x n wr = false ∧ s.blk.mem.uncorrIn x n = false

/-- Bytes `l` stand at `a` in `t`, and every byte of memory outside them is as in `s`. -/
def Sys2Proof.Machine.storedAt (s t : State) (a : Nat) (l : List Byte) : Prop :=
  (∀ k, k < l.length → t.blk.mem.byte (a + k) = l.getD k 0) ∧ (∀ b, b < a ∨ a + l.length ≤ b → t.blk.mem.byte b = s.blk.mem.byte b)

/-- The registers of the issuing thread stay, and its PC goes on. -/
def Sys2Proof.Machine.wentOn (s t : State) (i : Issue) (two : Bool) : Prop :=
  (t.thread i).pc = (s.thread i).pc + (if two then 16 else 8) ∧ (∀ n, (t.thread i).gr n = (s.thread i).gr n) ∧
  (∀ n, (t.thread i).vr n = (s.thread i).vr n) ∧ (∀ n, (t.thread i).pr n = (s.thread i).pr n) ∧
  (t.thread i).fflags = (s.thread i).fflags

/-- R104: LD takes 2^M[1:0] bytes, least significant first, and extends them by M[2]; VLD takes 64 bytes. An aligned load from a drawer of the thread's
cluster. R104: ST writes the low bytes of gB, VST the bytes of vB whose predicate bit is 1, to an aligned address in a drawer of the thread's cluster.
Every other byte of memory and the thread's registers stay. R104, R134: a load or store whose address is not a multiple of its size raises ALIGN with
that address. -/
def Obligations.LoadsAndStores : Prop :=
  ((∀ (i : Issue) (f : FmtI) (s : State) (x : Nat), f.b = 0 → f.t = 0 → f.z31 = 0 → f.m.toNat < 8 →
    s.ready i false [.g f.d.toNat, .g f.a.toNat] →
    let n := 2 ^ (f.m.toNat % 4)
    let addr := ((s.thread i).gr f.a.toNat + f.imm.signExtend 64).toNat
    addr % n = 0 → s.leads i addr .rd = .drawer x → s.localAccess i x n false →
    let v := leNat ((List.range n).map (fun k => s.blk.mem.byte (x + k)))
    exec (.ld i f) s = .next (s.ran i false (fun y => y.gw f.d.toNat
      (if f.m.toNat < 4 then BitVec.ofNat 64 v else (BitVec.ofNat (8 * n) v).signExtend 64)))) ∧
  (∀ (i : Issue) (f : FmtI) (s : State) (x : Nat), f.b = 0 → f.t = 0 → f.z31 = 0 → f.m = 0 →
    s.ready i false [.v f.d.toNat, .g f.a.toNat] →
    let addr := ((s.thread i).gr f.a.toNat + f.imm.signExtend 64).toNat
    addr % 64 = 0 → s.leads i addr .rd = .drawer x → s.localAccess i x 64 false →
    exec (.vld i f) s = .next (s.ran i false (fun y => y.vw f.d.toNat
      (BitVec.ofNat 512 (leNat ((List.range 64).map (fun k => s.blk.mem.byte (x + k))))))))) ∧
  ((∀ (i : Issue) (f : FmtI) (s : State) (x : Nat), f.d = 0 → f.t = 0 → f.z31 = 0 → f.m.toNat < 4 →
    s.ready i false [.g f.a.toNat, .g f.b.toNat] →
    let n := 2 ^ f.m.toNat
    let addr := ((s.thread i).gr f.a.toNat + f.imm.signExtend 64).toNat
    addr % n = 0 → s.leads i addr .wr = .drawer x → s.localAccess i x n true →
    ∃ t, exec (.st i f) s = .next t ∧ storedAt s t x (toLe n ((s.thread i).gr f.b.toNat).toNat) ∧ wentOn s t i false) ∧
  (∀ (i : Issue) (f : FmtI) (s : State) (x : Nat), f.d = 0 → f.t = 0 → f.z31 = 0 → f.m.toNat < 8 →
    s.ready i false [.g f.a.toNat, .v f.b.toNat, .p f.m.toNat] →
    let addr := ((s.thread i).gr f.a.toNat + f.imm.signExtend 64).toNat
    let v := (toLe 64 ((s.thread i).vr f.b.toNat).toNat)
    addr % 64 = 0 → s.leads i addr .wr = .drawer x → s.localAccess i x 64 true →
    ∃ t, exec (.vst i f) s = .next t ∧ wentOn s t i false ∧
      storedAt s t x ((List.range 64).map (fun k => if pbit ((s.thread i).pr f.m.toNat) k then v.getD k 0 else s.blk.mem.byte (x + k))))) ∧
  ((∀ (i : Issue) (f : FmtI) (s : State), f.b = 0 → f.t = 0 → f.z31 = 0 → f.m.toNat < 8 →
    s.ready i false [.g f.d.toNat, .g f.a.toNat] →
    let addr := ((s.thread i).gr f.a.toNat + f.imm.signExtend 64).toNat
    addr % 2 ^ (f.m.toNat % 4) ≠ 0 → exec (.ld i f) s = .next (s.raised i .align addr)) ∧
  (∀ (i : Issue) (f : FmtI) (s : State), f.d = 0 → f.t = 0 → f.z31 = 0 → f.m.toNat < 4 →
    s.ready i false [.g f.a.toNat, .g f.b.toNat] →
    let addr := ((s.thread i).gr f.a.toNat + f.imm.signExtend 64).toNat
    addr % 2 ^ f.m.toNat ≠ 0 → exec (.st i f) s = .next (s.raised i .align addr)) ∧
  (∀ (i : Issue) (f : FmtI) (s : State), f.b = 0 → f.t = 0 → f.z31 = 0 → f.m = 0 →
    s.ready i false [.v f.d.toNat, .g f.a.toNat] →
    let addr := ((s.thread i).gr f.a.toNat + f.imm.signExtend 64).toNat
    addr % 64 ≠ 0 → exec (.vld i f) s = .next (s.raised i .align addr)) ∧
  (∀ (i : Issue) (f : FmtI) (s : State), f.d = 0 → f.t = 0 → f.z31 = 0 → f.m.toNat < 8 →
    s.ready i false [.g f.a.toNat, .v f.b.toNat, .p f.m.toNat] →
    let addr := ((s.thread i).gr f.a.toNat + f.imm.signExtend 64).toNat
    addr % 64 ≠ 0 → exec (.vst i f) s = .next (s.raised i .align addr)))

/-- An instruction that waits for no unit of its core: a slot is free and no fence holds it. -/
def Sys2Proof.Machine.State.slotFree (s : State) (i : Issue) (wr : Bool) : Prop := s.blk.xferStall i.pos.toNat i.tid.toNat wr = false

/-- The next place in the core's issue order. -/
def Sys2Proof.Machine.State.seq (s : State) (i : Issue) : Nat := (s.blk.core i.pos.toNat).seq

/-- The state with a transfer in a slot of the core and the instruction done. -/
def Sys2Proof.Machine.State.queuedXfer (s : State) (i : Issue) (two : Bool) (x : Xfer) : State :=
  { s with blk := ((s.issued i).modCore i.pos.toNat (fun c => { c with seq := c.seq + 1, xfer := c.xfer ++ [x] })).retire i.pos.toNat i.tid.toNat two }

/-- R105 to R107, R81: LDB, STB, ASAVE and ARST of a resource that the thread owns take a transfer slot: LDB and STB of a block without and
with side bytes. -/
def Obligations.TransfersQueue : Prop :=
  (∀ (i : Issue) (f : FmtI) (s : State) (d : Nat) (sd : List (Nat × Nat)), f.z31 = 0 → f.d.toNat < 8 →
    s.ready i false [.g f.a.toNat, .g f.b.toNat] →
    let x := s.thread i
    let inst := (s.blk.instOfPos i.pos.toNat).getD 0
    let addr := (x.gr f.a.toNat + f.imm.signExtend 64).toNat
    let word := (x.gr f.b.toNat).toNat
    let nl := if f.m = 0 then 16 else 32
    let kb := 32 * (bits word 60 56 + 1)
    let len := 1024 * (f.m.toNat + 1)
    let fmt := (Fmt.ofCode f.t.toNat).getD .fp32
    ((s.blk.core i.pos.toNat).tile f.d.toNat).owner = some i.tid.toNat →
    (s.slotFree i false → f.m = 0 → f.b = 0 → f.t.toNat ∈ [0, 1, 2, 3, 10, 11] → s.blk.blockAt inst addr 4096 4096 .rd = .ok d →
      exec (.ldb i f) s = .next (s.queuedXfer i false
        { id := s.seq i, tid := i.tid.toNat, pc := x.pc.toNat, step := x.step, kind := .ldb f.d.toNat f.t.toNat 16 0,
          iaddr := addr, dpa := d, len := 4096, sides := [], word := 0 })) ∧
    (s.slotFree i false → f.m.toNat < 2 → f.b ≠ 0 → f.t.toNat ∈ [4, 5, 6, 7, 8, 9, 12] → bits word 63 61 = 0 →
      (f.t.toNat = 12 → kb % 256 = 0) → nl * kb * fmt.width / 8 ≤ 4096 → s.blk.blockAt inst addr 4096 4096 .rd = .ok d →
      s.blk.sideRanges inst word nl (sideBytes fmt kb) .rd = some sd →
      exec (.ldb i f) s = .next (s.queuedXfer i false
        { id := s.seq i, tid := i.tid.toNat, pc := x.pc.toNat, step := x.step, kind := .ldb f.d.toNat f.t.toNat nl word,
          iaddr := addr, dpa := d, len := 4096, sides := sd, word := word })) ∧
    (s.slotFree i true → f.m.toNat < 4 → f.t = 0 → f.b = 0 → s.blk.blockAt inst addr 4096 len .wr = .ok d →
      exec (.stb i f) s = .next (s.queuedXfer i false
        { id := s.seq i, tid := i.tid.toNat, pc := x.pc.toNat, step := x.step, kind := .stb f.d.toNat len none,
          iaddr := addr, dpa := d, len := len, sides := [], word := 0 })) ∧
    (s.slotFree i true → f.m.toNat < 4 → f.t = 0 → f.b ≠ 0 → bits word 63 56 = 0 → s.blk.blockAt inst addr 4096 len .wr = .ok d →
      s.blk.sideRanges inst word (16 * len / 512) 1 .wr = some sd →
      exec (.stb i f) s = .next (s.queuedXfer i false
        { id := s.seq i, tid := i.tid.toNat, pc := x.pc.toNat, step := x.step, kind := .stb f.d.toNat len (some word),
          iaddr := addr, dpa := d, len := len, sides := sd, word := word }))) ∧
  (∀ (i : Issue) (f : FmtM) (s : State) (d : Nat), f = { acc := f.acc, gx := f.gx } → s.ready i true [.g f.gx.toNat] →
    let x := s.thread i
    let inst := (s.blk.instOfPos i.pos.toNat).getD 0
    let addr := (x.gr f.gx.toNat).toNat
    ((s.blk.core i.pos.toNat).acc f.acc.toNat).owner = some i.tid.toNat →
    (s.slotFree i true → s.blk.blockAt inst addr 16384 16384 .wr = .ok d →
      exec (.asave i f) s = .next (s.queuedXfer i true
        { id := s.seq i, tid := i.tid.toNat, pc := x.pc.toNat, step := x.step, kind := .asave f.acc.toNat,
          iaddr := addr, dpa := d, len := 16384 })) ∧
    (s.slotFree i false → s.blk.blockAt inst addr 16384 16384 .rd = .ok d →
      exec (.arst i f) s = .next (s.queuedXfer i true
        { id := s.seq i, tid := i.tid.toNat, pc := x.pc.toNat, step := x.step, kind := .arst f.acc.toNat,
          iaddr := addr, dpa := d, len := 16384 })))

/-! ## Matrix instructions -/

/-- The state with a matrix instruction at the end of the core's queue and the instruction done. -/
def Sys2Proof.Machine.State.queuedMx (s : State) (i : Issue) (kind : MqKind) (f : FmtM) : State :=
  let x := s.thread i
  { s with blk := ((s.issued i).modCore i.pos.toNat (fun c => { c with seq := c.seq + 1, mq := c.mq ++
      [{ id := s.seq i, tid := i.tid.toNat, pc := x.pc.toNat, step := x.step, kind := kind, f := f,
         td := (x.gr f.gt.toNat).toNat, x := (x.gr f.gx.toNat).toNat,
         pair := kind == .mxst && s.blk.mxstPair i.pos.toNat f (x.gr f.gt.toNat).toNat }] })).retire i.pos.toNat i.tid.toNat true }

/-- R112 to R116: a matrix instruction whose operands the thread owns, of good formats and shape, enters a queue that is not full with the register values
it read at issue. R76, R117: ACLR clears an accumulator of the thread with no work queued on it, ASTAT reads its ACCST; MALLOC grants every named
resource or none, and returns the mask of those it was refused; MFREE releases the named resources that the thread owns and no other. -/
def Obligations.MatrixIssue : Prop :=
  (∀ (i : Issue) (f : FmtM) (s : State), s.blk.mqFull i.pos.toNat = false →
    let p := i.pos.toNat
    let t := i.tid.toNat
    let c := s.blk.core p
    let x := s.thread i
    let inst := (s.blk.instOfPos p).getD 0
    let word := (x.gr f.gx.toNat).toNat
    let td := (x.gr f.gt.toNat).toNat
    (s.ready i true [] → f.bad { acc := true, ta := true, tb := true, mx := true, we := true } = false → mxmCause c t f true = none →
      exec (.mxm i f) s = .next (s.queuedMx i .mxm f)) ∧
    (s.ready i true [] → f.bad { acc := true, tb := true, we := true } = false → f.tb.toNat % 2 = 0 →
      (c.tile f.tb.toNat).owner = some t → (c.tile (f.tb.toNat + 1)).owner = some t → (c.acc f.acc.toNat).owner = some t →
      exec (.mxaw i f) s = .next (s.queuedMx i .mxaw f)) ∧
    (s.ready i true [.g f.gt.toNat, .g f.gx.toNat] → c.fenced t true = false →
      f.bad { acc := true, ta := true, tb := true, mx := true, we := true, gt := true, gx := true } = false → mxPartBad f = false →
      destBad word = false → mxmCause c t f (decide (f.kx.toNat ≠ 0)) = none → s.blk.tdCause inst td = none →
      s.blk.destUnmapped inst word = false → exec (.mxms i f) s = .next (s.queuedMx i .mxms f)) ∧
    (s.ready i true [.g f.gt.toNat, .g f.gx.toNat] → c.fenced t false = false →
      f.bad { acc := true, ta := true, tb := true, mx := true, we := true, gt := true, gx := true } = false → mxPartBad f = false →
      s.blk.mxmrRefused inst p word = false → mxmCause c t f (decide (f.kx.toNat ≠ 0)) = none → s.blk.tdCause inst td = none →
      exec (.mxmr i f) s = .next (s.queuedMx i .mxmr f)) ∧
    (s.ready i true [.g f.gt.toNat] → c.fenced t false = false →
      f.bad { acc := true, tb := true, tout := true, gt := true } = false → (c.tile f.tb.toNat).owner = some t →
      (c.acc f.acc.toNat).owner = some t → s.blk.tdCause inst td = none →
      exec (.mxst i f) s = .next (s.queuedMx i .mxst f))) ∧
  (∀ (i : Issue) (f : FmtM) (s : State),
    let p := i.pos.toNat
    let t := i.tid.toNat
    let c := s.blk.core p
    (s.ready i true [] → f = { acc := f.acc } → c.busy (8 + f.acc.toNat) = false → (c.acc f.acc.toNat).owner = some t →
      exec (.aclr i f) s = .next { s with
        blk := ((s.issued i).modCore p (fun k => k.setAcc f.acc.toNat { owner := some t })).retire p t true }) ∧
    (s.ready i true [.g f.d.toNat] → f = { acc := f.acc, d := f.d } → c.busy (8 + f.acc.toNat) = false →
      (c.acc f.acc.toNat).owner = some t →
      exec (.astat i f) s = .next (s.ran i true (fun y => y.gw f.d.toNat (BitVec.ofNat 64 (c.acc f.acc.toNat).accst)))) ∧
    (s.ready i true [.g f.d.toNat] → f = { tbm := f.tbm, acm := f.acm, d := f.d } →
      let named := (List.range 12).filter (fun r => (f.tbm.toNat + 256 * f.acm.toNat).testBit r)
      let refused := named.filter (fun r => c.refuses t r)
      ∃ u, exec (.malloc i f) s = .next u ∧
        (u.thread i).gr f.d.toNat = (if f.d = 0 then 0 else BitVec.ofNat 64 (refused.foldl (fun a r => a + 2 ^ r) 0)) ∧
        (refused = [] → ∀ r, r < 12 → (u.blk.core p).resOwner r = if r ∈ named then some t else c.resOwner r) ∧
        (refused ≠ [] → ∀ r, (u.blk.core p).resOwner r = c.resOwner r) ∧ u.blk.mem = s.blk.mem) ∧
    (s.ready i true [] → f = { tbm := f.tbm, acm := f.acm } →
      let named := (List.range 12).filter (fun r => (f.tbm.toNat + 256 * f.acm.toNat).testBit r)
      ∃ u, exec (.mfree i f) s = .next u ∧ u.blk.mem = s.blk.mem ∧ wentOn s u i true ∧
        ∀ r, r < 12 → (u.blk.core p).resOwner r = if r ∈ named ∧ c.resOwner r = some t then none else c.resOwner r))

/-! ## Threads: mailboxes, atomics, locks, ordering, special registers -/

/-- R118: SEND of M = 1 gives its 8 bytes, and of M = 0 the first N + 1 words of vA, to the fabric as one MBX packet to a position of its instance; the
operation stays outstanding until SEND_ACCEPTED. R118, R385: MBRD of M = 0 reads and removes the oldest word of the core's mailbox: the word to gD,
VALID and END to gC, or 0 to both where no packet has arrived. With M = 1 it reads how many packets wait. -/
def Obligations.MailboxMessages : Prop :=
  (∀ (i : Issue) (f : FmtC) (s : State), f.d = 0 → f.c = 0 → f.z28 = 0 → f.z35 = 0 → f.zhi = 0 → f.m.toNat < 2 →
    (f.m = 0 → f.imm64 = 0) → (f.m = 1 → f.a = 0 ∧ f.n = 0) →
    s.ready i true ((if f.m = 0 then [.v f.a.toNat] else []) ++ [.g f.b.toNat]) →
    let p := i.pos.toNat
    let x := s.thread i
    let ep := (x.gr f.b.toNat).toNat
    let data := if f.m = 0 then (toLe 64 (x.vr f.a.toNat).toNat).take (8 * (f.n.toNat + 1)) else toLe 8 f.imm64.toNat
    (s.blk.core p).fenced i.tid.toNat true = false → ep < 2 ^ 18 →
    s.blk.ownerOf (bits ep 17 12) = some ((s.blk.instOfPos p).getD 0) →
    let id := s.seq i
    let s1 := (s.issued i).modCore p (fun c => { c with seq := c.seq + 1 })
    exec (.send i f) s = .next { s with
      blk := ((s1.addOp p i.tid.toNat { id := id, kind := .send, addr := 0 }).inject
        { vc := 3, kind := kMbx, dst := ep, src := p, len := f.n.toNat + 1, payload := data, note := some id }).retire p i.tid.toNat true }) ∧
  (∀ (i : Issue) (f : FmtC) (s : State), f = { d := f.d, a := 0, b := 0, c := f.c, n := 0, m := f.m, imm64 := 0 } →
    s.ready i true [.g f.d.toNat, .g f.c.toNat] → (s.blk.mb i.pos.toNat).waiting = [] →
    let p := i.pos.toNat
    let m := s.blk.mb p
    (f.m = 1 → f.c = 0 → exec (.mbrd i f) s = .next (s.ran i true (fun y => y.gw f.d.toNat (BitVec.ofNat 64 m.pkts)))) ∧
    (f.m = 0 → f.d ≠ f.c → ∃ t, exec (.mbrd i f) s = .next t ∧ t.blk.mb p = m.take.2 ∧ t.blk.mem = s.blk.mem ∧
      (t.thread i).pc = (s.thread i).pc + 16 ∧
      (∀ w, m.take.1 = some w →
        (t.thread i).gr f.d.toNat = (if f.d = 0 then 0 else BitVec.ofNat 64 w.data) ∧
        (t.thread i).gr f.c.toNat = (if f.c = 0 then 0 else if w.last then 3 else 1)) ∧
      (m.take.1 = none → (t.thread i).gr f.d.toNat = 0 ∧ (t.thread i).gr f.c.toNat = 0)))

/-- The checks that an atomic or a lock instruction on the word at DPA `x` of the thread's cluster passes. -/
def Sys2Proof.Machine.State.localWord (s : State) (i : Issue) (f : FmtI) (x : Nat) : Prop :=
  let addr := ((s.thread i).gr f.a.toNat + f.imm.signExtend 64).toNat
  addr % 8 = 0 ∧ s.leads i addr .rw = .drawer x ∧ s.localAccess i x 8 true ∧ s.blk.memWaits i.pos.toNat i.tid.toNat x 8 false = false ∧
  s.blk.tagRoom (posOfDpa x) ≠ 0

/-- The word at a DPA, least significant byte first. -/
def Sys2Proof.Machine.State.wordAt (s : State) (x : Nat) : Nat := leNat ((List.range 8).map (fun k => s.blk.mem.byte (x + k)))

/-- R120: AFADD, ASWAP and ACAS on a word of the thread's cluster: gD takes the old word, the word its new value, and every other byte of memory stays.
R145, R146: LKACQ on a free lock word of the thread's cluster takes it and returns OK; on one that the thread itself holds it returns LOCK_SELF and
leaves the word. LKREL by the holder clears HELD and returns OK; by any other thread it returns LOCK_NOT_HELD and leaves it. -/
def Obligations.AtomicsAndLocks : Prop :=
  (∀ (i : Issue) (f : FmtI) (s : State) (x : Nat), f.t = 0 → f.z31 = 0 →
    s.ready i false [.g f.d.toNat, .g f.a.toNat, .g f.b.toNat] → s.localWord i f x →
    let b := (s.thread i).gr f.b.toNat
    let d := (s.thread i).gr f.d.toNat
    let old := s.wordAt x
    let done := fun (c : Instr) (new : Nat) => ∃ t, exec c s = .next t ∧ storedAt s t x (toLe 8 new) ∧
      (t.thread i).pc = (s.thread i).pc + 8 ∧
      (∀ n, (t.thread i).gr n = if n = f.d.toNat ∧ n ≠ 0 then BitVec.ofNat 64 old else (s.thread i).gr n)
    (f.m = 0 → done (.afadd i f) ((old + b.toNat) % 2 ^ 64)) ∧ (f.m = 1 → done (.aswap i f) b.toNat) ∧
    (f.m = 2 → done (.acas i f) (if old = d.toNat then b.toNat else old))) ∧
  (∀ (i : Issue) (f : FmtI) (s : State) (x : Nat), f.b = 0 → f.t = 0 → f.z31 = 0 → f.m = 0 →
    s.ready i false [.g f.d.toNat, .g f.a.toNat] → s.localWord i f x →
    let p := i.pos.toNat
    let w := s.wordAt x
    let me := s.blk.holderOf p i.tid.toNat
    let done := fun (c : Instr) (st : Nat) (new : Nat) => ∃ t, exec c s = .next t ∧ storedAt s t x (toLe 8 new) ∧
      (t.thread i).pc = (s.thread i).pc + 8 ∧
      (∀ n, (t.thread i).gr n = if n = f.d.toNat ∧ n ≠ 0 then BitVec.ofNat 64 st else (s.thread i).gr n)
    (w % 4 = 0 → w < 2 ^ 52 → done (.lkacq i f) 0x0000 (me + 1)) ∧
    (w % 2 = 1 → w < 2 ^ 52 → bits w 35 2 = bits me 35 2 → done (.lkacq i f) 0x0201 w) ∧
    ((s.blk.core p).relSet i.tid.toNat (s.seq i) = [] →
      (w % 2 = 1 → bits w 35 2 = bits me 35 2 → done (.lkrel i f) 0x0000 (w - w % 4)) ∧
      (w % 2 = 0 ∨ bits w 35 2 ≠ bits me 35 2 → done (.lkrel i f) 0x0202 w)))

/-- R73, R84, R85, R123, R138: NOP, SRR, SRW, WAITB, COMMIT and FENCE. -/
def Obligations.ThreadInstructions : Prop :=
  ∀ (i : Issue) (f : FmtI) (s : State), f.t = 0 → f.z31 = 0 → f.b = 0 →
    let p := i.pos.toNat
    let x := s.thread i
    let a := x.gr f.a.toNat
    let target := a + f.imm.signExtend 64
    (s.ready i false [] → f.d = 0 → f.a = 0 → f.m = 0 → f.imm = 0 → exec (.nop i f) s = .next (s.ran i false id)) ∧
    (s.ready i false [] → f.d = 0 → f.a = 0 → f.m = 0 → f.imm = 0 →
      exec (.commit i f) s = .next { s with blk := ((s.ran i false id).blk.modTh p i.tid.toNat (fun y => { y with committing := true })) }) ∧
    (s.ready i false [.g f.d.toNat] → f.a = 0 → f.m = 0 →
      let read := fun (v : Word) => Host.Outcome.next (φ := Fault) (ρ := Refusal) (s.ran i false (fun y => y.gw f.d.toNat v))
      (f.imm = 0 → exec (.srr i f) s = read (i.tid.zeroExtend 64)) ∧ (f.imm = 1 → exec (.srr i f) s = read (i.pos.zeroExtend 64)) ∧
      (f.imm = 2 → exec (.srr i f) s = read (BitVec.ofNat 64 s.blk.time.beat)) ∧
      (f.imm = 3 → ∀ n, s.blk.ownerOf (regionOfPos p) = some n → exec (.srr i f) s = read (BitVec.ofNat 64 n)) ∧
      (f.imm = 8 → exec (.srr i f) s = read (x.fflags.zeroExtend 64))) ∧
    (s.ready i false [.g f.a.toNat] → f.d = 0 → f.m = 0 →
      (f.imm = 8 → exec (.srw i f) s = .next (s.ran i false (fun y => { y with fflags := a.setWidth 5 }))) ∧
      (f.imm ≠ 8 → exec (.srw i f) s = .next (s.raised i .illegalOp 0))) ∧
    (s.ready i false [.g f.a.toNat] → f.d = 0 → f.m = 0 →
      (target.toNat ≤ s.blk.time.beat → exec (.waitb i f) s = .next (s.ran i false id)) ∧
      (s.blk.time.beat < target.toNat → exec (.waitb i f) s =
        .next { s with blk := (s.ran i false id).blk.modTh p i.tid.toNat (fun y => { y with st := .waiting target }) })) ∧
    (s.ready i false [] → f.d = 0 → f.a = 0 → f.imm = 0 →
      let c := s.blk.core p
      let acq := c.acqSet i.tid.toNat c.seq
      let rel := c.relSet i.tid.toNat c.seq
      let held := fun (l : List Nat) (all : Bool) => Host.Outcome.next (φ := Fault) (ρ := Refusal)
        (s.ran i false (fun y => { y with fences := y.fences ++ [{ waits := l, all := all }] }))
      (f.m = 0 → exec (.fence i f) s = held acq true) ∧ (f.m = 1 → exec (.fence i f) s = held rel false) ∧
      (f.m = 2 → exec (.fence i f) s = held (acq ++ rel) true))

/-- R83: TSTART starts an IDLE thread of the same core in the starter's step with the PC of gA and the argument of gB; a thread that is not
IDLE raises THREAD_BUSY, a misaligned PC raises ALIGN. -/
def Obligations.ThreadStarts : Prop :=
  ∀ (i : Issue) (f : FmtI) (s : State), f.d = 0 → f.t = 0 → f.z31 = 0 → f.m = 0 → f.imm.toNat < 16 →
    s.ready i false [.g f.a.toNat, .g f.b.toNat] →
    let p := i.pos.toNat
    let x := s.thread i
    let n := f.imm.toNat
    let pc := x.gr f.a.toNat
    (pc.toNat % 8 = 0 → (s.blk.th p n).st = .idle → ∃ t, exec (.tstart i f) s = .next t ∧
      t.blk.th p n = { st := .running, g := [(1, x.gr f.b.toNat), (2, x.stepIdx)], pc := pc.setWidth 40, step := x.step, stepIdx := x.stepIdx } ∧
      (t.thread i).pc = x.pc + 8 ∧ (∀ k, k ≠ n → k ≠ i.tid.toNat → t.blk.th p k = s.blk.th p k) ∧ t.blk.mem = s.blk.mem) ∧
    (pc.toNat % 8 = 0 → (s.blk.th p n).st ≠ .idle → exec (.tstart i f) s = .next (s.raised i .threadBusy 0)) ∧
    (pc.toNat % 8 ≠ 0 → exec (.tstart i f) s = .next (s.raised i .align pc.toNat))

/-! ## What the units of a core finish -/

/-- The command answers the state whose device is `b` and whose waiting commands are those of `s`. -/
def Sys2Proof.Machine.State.gives (s : State) (c : Instr) (b : Blk) : Prop := exec c s = .next { s with blk := b }

/-- The command answers a state with the property `P`, and with the waiting commands of `s`. -/
def Sys2Proof.Machine.State.reaches (s : State) (c : Instr) (P : Blk → Prop) : Prop := ∃ t, exec c s = .next t ∧ t.pending = s.pending ∧ P t.blk

/-- The transfer in the slot is the only work of its core, nothing of its thread is outstanding, and its bytes are neither FLUSHING nor
uncorrectable, and it writes no drawer of another cluster. -/
def Sys2Proof.Machine.State.transfers (s : State) (pos : Pos) (slot : BitVec 2) (x : Xfer) : Prop :=
  (s.blk.core pos.toNat).xfer[slot.toNat]? = some x ∧ (s.blk.core pos.toNat).xfer = [x] ∧ (s.blk.core pos.toNat).mq = [] ∧
  (s.blk.th pos.toNat x.tid).ops = [] ∧ (s.blk.core pos.toNat).deliv = [] ∧ s.blk.bias = [] ∧ s.blk.mem.uncorr = [] ∧ x.sides = [] ∧
  x.putPkts pos.toNat (s.blk.core pos.toNat) = []

/-- The bytes of the tensor descriptor that a read-out goes by: those read already, or those in memory. -/
def Sys2Proof.Machine.Blk.tdIs (s : Blk) (p : Nat) (e : MqEntry) (l : List Byte) : Prop :=
  e.tdRead = some l ∨ (e.tdRead = none ∧ ∃ a, s.drawerRange ((s.instOfPos p).getD 0) e.td 32 .rd = some a ∧ s.mem.uncorr = [] ∧ l = s.mem.bytes a 32)

/-- R80, R112, R113, R114, R413: the head of the matrix queue ends. MXM and MXAW write their accumulator; MXST writes its tile; an MXMS without products
sends its tile and waits outside the queue for one acknowledgement per packet and destination. R115, R239, R240: the collective engine takes a
contribution to a round that its context accepts, and the MXMR finishes. One to a context that is not open is late. -/
def Obligations.MatrixOpsEnd : Prop :=
  (∀ (pos : Pos) (e : MqEntry) (rest : List MqEntry) (s : State),
    let p := pos.toNat
    let c := s.blk.core p
    let n := e.f.acc.toNat
    c.mq = e :: rest → c.xfer = [] →
    (∀ a, e.readout = false → (e.kind = .mxm ∧ mxmResult c e.f = .ok a) ∨ (e.kind = .mxaw ∧ mxawResult c e.f = .ok a) →
      s.reaches (.matrixOpDone pos .none) (fun t => (t.core p).mq = rest ∧ (t.core p).acc n = a ∧ t.mem = s.blk.mem ∧
        (∀ k, k ≠ n → (t.core p).acc k = c.acc k) ∧
        ∀ k, (c.tile k).owner ≠ none ∨ (c.tile k).valid = false → (t.core p).tile k = c.tile k)) ∧
    (e.readout = false → e.saved = none → e.kind ≠ .mxst → s.gives (.matrixOpDone pos .datapath)
      ((s.blk.popMq p).raiseExc p e.tid .datapath e.pc 0 none true)) ∧
    (∀ l d, e.kind = .mxst → s.blk.tdIs p e l → tdParse l = .ok d → d.fmt ≠ .w128 → 512 * e.f.tout.toNat + tileSize d.fmt ≤ 4096 →
      (c.tile e.f.tb.toNat).owner.isSome = true →
      let o := (c.acc n).readTile d
      let b := c.tile e.f.tb.toNat
      s.reaches (.readoutDone pos .none) (fun t => (t.core p).mq = rest ∧ t.mem = s.blk.mem ∧
        (t.core p).tile e.f.tb.toNat = { b with
          data := spliceAt b.data (512 * e.f.tout.toNat) o.data,
          side := if d.fmt.isMx then spliceAt b.side (16 * e.f.tout.toNat) o.scales else b.side, valid := true } ∧
        (t.core p).acc n = { (c.acc n) with ovf := (c.acc n).ovf || o.ovf, csat := (c.acc n).csat || o.csat })) ∧
    (∀ l d, e.kind = .mxms → e.f.kx = 0 → s.blk.tdIs p e l → tdParse l = .ok d →
      let o := (c.acc n).readTile d
      let pk := mxmsPackets p e.x e.id (o.data ++ o.scales)
      let k := (mxmsDests e.x).length
      bits e.x 58 38 + (o.data ++ o.scales).length ≤ 2 ^ 21 → pk.length ≤ s.blk.tagRoom p → s.blk.flowOpen p (bits e.x 29 0) 2 = true →
      s.reaches (.readoutDone pos .none) (fun t => (t.core p).mq = rest ∧ t.mem = s.blk.mem ∧
        (t.core p).deliv = c.deliv ++ [{ id := e.id, tid := e.tid, step := e.step, acks := k * pk.length, x := e.x }])) ∧
    s.reaches (.mxmsDelivered pos) (fun t => t.mem = s.blk.mem ∧
      (t.core p).deliv = c.deliv.filter (fun d => !(d.coll.isNone && d.acks == 0 && !d.bad)) ∧ (t.core p).mq = c.mq)) ∧
  (∀ (pos : Pos) (d : Deliv) (rest : List Deliv) (n tile : Nat) (data : List Byte) (s : State),
    let p := pos.toNat
    let x := s.blk.ctx n
    let r := s.blk.delivRound d
    (s.blk.core p).deliv = d :: rest → d.coll = some (n, tile, data) → rest.all (fun e => e.id != d.id) = true →
    (x.st = 0 ∨ r < x.rnd → s.gives (.mxmrStaged pos {})
      ((s.blk.modCore p (fun c => { c with deliv := rest })).count F.LATE_CONTRIB_CNT_COUNT)) ∧
    (x.st ≠ 0 → s.blk.instOfPos p = some x.inst → x.rnd ≤ r → r < x.rnd + x.nbufR → (x.round r).closed = false →
      (x.round r).contribs.all (fun c => !(c.tile == tile && c.pos == p)) = true →
      ((x.round r).contribs.filter (fun c => c.tile == tile)).length < x.ncont →
      s.reaches (.mxmrStaged pos {}) (fun t => (t.core p).deliv = rest ∧ (∀ a, a < stagingBase → t.mem.byte a = s.blk.mem.byte a) ∧
        ∃ j, j < x.ncont ∧ (x.round r).contribs.all (fun c => !(c.tile == tile && c.slot == j)) = true ∧
          ((t.ctx n).round r).contribs = (x.round r).contribs ++
            [{ pos := p, tile := tile, step := d.step, ser := (s.blk.core p).sser.toNat, slot := j, final := false }])))

/-- R81, R105, R107, R108: a transfer that ends leaves its slot. LDB fills its tile buffer from a good block of its cluster; STB stores the buffer's first
bytes; ASAVE stores the accumulator's image; ARST loads a valid image, and clears the accumulator with MX_SHAPE on an invalid one. R84, R118, R145,
R147, R418: accepted SENDs leave the thread; a COMMIT whose earlier work is done takes the thread to COMMITTED and may commit its step; a waiting
LKACQ that finds a free lock word of its cluster takes it with OK; a replayed step that waits for no move restarts. What is not yet due changes
nothing. -/
def Obligations.CoreWorkEnds : Prop :=
  (∀ (pos : Pos) (slot : BitVec 2) (x : Xfer) (s : State), s.transfers pos slot x →
    let p := pos.toNat
    let c := s.blk.core p
    let finish := fun (P : Blk → Prop) => s.reaches (.transferDone pos slot .none) (fun t => (t.core p).xfer = [] ∧ P t)
    (∀ a, x.kind = .asave a → finish (fun t => storedAt s { s with blk := t } x.dpa (c.acc a).image)) ∧
    (∀ n len side, x.kind = .stb n len side → (c.tile n).valid = true →
      finish (fun t => storedAt s { s with blk := t } x.dpa (slice (c.tile n).data 0 len))) ∧
    (∀ n len side, x.kind = .stb n len side → (c.tile n).valid = false →
      s.gives (.transferDone pos slot .none) ((s.blk.dropXfer p x.id).raiseExc p x.tid .tbInvalid x.pc 0)) ∧
    (∀ n f nl sd, x.kind = .ldb n f nl sd → remoteDpa p x.dpa = false →
      (s.blk.mem.check x.dpa = checkOfCrc (crc32c (s.blk.mem.bytes x.dpa 4096)) → s.blk.mem.check x.dpa ≠ poisonVal →
        finish (fun t => t.mem = s.blk.mem ∧ (t.core p).tile n =
          { (c.tile n) with data := s.blk.mem.bytes x.dpa 4096, valid := (c.tile n).owner.isSome })) ∧
      (s.blk.mem.check x.dpa = poisonVal → s.gives (.transferDone pos slot .none)
        (((s.blk.modCore p (fun c => c.setTile n { c.tile n with valid := false })).dropXfer p x.id).raiseExc p x.tid .poisoned x.pc x.iaddr))) ∧
    (∀ a, x.kind = .arst a → remoteDpa p x.dpa = false →
      (∀ b, accOfImage (s.blk.mem.bytes x.dpa 16384) (c.acc a).owner = some b → finish (fun t => t.mem = s.blk.mem ∧ (t.core p).acc a = b)) ∧
      (accOfImage (s.blk.mem.bytes x.dpa 16384) (c.acc a).owner = none → s.gives (.transferDone pos slot .none)
        (((s.blk.dropXfer p x.id).modCore p (fun c => c.setAcc a (c.acc a).clear)).raiseExc p x.tid .mxShape x.pc x.iaddr)))) ∧
  (∀ (pos : Pos) (tid : BitVec 4) (s : State),
    let p := pos.toNat
    let t := tid.toNat
    let x := s.blk.th p t
    (∀ o, x.ops = [o] → o.kind = .send → (s.blk.sendAcc.contains (p, o.id) = true → s.reaches (.sendAccepted pos tid) (fun u =>
        (u.th p t).ops = [] ∧ u.sendAcc = s.blk.sendAcc.filter (fun a => !(a.1 == p && a.2 == o.id)) ∧ u.mem = s.blk.mem)) ∧
      (s.blk.sendAcc.contains (p, o.id) = false → s.reaches (.sendAccepted pos tid) (fun u => (u.th p t).ops = [o] ∧ u.sendAcc = s.blk.sendAcc))) ∧
    (x.st = .running → x.committing = true → (s.blk.core p).quiet t = true →
      s.gives (.threadCommit pos tid) ((s.blk.modTh p t (fun y => { y with st := .committed, committing := false })).tryCommit x.step)) ∧
    ((s.blk.core p).quiet t = false → s.gives (.threadCommit pos tid) s.blk) ∧
    (∀ o d a, x.ops = [o] → o.kind = .lock d a true false → s.blk.reqs = [] → remoteDpa p a = false → s.blk.mem.uncorr = [] →
      s.wordAt a % 4 = 0 → s.wordAt a < 2 ^ 52 → s.reaches (.lockReevaluate pos tid .none) (fun u =>
        storedAt s { s with blk := u } a (toLe 8 (s.blk.holderOf p t + 1)) ∧ (u.th p t).ops = [] ∧
        ∀ n, (u.th p t).gr n = if n = d ∧ n ≠ 0 then 0 else x.gr n)) ∧
    (x.ops = [] → s.gives (.lockReevaluate pos tid .none) s.blk) ∧
    (∀ sid y, tblFind sid s.blk.steps = some y → (y.st = .replaying → y.waitMove = false → s.gives (.replayRestart sid) (s.blk.restartStep sid)) ∧
      (y.waitMove = true → s.gives (.replayRestart sid) s.blk)))

/-! ## The package fabric -/

/-- A stream packet that the fabric does not hold: one from outside the model's own traffic (the model's choice, log entry 102). -/
def Sys2Proof.Machine.State.fromOutside (s : State) (p : StreamPkt) : Prop := s.blk.flights.any (fun x => x.carries p) = false

/-- A stream packet passes the checks of its arrival (R175, R180, R422) and waits for nothing. -/
def Sys2Proof.Machine.State.admits (s : State) (p : StreamPkt) : Prop :=
  s.fromOutside p ∧ p.fmt = 0 ∧ p.kind < 14 ∧ (dstHub p.dst = true ∨ p.sys = true ∨ s.blk.ownerOf (regionOfPos (dstPos p.dst)) = some p.inst) ∧
  (p.vc = 1 ∨ srcHub p.src = true ∨
    p.pep = s.blk.epoch (clusterOfPos p.src) % (if p.kind = kWblk ∨ p.kind = kRblk then 128 else 256)) ∧
  s.blk.pktWaits p = false

/-- R173, R175, R188: a request at its drawer. RD, RDBLK and AMO answer with what the drawer holds; WR, DATA and WBLK write their payload and answer ACK
with status 0. Destination and source change places in the answer, TAG and the mark are copied. R173, R175, R188, R422: an answer ends the request
that its TAG names at its source: a load takes the data, an atomic the old word, a store leaves the thread, an MXMS delivery misses one
acknowledgement less, a remote STB or ASAVE likewise, a block read brings its block. One without a request is counted. A request that carries data
to a hub engine without memory is kept for the engine and acknowledged (the model's choice, log entry 102). -/
def Obligations.RequestsAndAnswers : Prop :=
  (∀ (p : StreamPkt) (s : State), s.admits p → atMemory p = true → s.blk.mem.uncorr = [] →
    let a := StreamPktDpa p
    let answer := fun (k st : Nat) (l : List Byte) => (
      { vc := 1, kind := k, dst := p.src * 16, src := p.dst / 16, inst := p.inst, sys := p.sys, cm := p.cm, tag := p.tag,
        len := l.length / 8, arg := st, payload := l } : StreamPkt)
    let stored := fun (c : Instr) (x : Nat) (l : List Byte) => s.reaches c (fun t => storedAt s { s with blk := t } x l)
    (s.gives (.rd p .none) (s.blk.inject (answer kRsp 0 (s.blk.mem.bytes a (8 * min p.len 8))))) ∧
    stored (.wr p) a ((List.range (p.payload.take 64).length).map (fun k =>
      if k / 8 + 1 < (p.payload.take 64).length / 8 ∨ (p.payload.take 64).length / 8 < k / 8 + 1 ∨ p.arg.testBit (k % 8)
      then p.payload.getD k 0 else s.blk.mem.byte (a + k))) ∧
    (let old := s.wordAt a
     let b := fieldAt p.payload 0 8
     (p.arg % 16 = 0 → stored (.amo p .none) a (toLe 8 (old + b))) ∧ (p.arg % 16 = 1 → stored (.amo p .none) a (toLe 8 b)) ∧
     (p.arg % 16 = 2 → stored (.amo p .none) a (toLe 8 (if old = fieldAt p.payload 8 8 then b else old)))) ∧
    (s.gives (.rdblk p .none) (s.blk.inject { answer kRblk 0 (s.blk.mem.bytes (a / 4096 * 4096) 4096) with
      len := 0, check := s.blk.mem.check (a / 4096 * 4096) })) ∧
    stored (.data p) a p.payload ∧
    (let l := slice p.payload 0 4096
     (p.check = checkOfCrc (crc32c l) → p.check ≠ poisonVal → stored (.wblk p) (a / 4096 * 4096) l) ∧
     (p.check ≠ checkOfCrc (crc32c l) → p.check ≠ poisonVal → s.gives (.wblk p) (s.blk.inject (answer kAck 1 []))))) ∧
  (∀ (p : StreamPkt) (s : State), s.admits p → atMemory p = false → [engDresser, engMove, engHcopy, engTt, 8, 9, 10, 11].contains (dstEngine p.dst) = true →
    ∀ c, c ∈ [(kWr, Instr.wr p), (kData, .data p), (kWblk, .wblk p)] → (p.kind = kWr ∨ p.vc = 2) → c.1 = p.kind →
      s.gives c.2 ({ s.blk with ctrlIn := s.blk.ctrlIn ++ [(p.dst, p.payload)] }.inject
        { vc := 1, kind := kAck, dst := p.src * 16, src := p.dst / 16, inst := p.inst, sys := p.sys, cm := p.cm, tag := p.tag })) ∧
  (∀ (p : StreamPkt) (s : State), s.admits p → s.blk.waitPkts = [] →
    let src := p.dst / 16
    let gone := fun (t : Blk) => tblFind (src, p.tag) t.reqs = none
    (tblFind (src, p.tag) s.blk.reqs = none →
      (s.gives (.rsp p) (s.blk.count F.REL_CNT_COUNT relCntDiscardRsp)) ∧ (s.gives (.ack p) (s.blk.count F.REL_CNT_COUNT relCntDiscardRsp)) ∧
      s.gives (.rblk p) (s.blk.count F.REL_CNT_COUNT relCntDiscardRsp)) ∧
    (∀ r t id o, tblFind (src, p.tag) s.blk.reqs = some r → r.kind = .op t id → r.answers = 1 → (s.blk.th src t).ops = [o] → o.id = id →
      p.arg % 256 = 0 →
      (∀ d, o.kind = .load d 3 false 0 → s.reaches (.rsp p) (fun u => gone u ∧ (u.th src t).ops = [] ∧ u.mem = s.blk.mem ∧
        ∀ n, (u.th src t).gr n = if n = d ∧ n ≠ 0 then BitVec.ofNat 64 (fieldAt p.payload 0 8) else (s.blk.th src t).gr n)) ∧
      (∀ d, o.kind = .atomic d → s.reaches (.rsp p) (fun u => gone u ∧ (u.th src t).ops = [] ∧ u.mem = s.blk.mem ∧
        ∀ n, (u.th src t).gr n = if n = d ∧ n ≠ 0 then BitVec.ofNat 64 (fieldAt p.payload 0 8) else (s.blk.th src t).gr n)) ∧
      (o.kind = .store → { s.blk with reqs := tblErase (src, p.tag) s.blk.reqs }.opInFlight src t id = false →
        s.reaches (.ack p) (fun u => gone u ∧ (u.th src t).ops = [] ∧ u.mem = s.blk.mem))) ∧
    (∀ r id d, tblFind (src, p.tag) s.blk.reqs = some r → r.kind = .deliv id → (s.blk.core src).deliv = [d] → d.id = id →
      s.reaches (.ack p) (fun u => u.mem = s.blk.mem ∧
        (u.core src).deliv = [{ d with acks := d.acks - 1, bad := d.bad || decide (p.arg % 256 ≠ 0) }])) ∧
    (∀ r t x, tblFind (src, p.tag) s.blk.reqs = some r → r.kind = .xfer t x.id → (s.blk.core src).xfer = [x] →
      s.reaches (.ack p) (fun u => u.mem = s.blk.mem ∧ (u.core src).xfer = [{ x with acks := x.acks - 1 }]) ∧
      s.reaches (.rblk p) (fun u => gone u ∧ u.mem = s.blk.mem ∧
        (u.core src).xfer = [{ x with got := some (slice p.payload 0 4096, p.check, p.note.isSome) }])))

/-- R144, R147, R175, R184, R385, R422: messages. MBX and NOTE enter the mailbox of the destination core once they fit; CTRL reaches its
endpoint; LKPROBE is answered with the holder's liveness; LKREPLY completes the evaluation that asked. A packet of another instance, of a
reserved kind or with an empty mask is discarded and counted. R169: a packet that the fabric holds is taken from the head of its last buffer, and then acts
as one that arrives; before that it does not arrive. -/
def Obligations.MessagesArrive : Prop :=
  ∀ (p : StreamPkt) (s : State),
    (s.admits p →
      let q := dstPos p.dst
      let m := s.blk.mb q
      let words := mbxWords p.payload
      (dstHub p.dst = false → m.waiting = [] → m.fits coreBank words = true →
        (p.note = none → s.gives (.mbx p) (s.blk.setMb q (m.put words))) ∧
        (∀ id, p.note = some id → s.gives (.mbx p)
          { s.blk.setMb q (m.put words) with sendAcc := s.blk.sendAcc ++ [(p.src, id)] }) ∧ s.gives (.note p) (s.blk.setMb q (m.put words))) ∧
      (dstHub p.dst = false → m.fits coreBank words = false → s.reaches (.note p) (fun t => (t.mb q).waiting = m.waiting ++ [[0, 0] ++ words] ∧
        (t.mb q).fill = m.fill ∧ (t.mb q).drain = m.drain)) ∧
      (dstHub p.dst = true → s.gives (.mbx p) { s.blk with ctrlIn := s.blk.ctrlIn ++ [(p.dst, p.payload)] }) ∧
      (p.mc ≠ 3 ∨ fieldAt p.payload 0 8 ≠ 0 → s.gives (.ctrl p) { s.blk with ctrlIn := s.blk.ctrlIn ++ [(p.dst, p.payload)] }) ∧
      (let w := fieldAt p.payload 0 8
       let live := s.blk.holderLive (bits w 15 2) (bits w 19 16) (bits w 35 20) (s.blk.ownerOf (regionOfPos p.src))
       s.gives (.lkprobe p) (s.blk.inject
         { vc := 3, kind := kLkreply, dst := p.src * 16, src := p.dst / 16, inst := p.inst, sys := p.sys, cm := p.cm, tag := p.tag,
           arg := if live then 1 else 0 })) ∧
      (∀ r dpa w pos tid id wait o d, tblFind (p.dst / 16, p.tag) s.blk.reqs = some r → r.kind = .probe dpa w pos tid id wait none →
        s.blk.waitPkts = [] → s.wordAt dpa = w → (s.blk.th pos tid).ops = [o] → o.id = id → o.kind = .lock d dpa wait false → w % 4 = 1 → w < 2 ^ 52 →
        bits w 35 2 ≠ bits (s.blk.holderOf pos tid) 35 2 → s.blk.mem.uncorr = [] →
        (p.arg.testBit 0 = false → s.reaches (.lkreply p) (fun t => storedAt s { s with blk := t } dpa (toLe 8 (s.blk.holderOf pos tid + 3)) ∧
          (t.th pos tid).ops = [] ∧ ∀ n, (t.th pos tid).gr n = if n = d ∧ n ≠ 0 then 0x0204 else (s.blk.th pos tid).gr n)) ∧
        (p.arg.testBit 0 = true → wait = true → s.reaches (.lkreply p) (fun t => t.mem = s.blk.mem ∧ (t.th pos tid).ops = [o])))) ∧
    (s.fromOutside p → p.fmt = 0 → p.kind < 14 → dstHub p.dst = false → p.sys = false → s.blk.ownerOf (regionOfPos (dstPos p.dst)) = none →
      ∀ c, c ∈ [Instr.rd p .none, .wr p, .amo p .none, .rdblk p .none, .rsp p, .ack p, .data p, .wblk p, .rblk p, .mbx p, .note p, .lkprobe p,
        .lkreply p] → s.gives c ((s.blk.count F.DROP_INST_CNT_COUNT).event .fab 0 2)) ∧
    (s.fromOutside p → p.fmt = 0 → 14 ≤ p.kind → s.gives (.data p) ((s.blk.count F.DROP_ROUTE_CNT_COUNT).event .fab 0 3)) ∧
    (s.fromOutside p → p.mc = 3 → fieldAt p.payload 0 8 = 0 → s.gives (.ctrl p) ((s.blk.count F.DROP_ROUTE_CNT_COUNT).event .fab 0 3)) ∧
    (∀ x, s.blk.heads.find? (fun x => x.place.final && x.carries p) = some x →
      let q := copyTo (x.dsts.getD 0 64) x.pkt
      let u : State := { s with blk := s.blk.unqueue x }
      u.fromOutside q →
      ∀ row, row ∈ [fun k => Instr.rd k .none, .wr, fun k => .amo k .none, fun k => .rdblk k .none, .data, .wblk, .mbx, .note, .ctrl, .lkprobe] →
        ∃ t, exec (row q) u = .next t ∧ s.gives (row p) t.blk.pump) ∧
    (¬ s.fromOutside p → s.blk.heads.find? (fun x => x.place.final && x.carries p) = none →
      ∀ c, c ∈ [Instr.rd p .none, .wr p, .amo p .none, .rdblk p .none, .rsp p, .ack p, .data p, .wblk p, .rblk p, .mbx p, .note p, .ctrl p, .lkprobe p,
        .lkreply p] → s.gives c s.blk)

/-- A package link end of the spec whose both regions are powered. -/
def Sys2Proof.Machine.State.linkAt (s : State) (e : Nat) : Prop := s.blk.linkPresent e = true

/-- No write of the function is held (R28). -/
def Sys2Proof.Machine.State.noHold (s : State) (fn : Nat) : Prop := (s.blk.fn fn).hold = none

/-- The bits of REGION_OK stay but for the regions that a link cuts off (R181). -/
def Sys2Proof.Machine.cutsOff (s t : Blk) (e : Nat) : Prop :=
  ∀ r, r < 64 → (t.reg .REGION_OK).toNat.testBit r = ((s.reg .REGION_OK).toNat.testBit r && !((cutOff e).contains r))

/-- R177, R178: the states of a package link end. Training takes it from DOWN to BASIC and starts a test of 64 packets; after the last of them the end
says how many were good (the moment is the model's choice, log entry 103). A passed test takes it to STREAM while STREAM_EN = 1; the third failed
test, or a time-out of a frozen end, takes it DOWN, and the regions cut off leave REGION_OK (R181); RECOVER and the fourth failed resend take it from
STREAM to BASIC. A packet whose CRC matches enters the input buffer of the end; one whose CRC does not is asked for again. R178, R189, R190, R196,
R197, R199: FAB_CTRL takes a write: with STREAM_EN 0 no end stays in STREAM, with 1 every end that has passed its test enters it; the rate law steps
each flow once a period; a sample shows a port's depths and peaks; DEV_ID takes a manager's write and keeps it in the battery domain; a control message
on a link reaches its endpoint or goes on along its route. R194, R195, R199: discovery. DISC_START begins a run with an empty set and no partner
PRESENT; a HELLO that waits on a port fills its NBR entry; an LSA joins the set once; while the run goes on HELLO_TIMER changes no set without a flood;
the expiry of the quiet time ends the run with this device numbered. -/
def Obligations.FabricManaged : Prop :=
  (∀ (e : Nat) (p : BasicPkt) (s : State),
    let l := s.blk.lnk e
    let now := fun (c : Instr) (P : LinkEnd → Prop) => s.reaches c (fun t => P (t.lnk e) ∧ t.mem = s.blk.mem ∧
      ∀ k, k ≠ e → (t.lnk k).st = (s.blk.lnk k).st)
    let downed := fun (c : Instr) => s.reaches c (fun t => (t.lnk e).st = .down ∧ t.mem = s.blk.mem ∧ cutsOff s.blk t e ∧
      ∀ k, k ≠ e → (t.lnk k).st = (s.blk.lnk k).st)
    (s.linkAt e → l.st = .down → now (.linkTrained e) (fun k => k.st = .basic ∧ k.fails = 0 ∧ k.good = 0)) ∧
    (l.st ≠ .down → s.gives (.linkTrained e) s.blk) ∧
    (l.st ≠ .down → l.bad = false → p.seq = l.good → p.seq ≠ 63 → s.gives (.ltest e p) (s.blk.modLnk e (fun k => { k with good := k.good + 1 }))) ∧
    (l.st ≠ .down → l.bad = false → p.seq = 63 → l.good = 63 → s.gives (.ltest e p)
      ((s.blk.modLnk e (fun k => { k with good := 64 })).emit (.basic e { fmt := 1, vc := 3, kind := 4, payload := toLe 24 64 }))) ∧
    (l.st ≠ .down → p.seq ≠ l.good → p.seq ≠ 63 → s.gives (.ltest e p) (s.blk.modLnk e (fun k => { k with bad := true }))) ∧
    (l.st = .basic → l.good = 64 → l.bad = false → fieldAt p.payload 0 1 = 64 →
      (s.blk.flag F.FAB_CTRL_STREAM_EN = true → now (.ltestEnd e p) (fun k => k.st = .stream ∧ k.froze = false)) ∧
      (s.blk.flag F.FAB_CTRL_STREAM_EN = false → now (.ltestEnd e p) (fun k => k.st = .basic ∧ k.passed = true ∧ k.fails = 0))) ∧
    (l.st = .basic → (l.good ≠ 64 ∨ l.bad = true ∨ fieldAt p.payload 0 1 ≠ 64) →
      (l.fails < 2 → now (.ltestEnd e p) (fun k => k.st = .basic ∧ k.fails = l.fails + 1)) ∧ (l.fails = 2 → downed (.ltestEnd e p))) ∧
    (l.st = .basic → l.passed = false →
      (l.froze = true → downed (.linkTestTimeout e)) ∧
      (l.froze = false → l.fails < 2 → now (.linkTestTimeout e) (fun k => k.st = .basic ∧ k.fails = l.fails + 1)) ∧
      (l.froze = false → l.fails = 2 → downed (.linkTestTimeout e))) ∧
    (l.st ≠ .basic ∨ l.passed = true → s.gives (.linkTestTimeout e) s.blk) ∧
    (l.st = .stream → now (.recover e) (fun k => k.st = .basic ∧ k.froze = true ∧ k.passed = false)) ∧
    (l.st ≠ .stream → s.gives (.recover e) s.blk) ∧
    (∀ (b : List Byte) (crc : BitVec 32), endPresent e = true →
      (l.st = .down → s.gives (.linkPacketRx e b crc) s.blk) ∧
      (l.st ≠ .down → crc32c b = crc → (b.getD 0 0).toNat % 4 ≠ 3 →
        let ok := s.blk.modLnk e (fun k => { k with resends := 0 })
        (s.blk.onWire e b = none → s.gives (.linkPacketRx e b crc) ok) ∧
        (∀ f, s.blk.onWire e b = some f → l.st = .stream → s.gives (.linkPacketRx e b crc) (ok.hopIn e f))) ∧
      (l.st ≠ .down → crc32c b = crc → (b.getD 0 0).toNat % 4 = 3 → s.gives (.linkPacketRx e b crc) (s.blk.linkErr e false)) ∧
      (l.st = .stream → crc32c b ≠ crc → 3 ≤ l.resends → now (.linkPacketRx e b crc) (fun k => k.st = .basic ∧ k.froze = true ∧ k.resends = 0)) ∧
      (l.st ≠ .down → crc32c b ≠ crc → l.resends < 3 → now (.linkPacketRx e b crc) (fun k => k.st = l.st ∧ k.resends = l.resends + 1)))) ∧
  (∀ (s : State), s.noHold 0 →
    (∀ v, v.toNat.testBit 0 = false → s.reaches (.streamEnWrite v) (fun t => (t.reg .FAB_CTRL).toNat = v.toNat % 2 ^ 11 ∧ t.mem = s.blk.mem ∧
      ∀ e l, tblFind e t.links = some l → (t.lnk e).st ≠ .stream)) ∧
    (∀ v, v.toNat.testBit 0 = true → s.reaches (.streamEnWrite v) (fun t => (t.reg .FAB_CTRL).toNat = v.toNat % 2 ^ 11 ∧ t.mem = s.blk.mem ∧
      ∀ e l, tblFind e s.blk.links = some l → l.st = .basic → l.passed = true → (t.lnk e).st = .stream)) ∧
    (s.blk.flights = [] → s.reaches (.rlPeriodUpdate none) (fun t => t.mem = s.blk.mem ∧ t.regs = s.blk.regs ∧ ∀ k f, tblFind k s.blk.flows = some f →
      ∃ g, tblFind k t.flows = some g ∧ g.a = 0 ∧ g.m = 0 ∧ g.tokens ≤ 8192 * 65536 ∧
        (f.a = 0 → g.rate = f.rate ∧ g.alpha = f.alpha) ∧
        (f.a ≠ 0 → f.m = 0 → g.rate = min (rlMax k.1) (f.rate + s.blk.getF F.RL_CFG_RL_AI * 65536)))) ∧
    (∀ port stall, port < 64 * 21 → s.reaches (.qdepthSample false port stall) (fun t => t.mem = s.blk.mem ∧
      t.getF F.QDEPTH_DEPTH port = s.blk.depths (.buf port) ∧
      t.getF F.QPEAK_PEAK port = maxBytes (s.blk.getF F.QPEAK_PEAK port) (s.blk.depths (.buf port)))) ∧
    (∀ port stall, port < 4 → s.reaches (.qdepthSample true port stall) (fun t => t.mem = s.blk.mem ∧
      t.getF F.HQDEPTH_DEPTH port = s.blk.depths (bufHub port) ∧
      t.getF F.HQPEAK_PEAK port = maxBytes (s.blk.getF F.HQPEAK_PEAK port) (s.blk.depths (bufHub port)))) ∧
    (∀ v, s.blk.disc.busy = false → v.toNat < 2 ^ 15 → bits v.toNat 14 13 = 3 → s.reaches (.devIdWrite v) (fun t =>
      (t.reg .DEV_ID).toNat = v.toNat ∧ (t.reg .BBR_WORD 1).toNat = v.toNat % 2 ^ 13)) ∧
    (∀ v, s.blk.disc.busy = false → v.toNat < 2 ^ 13 → s.reaches (.devIdWrite v) (fun t =>
      (t.reg .DEV_ID).toNat = v.toNat ∧ t.reg .BBR_WORD 1 = s.blk.reg .BBR_WORD 1)) ∧
    (∀ e p, (s.blk.lnk e).st ≠ .down →
      (basicNext e p = none → s.gives (.ctrlmsg e p) { s.blk with ctrlIn := s.blk.ctrlIn ++ [(p.dst, p.payload)] }) ∧
      (∀ k, basicNext e p = some k → (s.blk.lnk k).st ≠ .down → s.gives (.ctrlmsg e p) (s.blk.emit (.basic k p))))) ∧
  (∀ (s : State), s.noHold 0 →
    (∀ v, v.toNat.testBit 0 = true → s.reaches (.discStart v) (fun t => t.disc.busy = true ∧ t.disc.lsas = [] ∧
      t.disc.run = (s.blk.disc.run + 1) % 256 ∧ t.getF F.DISC_CTRL_QUIET = v.toNat / 2 ^ 16 ∧ ∀ l, l < 64 → t.flag F.NBR_INFO_PRESENT l = false)) ∧
    (∀ v, v.toNat.testBit 0 = false → s.reaches (.discStart v) (fun t => t.disc = s.blk.disc ∧ t.getF F.DISC_CTRL_QUIET = v.toNat / 2 ^ 16)) ∧
    (∀ l q u, l < 64 → s.blk.takeBasic l 1 = some (q, u) → s.blk.flag F.NBR_INFO_PRESENT l = false → s.reaches (.hello l) (fun t =>
      (t.reg .NBR_UID l).toNat = beAt q.payload 0 8 ∧ t.flag F.NBR_INFO_PRESENT l = true ∧ t.disc = u.disc)) ∧
    (∀ l, (s.blk.takeBasic l 1 = none → s.gives (.hello l) s.blk) ∧ (s.blk.takeBasic l 2 = none → s.gives (.lsa l) s.blk)) ∧
    (∀ l q u a, s.blk.takeBasic l 2 = some (q, u) → lsaOf q.payload = some a → s.blk.disc.busy = true → a.uid ≠ Config.fabUid.toNat →
      s.blk.disc.lsas = [] → s.reaches (.lsa l) (fun t => t.disc = { u.disc with lsas := [a] })) ∧
    (s.blk.disc.busy = true → s.reaches (.helloTimer false) (fun t => t.disc = s.blk.disc ∧ t.mem = s.blk.mem)) ∧
    (s.blk.disc.busy = false → (∀ b, s.gives (.helloTimer b) s.blk) ∧ s.gives .discQuietExpiry s.blk) ∧
    (s.blk.disc.busy = true → s.blk.disc.lsas = [] → s.blk.flag F.DEV_ID_VALID = false → s.reaches .discQuietExpiry (fun t =>
      t.disc.busy = false ∧ t.disc.finished = true ∧ t.flag F.DEV_ID_VALID = true ∧ t.getF F.DEV_ID_DEVNUM = 0 ∧ t.getF F.DEV_ID_ORIGIN = 2)))

/-! ## Fabric time and timetables -/

/-- R204, R205, R207: measured offsets move the time states. The eighth update in a row within LOCK_THR locks, the eighth outside it loses the lock; an
offset above STEP_THR makes NS jump; a slew sets a rate within SLEW_PPM, whose value the model leaves free (log entry 20). A source that falls silent
leads to HOLDOVER and, at its end, to LOST; SRC 0 leads to FREE. R203: a measurement of another port or domain is no update. R202, R208, R210, R211, R230: TT_SET loads NS in state FREE with no timetable RUNNING
or ARMED, and else raises its error event and loads nothing; BEAT_CFG and BEAT_EPOCH take a write under the same condition and recount the beats;
reading TT_TIME returns NS and captures FRAC; a whole second gives a pulse while OUT_EN = 1. -/
def Obligations.TimeKept : Prop :=
  (∀ (c : Instr) (off : Int) (s : State),
    ((∃ (l : BitVec 6) (dom : BitVec 8) (o : BitVec 64), c = .timeUpdate l dom o ∧ s.blk.timeSrc = 1 ∧ l.toNat = s.blk.getF F.TT_SRC_CFG_PTP_LPORT ∧
       dom.toNat = s.blk.getF F.TT_SRC_CFG_DOMAIN ∧ off = o.toInt) ∨
     (∃ l : BitVec 64, c = .ppsEdge l ∧ s.blk.timeSrc = 2 ∧
       let t : Int := (l.toNat : Int) - (s.blk.getF F.TT_PPS_CFG_IN_DELAY : Int)
       off = t - (t + 500000000) / 1000000000 * 1000000000)) →
    let thr := s.blk.getF F.TT_SERVO_LOCK_THR
    let big := s.blk.getF F.TT_SERVO_STEP_THR
    let t := s.blk.time
    let slewed := fun (P : TimeSt → Prop) => s.reaches c (fun u => P u.time ∧ u.time.srcPresent = true ∧ u.time.ns = t.ns ∧ u.mem = s.blk.mem ∧
      u.time.rate.natAbs ≤ s.blk.slewPpm * 65536)
    (off.natAbs ≤ big →
      (t.st = .acquiring → off.natAbs ≤ thr → 7 ≤ t.inRow → slewed (fun x => x.st = .locked)) ∧
      (t.st = .acquiring → off.natAbs ≤ thr → t.inRow < 7 → slewed (fun x => x.st = .acquiring ∧ x.inRow = t.inRow + 1)) ∧
      (t.st = .acquiring → thr < off.natAbs → slewed (fun x => x.st = .acquiring ∧ x.inRow = 0)) ∧
      (t.st = .locked → off.natAbs ≤ thr → slewed (fun x => x.st = .locked ∧ x.outRow = 0)) ∧
      (t.st = .locked → thr < off.natAbs → t.outRow < 7 → slewed (fun x => x.st = .locked ∧ x.outRow = t.outRow + 1)) ∧
      (t.st = .locked → thr < off.natAbs → 7 ≤ t.outRow → slewed (fun x => x.st = .acquiring)) ∧
      (t.st = .holdover ∨ t.st = .lost → slewed (fun x => x.st = .acquiring))) ∧
    (big < off.natAbs → t.st ≠ .free → s.blk.tts = [] → s.reaches c (fun u => u.time.ns = ((t.ns : Int) - off).toNat % 2 ^ 64 ∧
      u.time.srcPresent = true ∧ u.mem = s.blk.mem)) ∧
    (t.st = .locked ∨ t.st = .acquiring → s.reaches .timeSourceTimeout (fun u => u.time.st = .holdover ∧ u.time.srcPresent = false ∧
      u.time.ns = t.ns ∧ u.time.rate = t.rate ∧ u.holdMs = 0)) ∧
    (t.st = .holdover → s.reaches .holdoverExpiry (fun u => u.time.st = .lost ∧ u.time.ns = t.ns ∧ 1000 ≤ u.holdMs)) ∧
    (∀ (l : BitVec 6) (dom : BitVec 8) (o : BitVec 64),
      s.blk.timeSrc ≠ 1 ∨ l.toNat ≠ s.blk.getF F.TT_SRC_CFG_PTP_LPORT ∨ dom.toNat ≠ s.blk.getF F.TT_SRC_CFG_DOMAIN →
      s.gives (.timeUpdate l dom o) s.blk) ∧
    (t.st ≠ .holdover → s.gives .holdoverExpiry s.blk) ∧
    (s.noHold 0 → ∀ v, v.toNat % 4 = 0 → s.reaches (.srcWrite v) (fun u => u.time.st = .free ∧ u.time.ns = t.ns ∧
      (u.reg .TT_SRC_CFG).toNat = v.toNat % 2 ^ 18))) ∧
  (∀ (s : State), s.noHold 0 →
    let t := s.blk.time
    (∀ v : Word, t.st = .free → s.blk.activeTts = [] → s.reaches (.ttSetWrite v true) (fun u => u.time.ns = v.toNat ∧ u.time.frac = 0 ∧
      u.time.beat = s.blk.beatAt v.toNat ∧ u.regs = s.blk.regs)) ∧
    (∀ (v : Word) full, t.st ≠ .free ∨ s.blk.activeTts ≠ [] ∨ full = false → s.gives (.ttSetWrite v full) (s.blk.event .tt 0 5)) ∧
    (∀ v : BitVec 32, s.blk.activeTts = [] → 1 ≤ v.toNat → v.toNat ≤ 262140 → s.reaches (.ttBeatCfgWrite v) (fun u => u.beatQ = v.toNat ∧
      u.time.ns = t.ns ∧ u.time.beat = u.beatAt t.ns)) ∧
    (∀ v : BitVec 32, s.blk.activeTts ≠ [] → s.gives (.ttBeatCfgWrite v) (s.blk.event .tt 0 6)) ∧
    (∀ v : Word, s.blk.activeTts = [] → 1 ≤ s.blk.beatQ → s.blk.beatQ ≤ 262140 → s.reaches (.ttBeatEpochWrite v) (fun u =>
      u.beatEpoch = v.toNat ∧ u.time.ns = t.ns ∧ u.time.beat = u.beatAt t.ns)) ∧
    (∀ v : Word, s.blk.activeTts ≠ [] → s.gives (.ttBeatEpochWrite v) (s.blk.event .tt 0 6)) ∧
    (s.reaches .ttTimeRead (fun u => u.out = s.blk.out ++ [.regData t.ns] ∧ u.getF F.TT_TIME_FRAC_FRAC = t.frac % 2 ^ 16 ∧ u.time = t)) ∧
    (s.blk.flag F.TT_PPS_CFG_OUT_EN = true → s.gives .ppsOutPulse (s.blk.emit (.pps (max 1 (s.blk.getF F.TT_PPS_CFG_OUT_WIDTH))))) ∧
    (s.blk.flag F.TT_PPS_CFG_OUT_EN = false → s.gives .ppsOutPulse s.blk))

/-- The command is the oldest that Tutoby has accepted and not executed; `p` is its payload. Its instance, if it has one, is of the generation
of its acceptance. -/
def Sys2Proof.Machine.State.oldest (s : State) (c : CmdRef) (p : List Byte) (op : Nat) : Prop :=
  (∃ rest, s.blk.cmdq = (c, p) :: rest) ∧ c.opcode = op ∧ (c.inst = 0xFF ∨ s.blk.genOf c.inst = c.gen)

/-- The row executes that command: it leaves the accepted ones, replies with the status and the result words, and `P` holds. -/
def Sys2Proof.Machine.State.replies (s : State) (i : Instr) (c : CmdRef) (st : Status) (res : List Nat) (P : Blk → Prop) : Prop :=
  s.reaches i (fun t => t.cmdq = s.blk.cmdq.drop 1 ∧ P t ∧
    ∃ w, t.replies = s.blk.replies ++ [{ ref := c, words := w }] ∧ w.head? = some (st.code + c.opcode * 2 ^ 16) ∧ w.drop 3 = res)

/-- R85, R210, R220: a beat boundary takes fabric time to the next boundary and counts the beat; every WAITB thread whose target is reached runs again,
every other thread stays. A step in WAIT_INPUT whose inputs are met before its deadline enters RUNNING while its timetable runs and time is not LOST. Stated of boundaries with no timetable, step,
instance or offered slot, and with the PF in D0. R212, R217, R218: the timetable commands. TT_LOAD takes a good image into an EMPTY timetable;
TT_START arms a LOADED one for a beat far enough ahead; TT_STOP sets the stop beat; TT_UNLOAD empties a LOADED one, whose last TT_START and TT_STOP stay, and waits for the last step of a HALTED one. In another state each replies
BAD_DESC and changes nothing, and TT_STOP replies OK. -/
def Obligations.TimetablesRun : Prop :=
  (∀ (s : State),
    (s.blk.tts = [] → s.blk.steps = [] → s.blk.ins = [] → s.blk.clus = [] → s.blk.ft.wins = [] → (s.blk.fn 0).d3 = false →
      s.reaches .beatBoundary (fun t =>
      t.time.beat = s.blk.time.nextBeat ∧ t.time.nextBeat = s.blk.time.nextBeat + 1 ∧
      t.time.ns = max s.blk.time.ns (s.blk.boundaryNs s.blk.time.nextBeat) ∧ t.mem = s.blk.mem ∧
      ∀ p k, (∀ w, (s.blk.th p k).st = .waiting w → t.th p k = { s.blk.th p k with
          st := if w.toNat ≤ s.blk.time.nextBeat then .running else .waiting w }) ∧
        ((∀ w, (s.blk.th p k).st ≠ .waiting w) → t.th p k = s.blk.th p k))) ∧
    (∀ sid x, tblFind sid s.blk.steps = some x → x.st = .waitInput → x.job = none →
      (s.blk.time.beat < x.deadline → (s.blk.tt x.inst).st = .running → s.blk.time.st ≠ .lost → ((s.blk.tt x.inst).expects x.group).all (fun e => s.blk.expectOk x.inst x.k e) = true →
        s.gives (.stepInputMet sid) (s.blk.runStep sid)) ∧
      (x.deadline ≤ s.blk.time.beat ∨ (s.blk.tt x.inst).st ≠ .running ∨ s.blk.time.st = .lost → s.gives (.stepInputMet sid) s.blk))) ∧
  (∀ (c : CmdRef) (p : List Byte) (s : State),
    let i := c.inst
    let t := s.blk.tt i
    (s.oldest c p 0x20 →
      s.replies (.ttLoad none) c .hostFault [] (fun u => u.tt i = t) ∧
      ∀ l, let im := slice l 0 (fieldAt p 8 4)
        (t.st ≠ .empty → s.replies (.ttLoad (some l)) c .badDesc [] (fun u => u.tt i = t)) ∧
        (t.st = .empty → (s.blk.ttImage i im).ok = false → s.replies (.ttLoad (some l)) c .badDesc [] (fun u => u.tt i = t)) ∧
        (t.st = .empty → (s.blk.ttImage i im).ok = true → (s.blk.inst i).nTte < (s.blk.ttImage i im).entries.length →
          s.replies (.ttLoad (some l)) c .noResource [] (fun u => u.tt i = t)) ∧
        (t.st = .empty → (s.blk.ttImage i im).ok = true → (s.blk.ttImage i im).entries.length ≤ (s.blk.inst i).nTte →
          s.replies (.ttLoad (some l)) c .ok [] (fun u => (u.tt i).st = .loaded ∧ (u.tt i).image = im ∧
            (u.tt i).period = (s.blk.ttImage i im).period ∧ (u.tt i).groups = (s.blk.ttImage i im).groups ∧
            (u.tt i).entries = (s.blk.ttImage i im).entries))) ∧
    (s.oldest c p 0x21 →
      let b0 := fieldAt p 0 8
      (t.st ≠ .loaded → s.replies .ttStart c .badDesc [] (fun u => u.tt i = t)) ∧
      (t.st = .loaded → s.blk.time.st ≠ .free → s.blk.time.st ≠ .locked → s.replies .ttStart c .noTime [] (fun u => u.tt i = t)) ∧
      (t.st = .loaded → s.blk.time.st = .free ∨ s.blk.time.st = .locked → b0 ≤ s.blk.time.beat + 2 →
        s.replies .ttStart c .tooLate [] (fun u => u.tt i = t)) ∧
      (t.st = .loaded → s.blk.time.st = .free ∨ s.blk.time.st = .locked → s.blk.time.beat + 2 < b0 → s.replies .ttStart c .ok [] (fun u =>
        (u.tt i).st = .armed ∧ (u.tt i).b0 = b0 ∧ (u.tt i).nsteps = fieldAt p 8 8 ∧ (u.tt i).entries = t.entries))) ∧
    (s.oldest c p 0x22 →
      (t.st ≠ .armed → t.st ≠ .running → s.replies .ttStop c .ok [] (fun u => u.tt i = t)) ∧
      (t.st = .armed ∨ t.st = .running → s.blk.time.beat < fieldAt p 0 8 →
        s.replies .ttStop c .ok [] (fun u => u.tt i = { t with stopBeat := fieldAt p 0 8, lastStop := fieldAt p 0 8 }))) ∧
    (s.oldest c p 0x23 →
      (t.st = .loaded → s.replies .ttUnload c .ok [] (fun u => (u.tt i).st = .empty ∧ (u.tt i).entries = [] ∧ (u.tt i).b0 = t.b0 ∧
        (u.tt i).nsteps = t.nsteps ∧ (u.tt i).lastStop = t.lastStop)) ∧
      (t.st = .halted → s.blk.ttSteps i ≠ [] → s.reaches .ttUnload (fun u => u.tt i = { t with unloadWait := t.unloadWait ++ [c] } ∧
        u.replies = s.blk.replies)) ∧
      (t.st = .empty ∨ t.st = .armed ∨ t.st = .running → s.replies .ttUnload c .badDesc [] (fun u => u.tt i = t))))

/-! ## Collectives -/

/-- R233 to R238: the commands of collectives. COLL_OPEN with a good descriptor opens its slot with the blocks that it reserves; a refused host
read replies HOST_FAULT, a bad descriptor BAD_DESC, a slot or staging that is not free NO_RESOURCE. COLL_RUN asks for the next round of a HOST
context; COLL_CLOSE frees a context with no open round; COLL_MODE takes a write while the instance has no context. -/
def Obligations.CollectiveCommands : Prop :=
  ∀ (c : CmdRef) (p : List Byte) (s : State),
    let i := c.inst
    let b := s.blk
    (s.oldest c p 0x30 →
      (∀ pt, s.replies (.collOpen none pt) c .hostFault [] (fun t => t.ctxs = b.ctxs)) ∧
      (∀ l, s.replies (.collOpen (some l) none) c .hostFault [] (fun t => t.ctxs = b.ctxs)) ∧
      (∀ l pt, b.parseCtx i (slice l 0 128) pt = none → s.replies (.collOpen (some l) (some pt)) c .badDesc [] (fun t => t.ctxs = b.ctxs)) ∧
      (∀ l pt x, b.parseCtx i (slice l 0 128) pt = some x → fieldAt l 0 2 < 1024 →
        let k := x.reserve (!(b.collImplicit i))
        ((b.ctx (fieldAt l 0 2)).st ≠ 0 ∨ b.freeStaging.length < k ∨ (b.inst i).nColl ≤ (b.ctxsOf i).length →
          s.replies (.collOpen (some l) (some pt)) c .noResource [] (fun t => t.ctxs = b.ctxs)) ∧
        ((b.ctx (fieldAt l 0 2)).st = 0 → k ≤ b.freeStaging.length → (b.ctxsOf i).length < (b.inst i).nColl →
          b.collImplicit i = false ∨ (x.cgroup = 0 ∧ 0 < x.nlocal ∧ 0 < x.needed) →
          s.replies (.collOpen (some l) (some pt)) c .ok [] (fun t => t.ctx (fieldAt l 0 2) = { x with blocks := b.freeStaging.take k })))) ∧
    (s.oldest c p 0x31 →
      let n := fieldAt p 0 2
      (b.collImplicit i = true ∨ b.openFor n i = false → s.replies .collRun c .badDesc [] (fun t => t.ctxs = b.ctxs)) ∧
      (b.collImplicit i = false → b.openFor n i = true → s.replies .collRun c .ok [] (fun t =>
        (t.ctx n).runs = (b.ctx n).runs + 1 ∧ ((t.ctx n).round (b.ctx n).runs).asked = true ∧ (t.ctx n).st = 1))) ∧
    (s.oldest c p 0x32 →
      let n := fieldAt p 0 2
      (b.openFor n i = false → s.replies .collClose c .badDesc [] (fun t => t.ctxs = b.ctxs)) ∧
      (b.openFor n i = true → (b.ctx n).rounds = [] → s.replies .collClose c .ok [] (fun t => (t.ctx n).st = 0 ∧ (t.ctx n).blocks = [])) ∧
      (b.openFor n i = true → (b.ctx n).rounds.any (fun q => (b.ctx n).busy q.2) = true → s.reaches .collClose (fun t =>
        t.replies = b.replies ∧ t.ctx n = { b.ctx n with st := 2, closing := some c }))) ∧
    (∀ j v, s.noHold 0 → j < 64 → b.ctxsOf j = [] → s.reaches (.collModeWrite j v) (fun t => t.getF F.COLI_CFG_COLL_MODE j = v.toNat % 2 ∧ t.ctxs = b.ctxs)) ∧
    (∀ j v, s.noHold 0 → b.ctxsOf j ≠ [] → s.gives (.collModeWrite j v) b)

/-- R238, R241, R251: a HOST round that has been asked for closes its local part over its source tiles, which the hub reads and stages; the round of a
BARRIER of one device completes. While the hub's flows have no tokens it waits, and a region below PL0 is woken first (R189, R443, R444); where a read is
discarded the round never starts (R181). A timeout after the first contribution closes the local part of an IMPLICIT round without CGROUP; the round
timeout ends a closed round of a context with one open round. What is not due changes nothing. R246, R247: a segment for a context that this device has
not open, or of a round that it does not accept, is counted as dropped, one of a round that timed out as late (which of the two counts it is a choice of
the model, log entry 58); the segment that a step of the schedule expects joins its round, which then runs on. -/
def Obligations.CollectiveRounds : Prop :=
  (∀ (n r : Nat) (hw : CollHw) (s : State),
    let x := s.blk.ctx n
    let q := x.round x.rnd
    let ready := s.blk.power.dev ≠ 3 ∧ q.unread = false
    (x.st = 1 → x.nbufR = 1 → q.asked = true → q.closed = false →
      (x.op = opBarrier → ready → s.gives (.collRoundStart n hw) (((s.blk.markHw n x.rnd hw).closeLocal n x.rnd []).collRun n)) ∧
      (x.op = opBarrier → ready → x.ndev = 1 → x.alg ≠ 3 → x.flags = 0 → x.nrtile = 0 → x.rounds = [(x.rnd, { asked := true })] →
        s.blk.collImplicit x.inst = false → s.reaches (.collRoundStart n {}) (fun t => (t.ctx n).rnd = x.rnd + 1 ∧ (t.ctx n).st = 1 ∧
          t.mem = s.blk.mem)) ∧
      (x.nlocal = 1 → x.op ≠ opBarrier →
        let ps := s.blk.tilePieces x 0
        let g := s.blk.engineReads x.inst ps
        let k := (g.1.markHw n x.rnd hw).stageSource x x.rnd 0
        (ready → s.blk.engineTokens 0 ps = true → s.blk.awake ps = true → g.2 = true →
          s.gives (.collRoundStart n hw) ((k.1.closeLocal n x.rnd [k.2]).collRun n)) ∧
        (ready → s.blk.engineTokens 0 ps = true → s.blk.awake ps = true → g.2 = false →
          s.gives (.collRoundStart n hw) (g.1.modRound n x.rnd (fun q => { q with unread := true }))) ∧
        (q.unread = false → s.blk.engineTokens 0 ps = true → s.blk.power.dev = 3 ∨ s.blk.awake ps = false →
          s.gives (.collRoundStart n hw) (s.blk.wakeDevice.wakePieces ps)) ∧
        (s.blk.engineTokens 0 ps = false ∨ q.unread = true → s.gives (.collRoundStart n hw) s.blk))) ∧
    (x.nbufR = 1 → q.asked = false → s.gives (.collRoundStart n hw) s.blk) ∧
    (x.st ≠ 0 → s.blk.collImplicit x.inst = true → x.cgroup = 0 → x.isOpen r = true → (x.round r).closed = false →
      (x.round r).begun = true → s.gives (.collLocalCloseTimeout n r hw) (((s.blk.markHw n r hw).closeContribs n r).collRun n)) ∧
    ((x.round r).closed = true ∨ (x.round r).begun = false → s.gives (.collLocalCloseTimeout n r hw) s.blk) ∧
    ((x.round r).closed = false ∨ (x.round r).finished = true → s.gives (.collRoundTimeout n r) s.blk) ∧
    (x.st = 1 → x.nbufR = 1 → r = x.rnd → (∃ q, x.rounds = [(r, q)] ∧ q.closed = true ∧ q.finished = false ∧ q.lost = [] ∧ q.waitTiles = []) →
      s.blk.collImplicit x.inst = false → s.reaches (.collRoundTimeout n r) (fun t => (t.ctx n).rnd = r + 1 ∧ (t.ctx n).st = 1))) ∧
  (∀ (h : List Byte) (items : List (List Byte × Bool)) (hw : CollHw) (s : State),
    let b := s.blk
    let counted := fun (f : Fld) => (s.gives (.collSegmentData h items hw) (b.count f)) ∧ (s.gives (.collSegmentEnd h hw) (b.count f)) ∧
      s.gives (.collSegmentArrive h) (b.count f)
    (b.segCtx h = none → counted F.PEER_DROP_CNT_COUNT) ∧
    (∀ n, b.segCtx h = some n →
      let x := b.ctx n
      let d := (fieldAt h 4 4 + 2 ^ 32 - x.rnd % 2 ^ 32) % 2 ^ 32
      let y := x.round (x.rnd + d)
      let src := fieldAt h 10 2
      let step := fieldAt h 8 1
      let c := b.markHw n (x.rnd + d) hw
      (2 ^ 31 ≤ d → x.timedOut.any (fun r => r % 2 ^ 32 == fieldAt h 4 4) = false → counted F.PEER_DROP_CNT_COUNT) ∧
      (2 ^ 31 ≤ d → x.timedOut.any (fun r => r % 2 ^ 32 == fieldAt h 4 4) = true → counted F.LATE_CONTRIB_CNT_COUNT) ∧
      (d < 2 ^ 31 → x.nbufR ≤ d → counted F.PEER_DROP_CNT_COUNT) ∧
      (d < x.nbufR → d < 2 ^ 31 → y.flags.testBit 4 = false → y.finished = false →
        (x.op = opAlltoall → src < x.ndev → src ≠ x.rank → step = 0 → fieldAt h 9 1 = 1 → s.gives (.collSegmentEnd h hw)
          ((c.modRound n (x.rnd + d) (fun q => { q with ends := q.ends ++ [src] })).collRun n)) ∧
        (x.op = opAlltoall → src < x.ndev → src ≠ x.rank → step = 0 → fieldAt h 9 1 = 0 → s.gives (.collSegmentData h items hw)
          ((c.modRound n (x.rnd + d) (fun q => items.foldl (fun q e =>
            x.putRow q (fieldAt e.1 0 4) { data := slice e.1 4 x.rowLen, bad := e.2 }) q)).collRun n)) ∧
        (x.op ≠ opAlltoall → (∃ st ∈ x.steps b.ringMin, st.step % 256 = step ∧ ∃ l m, st.recv = some (src, l, m)) →
          (fieldAt h 9 1 = 0 → s.gives (.collSegmentData h items hw) ((c.modRound n (x.rnd + d) (fun q => { q with
            inbox := q.inbox ++ [{ step := step, kind := 0, src := src, first := fieldAt h 12 3,
                                   tiles := items.map (fun e => { data := slice e.1 0 x.tileLen, bad := e.2 }) }] })).collRun n)) ∧
          (fieldAt h 9 1 = 2 → s.gives (.collSegmentArrive h) ((b.modRound n (x.rnd + d) (fun q => { q with
            inbox := q.inbox ++ [{ step := step, kind := 2, src := src, first := 0, tiles := [] }] })).collRun n))))))

/-! ## Fyrrarel Transport -/

/-- R263, R264, R286, R323: the connection commands. FT_CONN_ALLOC gives a FREE connection its queues; FT_CONN_CONNECT takes an INIT one to RTS with its
peer, numbers and key slot; FT_CONN_CLOSE and FT_CONN_RESET return it to FREE, the close only once nothing is outstanding; the drain time-out
ends a DRAIN in ERROR. In another state each replies BAD_DESC and leaves the connection. -/
def Obligations.ConnectionCommands : Prop :=
  ∀ (c : CmdRef) (p : List Byte) (n : Nat) (s : State),
    let b := s.blk
    let i := b.inst c.inst
    let kept := fun (t : Blk) => t.ft.conns = b.ft.conns
    (s.oldest c p 0x40 →
      let q := fun (k : Nat) => i.qBase + fieldAt p (2 * k) 2
      let used := (b.ft.conns.filter (fun y => y.2.st != .free)).length
      let typed := fun (k ty : Nat) => fieldAt p (2 * k) 2 < i.qCount ∧ b.getF F.QCFG_TYPE (q k) = ty
      (¬ typed 0 qtFtSend → s.replies (.ftConnAlloc n) c .badDesc [] kept) ∧
      (typed 0 qtFtSend → typed 1 qtFtRecv → typed 2 qtCpl → typed 3 qtCpl → b.connOfSq (q 0) = none → b.connOfRq (q 1) = none →
        (i.nConn ≤ (b.connsOf c.inst).length ∨ 65536 ≤ used → s.replies (.ftConnAlloc n) c .noResource [] kept) ∧
        (n < 65536 → (b.conn n).st = .free → (b.connsOf c.inst).length < i.nConn → used < 65536 → s.replies (.ftConnAlloc n) c .ok [n] (fun t => t.conn n =
          { st := .init, inst := c.inst, gen := i.gen, sq := q 0, rq := q 1, scq := q 2, rcq := q 3 })))) ∧
    (s.oldest c p 0x41 → n = fieldAt p 0 2 →
      let x := b.conn n
      let dev := fieldAt p 2 2
      let b7 := fieldAt p 7 1
      let sl := i.sBase + fieldAt p 10 2
      (x.st ≠ .init ∨ x.inst ≠ c.inst → s.replies .ftConnConnect c .badDesc [] kept) ∧
      (x.st = .init → x.inst = c.inst → dev < 4096 → b.flag F.DEVRT_V dev = true → fieldAt p 6 1 ≤ 2 → b7 < 32 → fieldAt p 8 1 < 64 →
        fieldAt p 9 1 = 0 → fieldAt p 30 2 = 0xFFFF ∨ fieldAt p 30 2 < i.cCount →
        (b7.testBit 3 = true → fieldAt p 10 2 < i.sCount ∧ (b.slot sl).st = .loaded ∧ fieldAt p 20 4 ≠ fieldAt p 24 4 ∧ b.hutch.selfFail = false) →
        let pins := (b.ft.conns.filter (fun k => k.2.pin && k.2.st != .free)).length
        (b7.testBit 4 = true → min 8192 (b.getF F.FT_CFG_PIN_MAX) ≤ pins → s.replies .ftConnConnect c .noResource [] kept) ∧
        (b7.testBit 4 = false ∨ pins < min 8192 (b.getF F.FT_CFG_PIN_MAX) →
        s.replies .ftConnConnect c .ok [] (fun t => (t.conn n).st = .rts ∧ (t.conn n).pin = b7.testBit 4 ∧ (t.conn n).peerDev = dev ∧ (t.conn n).peerConn = fieldAt p 4 2 ∧
          (t.conn n).txDsn = fieldAt p 12 4 ∧ (t.conn n).ackDsn = fieldAt p 12 4 ∧ (t.conn n).cdsn = fieldAt p 16 4 ∧
          (t.conn n).pmtu = 1024 * 2 ^ fieldAt p 6 1 ∧ (t.conn n).enc = b7.testBit 3 ∧ (t.conn n).tc = b7 % 8 ∧
          (b7.testBit 3 = true → (t.slot sl).st = .bound ∧ (t.slot sl).conn = n))))) ∧
    (s.oldest c p 0x42 → n = fieldAt p 0 2 → (b.conn n).enc = false →
      let x := b.conn n
      let done := x.st = .init ∨ (x.st = .rts ∧ b.ft.reqs.any (fun r => r.conn == n) = false ∧ (b.queue x.sq).unchecked = 0 ∧ x.ackDsn = x.txDsn)
      (x.inst = c.inst → done → s.replies .ftConnClose c .ok [] (fun t => (t.conn n).st = .free)) ∧
      (x.inst = c.inst → x.st = .rts → x.ackDsn ≠ x.txDsn → s.reaches .ftConnClose (fun t => (t.conn n).st = .drain ∧
        (t.conn n).closing = [c] ∧ t.replies = b.replies)) ∧
      (x.inst ≠ c.inst ∨ x.st = .free ∨ x.st = .error → s.replies .ftConnClose c .badDesc [] kept)) ∧
    (s.oldest c p 0x43 → n = fieldAt p 0 2 → (b.conn n).enc = false →
      ((b.conn n).inst = c.inst → (b.conn n).st = .error → (b.conn n).closing = [] → s.replies .ftConnReset c .ok [] (fun t => (t.conn n).st = .free)) ∧
      ((b.conn n).inst ≠ c.inst ∨ (b.conn n).st ≠ .error → s.replies .ftConnReset c .badDesc [] kept)) ∧
    ((b.conn n).st = .drain → s.reaches (.ftDrainTimeout n) (fun t => (t.conn n).st = .error ∧ (t.conn n).errStatus = 0x0302 ∧ t.mem = b.mem)) ∧
    ((b.conn n).st ≠ .drain → s.gives (.ftDrainTimeout n) b)

/-- R269, R272, R273, R274, R277: the window, cancel and counter commands. FT_WIN_OPEN fills a free entry with the next KEY and replies its WTAG;
the entry is usable once that reply is written; FT_WIN_REVOKE shuts it at once and replies when every access classified against it has been
performed; FT_CANCEL takes back a request that has not started, be it queued in the ring (the ring's bytes are the command's operand: the model's
choice, log entry 110), fetched or waiting; FT_CNT_SET loads a receive counter. -/
def Obligations.WindowCommands : Prop :=
  ∀ (c : CmdRef) (p : List Byte) (n : Nat) (s : State),
    let b := s.blk
    let i := b.inst c.inst
    (s.oldest c p 0x44 →
      let used := (b.ft.wins.filter (fun w => w.2.v)).length
      let base := fieldAt p 0 8
      let len := fieldAt p 8 8
      let rt := fieldAt p 16 1
      let key := ((b.win n).key + 1) % 4096
      (len = 0 ∨ i.cCount ≤ fieldAt p 18 2 → s.replies (.ftWinOpen n) c .badDesc [] (fun t => t.ft.wins = b.ft.wins)) ∧
      (rt < 32 → fieldAt p 17 1 = 0 → fieldAt p 22 2 = 0 → 0 < len → len ≤ 2 ^ 35 → base < 2 ^ 40 → b.drawersOk c.inst base len none = true →
        (rt.testBit 0 = true → b.drawersOk c.inst base len (some .rd) = true) → (rt.testBit 1 = true → b.drawersOk c.inst base len (some .wr) = true) →
        (rt.testBit 2 = true → b.drawersOk c.inst base len (some .rw) = true) → fieldAt p 18 2 < i.cCount →
        (i.nWin ≤ (b.winsOf c.inst).length ∨ 2 ^ 20 ≤ used → s.replies (.ftWinOpen n) c .noResource [] (fun t => t.ft.wins = b.ft.wins)) ∧
        (n < 2 ^ 20 → (b.win n).v = false → (b.winsOf c.inst).length < i.nWin → used < 2 ^ 20 → s.replies (.ftWinOpen n) c .ok [key * 2 ^ 20 + n] (fun t => (t.win n).v = true ∧
          (t.win n).opening = some c ∧ (t.win n).key = key ∧ (t.win n).inst = c.inst ∧ (t.win n).base = base ∧ (t.win n).len = len ∧ (t.win n).rights = rt % 8 ∧
          (t.win n).expiry = if fieldAt p 24 8 = 0 then 2 ^ 64 - 1 else (b.time.beat + fieldAt p 24 8) % 2 ^ 64)))) ∧
    (s.oldest c p 0x45 → n = fieldAt p 0 4 % 2 ^ 20 →
      let w := b.win n
      (w.v = true → w.inst = c.inst → w.key = fieldAt p 0 4 / 2 ^ 20 → w.revoked = none → s.reaches .ftWinRevoke (fun t =>
        t.win n = { w with revoked := some c } ∧ t.replies = b.replies ∧ t.cmdq = b.cmdq.drop 1)) ∧
      (w.v = false ∨ w.inst ≠ c.inst ∨ w.key ≠ fieldAt p 0 4 / 2 ^ 20 → s.replies .ftWinRevoke c .badDesc [] (fun t => t.ft.wins = b.ft.wins))) ∧
    (∀ r, (b.win n).revoked = some r → b.winHeld n = false → s.reaches (.ftWinRevokeDone n) (fun t => (t.win n).v = false ∧
      (t.win n).revoked = none ∧ (t.win n).key = (b.win n).key)) ∧
    (b.winHeld n = true ∨ (b.win n).revoked = none → s.gives (.ftWinRevokeDone n) b) ∧
    (s.oldest c p 0x46 → n = fieldAt p 0 2 → ∀ ring,
      let x := b.conn n
      let ix := fieldAt p 2 2
      (x.st = .free ∨ x.inst ≠ c.inst → s.replies (.ftCancel ring) c .badDesc [] (fun t => t.ft.reqs = b.ft.reqs)) ∧
      (∀ r, x.st = .rts → x.inst = c.inst → b.ft.reqs = [r] → r.conn = n → r.idx = ix →
        (r.started = true → s.replies (.ftCancel ring) c .tooLate [] (fun t => t.ft.reqs = [r])) ∧
        (r.started = false → s.replies (.ftCancel ring) c .ok [] (fun t => t.ft.reqs = []))) ∧
      (x.st = .rts → x.inst = c.inst → b.ft.reqs = [] →
        (∀ e, (b.queue x.sq).entries = [e] → e.idx = ix → e.checked = false → e.completed = false → fieldAt e.data 8 2 = n →
          s.replies (.ftCancel ring) c .ok [] (fun t => t.ft.reqs = [])) ∧
        ((b.queue x.sq).entries = [] → b.ringHolds x.sq ix n ring = true → s.replies (.ftCancel ring) c .ok [] (fun t =>
          (t.queue x.sq).cancels = (b.queue x.sq).cancels ++ [ix])) ∧
        ((b.queue x.sq).entries = [] → b.ringHolds x.sq ix n ring = false → s.replies (.ftCancel ring) c .badDesc [] (fun t =>
          t.queues = b.queues)))) ∧
    (s.oldest c p 0x47 →
      (fieldAt p 2 2 = 0 → fieldAt p 0 2 < i.cCount → s.replies .ftCntSet c .ok [] (fun t =>
        t.getF F.FT_RCNT_COUNT (i.cBase + fieldAt p 0 2) = fieldAt p 4 4)) ∧
      (fieldAt p 2 2 ≠ 0 ∨ i.cCount ≤ fieldAt p 0 2 → s.replies .ftCntSet c .badDesc [] (fun t => t.regs = b.regs)))

/-- R266, R267, R270, R271, R272, R279, R280, R286: the sender at work. A good send entry becomes a request, and one cancelled in the ring does not;
a good receive entry is made available; an ARMED request fires when its counter reaches the value; a slice sends the next packet of the connection that
is ready, a response that waits before a new packet, and one that meets a parity failure of the header path is not transmitted; a context that arrives
enters the cache, in the place of another where it is full; the time-outs retransmit, resume and acknowledge, and RETRY_LIM of them in a row end in
ERROR. -/
def Obligations.SenderWorks : Prop :=
  ∀ (q n : Nat) (s : State),
    let b := s.blk
    let x := b.conn n
    (∀ e, b.getF F.QCFG_TYPE q = qtFtSend → b.nextUnchecked q = some e → (b.queue q).cancels.contains e.idx = true →
      s.reaches (.ftSend q) (fun t => t.ft.reqs = b.ft.reqs ∧ (t.queue q).cancels.contains e.idx = false)) ∧
    (∀ e r, b.getF F.QCFG_TYPE q = qtFtSend → b.nextUnchecked q = some e → (b.queue q).cancels.contains e.idx = false →
      (b.parseSend q e = none → s.gives (.ftSend q) ((b.sendEnds q e .badDesc).settleSq q)) ∧
      (b.parseSend q e = some r → (b.conn r.conn).st = .error → s.gives (.ftSend q) (b.sendEnds q e .flushed)) ∧
      (b.parseSend q e = some r → (b.conn r.conn).st ≠ .error → s.reaches (.ftSend q) (fun t => t.ft.reqs = b.ft.reqs ++ [r] ∧ t.mem = b.mem))) ∧
    (∀ e, b.getF F.QCFG_TYPE q = qtFtRecv → b.nextUnchecked q = some e → b.connOfRq q = some n → x.st ≠ .error →
      allZero (slice e.data 8 4) = true → allZero (slice e.data 24 40) = true →
      (b.drawersOk x.inst (fieldAt e.data 16 8) (fieldAt e.data 12 4) (some .wr) = true → s.reaches (.ftRecv q) (fun t =>
        t.ft.recvs = b.ft.recvs ++ [(q, e.idx, fieldAt e.data 16 8, fieldAt e.data 12 4)] ∧ t.mem = b.mem)) ∧
      (b.drawersOk x.inst (fieldAt e.data 16 8) (fieldAt e.data 12 4) (some .wr) = false →
        s.gives (.ftRecv q) (b.recvDone n q e.idx .badDesc 0 none))) ∧
    (∀ r, b.ft.reqs = [r] →
      (b.armedMet r = true → s.reaches (.ftArmedFire r.q r.idx) (fun t => t.ft.reqs = [{ r with armed := none }])) ∧
      (b.armedMet r = false → s.gives (.ftArmedFire r.q r.idx) b) ∧
      (∀ lose, b.ft.conns = [(n, x)] → b.nextOut n = none → b.nextNew n = some r → b.ft.cache.contains n = true → x.inst < 64 →
        b.flag F.LP_CFG_LP_EN x.lport = true → b.mem.uncorr = [] → (b.engineReads x.inst (b.srcPieces r r.sent)).2 = true →
        s.reaches (.ftTxSlice lose) (fun t => t.mem = b.mem ∧ (t.conn n).txDsn = dsnAdd x.txDsn 1 ∧
          (t.conn n).txPsn = (x.txPsn + 1) % 2 ^ 64 ∧ (lose = true → t.lports = b.lports) ∧
          ∃ r', t.ft.reqs = [r'] ∧ r'.started = true ∧ r'.sent = r.sent + 1))) ∧
    (∀ e o rest, b.ft.conns = [(n, x)] → x.rcache = [e] → e.packet 0 = some o → b.nextOut n = some (.resp e.dsn 0) → x.out = .resp e.dsn 0 :: rest →
      b.ft.cache.contains n = true → x.inst < 64 → b.flag F.LP_CFG_LP_EN x.lport = true → b.srcWaits n = [] → s.reaches (.ftTxSlice false) (fun t =>
        t.mem = b.mem ∧ (t.conn n).txDsn = x.txDsn ∧ (t.conn n).txPsn = (x.txPsn + 1) % 2 ^ 64 ∧ (t.conn n).out = rest.filter (fun y => b.outHeld n y))) ∧
    ((∀ c ∈ b.ft.conns, b.txReady c.1 = false) → ∀ lose, s.gives (.ftTxSlice lose) (b.wakePieces (b.ft.conns.flatMap (fun p => b.srcWaits p.1)))) ∧
    (b.ft.fetching.contains n = true → b.ft.cache.length < 8192 → ∀ e, s.reaches (.ftCtxFetchDone n e) (fun t =>
      t.ft.cache = b.ft.cache ++ [n] ∧ t.ft.fetching = b.ft.fetching.filter (fun d => d ≠ n))) ∧
    (∀ e, b.ft.fetching.contains n = true → b.ft.cache.length = 8192 → b.ft.cache.contains e = true → (b.conn e).pin = false →
      s.reaches (.ftCtxFetchDone n e) (fun t => t.ft.cache = b.ft.cache.filter (fun d => d ≠ e) ++ [n])) ∧
    (b.ft.fetching.contains n = false → ∀ e, s.gives (.ftCtxFetchDone n e) b) ∧
    (∀ d, x.st = .rts → x.rnrWait = false → b.oldestDsn n = some d →
      (x.timeouts + 1 < max 1 (b.getF F.FT_RETRY_CFG_RETRY_LIM) → s.reaches (.ftRtoExpiry n) (fun t => (t.conn n).timeouts = x.timeouts + 1)) ∧
      (max 1 (b.getF F.FT_RETRY_CFG_RETRY_LIM) ≤ x.timeouts + 1 → x.enc = false → s.reaches (.ftRtoExpiry n) (fun t =>
        (t.conn n).st = .error ∧ (t.conn n).errStatus = 0x0401))) ∧
    (b.oldestDsn n = none → s.gives (.ftRtoExpiry n) b) ∧
    (∀ y, x.rnrWait = true → x.rnr = some y → s.reaches (.ftRnrDelayExpiry n) (fun t => (t.conn n).rnrWait = false)) ∧
    (x.rnrWait = false → s.gives (.ftRnrDelayExpiry n) b) ∧
    (b.mayTx n = true → 0 < x.placed → s.reaches (.ftAckDelayExpiry n) (fun t => (t.conn n).placed = 0 ∧ (t.conn n).npkt = 0 ∧ t.mem = b.mem)) ∧
    (x.placed = 0 ∨ b.mayTx n = false → s.gives (.ftAckDelayExpiry n) b)

/-- `f` is the port's next frame for the Dresser, which is enabled, on an unencrypted connection in RTS whose context is cached, and it passes
the checks of R260. -/
def Sys2Proof.Machine.State.takes (s : State) (l : Nat) (f : FtRx) (opc : Nat) : Prop :=
  (∃ i, s.blk.ftNext l = some (i, f)) ∧ s.blk.flag F.FT_CTRL_EN = true ∧ f.opc = opc ∧ (s.blk.conn f.conn).st = .rts ∧
  s.blk.ft.cache.contains f.conn = true ∧ (s.blk.conn f.conn).matches f = true ∧ (s.blk.conn f.conn).enc = false ∧ crcGood f = true ∧
  (s.blk.conn f.conn).psnOk (beAt f.fth 12 8) = true

/-- That frame is one whole message of the next DSN, with no block check, no pad and no poison. -/
def Sys2Proof.Machine.State.takesWhole (s : State) (l : Nat) (f : FtRx) (opc : Nat) : Prop :=
  let x := s.blk.conn f.conn
  let h := f.pkt false
  s.takes l f opc ∧ h.dsn = x.cdsn ∧ x.held = [] ∧ x.msg = none ∧ x.rcache = [] ∧ h.first = true ∧ h.last = true ∧ h.blk = false ∧ h.pad = 0 ∧
  h.check = 0 ∧ s.blk.mem.uncorr = []

/-- A write of the Dresser for an instance goes at once: no granule of the range is in FLUSHING, no region of it is below PL0, and no packet of it
is discarded (R180, R181, R344, R443). -/
def Sys2Proof.Machine.Blk.writesNow (b : Blk) (i a n : Nat) : Prop :=
  b.awake [(a, n)] = true ∧ (b.engineWrites i [(a, n)]).2 = true

/-- R260, R267, R268, R275, R279, R281, R282: a whole message in DSN order on an unencrypted connection. WRITE and WRITE_IMM place their bytes in the
window, SEND in the receive entry's buffer; READ_REQ and ATOMIC are kept for their response, ATOMIC with the new word written; CDSN moves on. An
access that the window refuses takes the connection to ERROR and writes nothing; one whose destination is in FLUSHING or below PL0 waits (R344, R443);
a packet that meets a parity failure of the header path is discarded (R415). R268, R280, R282, R283, R284: what comes back to the sender on an
unencrypted connection. READ_RESP and ATOMIC_RESP place their bytes at LADDR; an ACK moves the acknowledged DSN and ends the requests that it covers;
NAK_SEQ and NAK_CHECK cause retransmission, NAK_BUSY a delay; a fatal NAK takes the connection to ERROR with the status that it names. -/
def Obligations.PacketsPlaced : Prop :=
  (∀ (l : Nat) (cm : Bool) (f : FtRx) (s : State),
    let b := s.blk
    let h := f.pkt false
    let c := f.conn
    let x := b.conn c
    let n := h.data.length
    let ro := beAt h.body 4 8
    let win := fun (len right : Nat) => b.classify c f.beat (beAt h.body 0 4) ro len right
    let past := fun (t : Blk) => (t.conn c).cdsn = dsnAdd h.dsn 1
    (∀ ix w a, s.takesWhole l f 2 → win n 1 true = .pass ix w → msgLenOk h { opc := 2, mlen := beAt h.body 12 4 } x = true →
      b.drawerPieces x.inst (w.base + ro) n .wr = some [(a, n)] →
      (b.writesNow x.inst a n → s.reaches (.write l cm .none) (fun t => storedAt s { s with blk := t } a h.data ∧ past t)) ∧
      (b.awake [(a, n)] = false → s.reaches (.write l cm .none) (fun t => t.mem = b.mem ∧ (t.conn c).cdsn = x.cdsn ∧
        (t.conn c).held = [{ h with win := some (.pass ix w) }]))) ∧
    (∀ e, s.takesWhole l f 2 → b.flag F.LP_CFG_LP_EN x.lport = true → win n 1 true = .refuse e → s.reaches (.write l cm .none) (fun t =>
      t.mem = b.mem ∧ (t.conn c).st = .error ∧ (t.conn c).errStatus = (nakStatus e).code)) ∧
    (∀ ix w a k, s.takesWhole l f 3 → win n 1 true = .pass ix w → msgLenOk h { opc := 3, mlen := beAt h.body 12 4 } x = true →
      b.drawerPieces x.inst (w.base + ro) n .wr = some [(a, n)] → b.writesNow x.inst a n → b.ft.recvs = [(x.rq, k)] →
      s.reaches (.writeImm l cm .none) (fun t => storedAt s { s with blk := t } a h.data ∧ past t ∧ t.ft.recvs = [])) ∧
    (∀ idx addr len a, s.takesWhole l f 1 → beAt h.body 4 4 = 0 → msgLenOk h { opc := 1, mlen := beAt h.body 0 4 } x = true →
      b.ft.recvs = [(x.rq, idx, addr, len)] → beAt h.body 0 4 ≤ len → b.drawerPieces x.inst addr n .wr = some [(a, n)] → b.writesNow x.inst a n →
      s.reaches (.ftSendPacket l cm .none) (fun t => storedAt s { s with blk := t } a h.data ∧ past t ∧ t.ft.recvs = [])) ∧
    (∀ ix w, s.takesWhole l f 4 → b.ft.conns = [(c, x)] → h.body.length = 16 → 0 < beAt h.body 12 4 → beAt h.body 12 4 ≤ 65536 →
      win (beAt h.body 12 4) 0 true = .pass ix w → b.respPool + beAt h.body 12 4 ≤ 25165824 →
      let src := (cutsOf x.pmtu (beAt h.body 12 4)).flatMap (fun p => (b.drawerPieces x.inst (w.base + ro + p.1) p.2 .rd).getD [])
      b.awake src = true → (b.engineReads x.inst src).2 = true →
      s.reaches (.readReq l cm .none) (fun t => t.mem = b.mem ∧ past t ∧
        ∃ e, (t.conn c).rcache = [e] ∧ e.dsn = h.dsn ∧ e.atomic = false)) ∧
    (∀ ix w a, s.takesWhole l f 6 → h.body.length = 32 → beAt h.body 12 1 ≤ 1 → ro % 8 = 0 → win 8 2 true = .pass ix w →
      b.drawerPieces x.inst (w.base + ro) 8 .rw = some [(a, 8)] → b.awake [(a, 8)] = true → (b.engineReads x.inst [(a, 8)]).2 = true →
      let old := s.wordAt a
      s.reaches (.atomic l cm .none) (fun t => past t ∧ (t.conn c).rcache = [{ dsn := h.dsn, atomic := true, old := old }] ∧
        storedAt s { s with blk := t } a (toLe 8 (if beAt h.body 12 1 = 1 then (if old = beAt h.body 24 8 then beAt h.body 16 8 else old)
          else old + beAt h.body 16 8)))) ∧
    (∀ k ∈ [(1, Instr.ftSendPacket l cm .header), (2, .write l cm .header), (3, .writeImm l cm .header), (4, .readReq l cm .header),
        (5, .readResp l .header), (6, .atomic l cm .header), (7, .atomicResp l .header)], s.takes l f k.1 → ∀ i, b.ftNext l = some (i, f) →
      s.gives k.2 ((b.rxTake l i f.tc).hubFault 0))) ∧
  (∀ (l : Nat) (f : FtRx) (s : State),
    let b := s.blk
    let h := f.pkt false
    let c := f.conn
    let x := b.conn c
    let n := h.data.length
    let cd := beAt h.body 0 4
    let syn := beAt h.body 4 1
    let err := fun (i : Instr) (code : Nat) => s.reaches i (fun t => (t.conn c).st = .error ∧ (t.conn c).errStatus = code)
    (∀ r a, s.takes l f 5 → b.ft.reqs = [r] → b.reqOfDsn c h.dsn = some r → r.wrt = .read → r.got = [] → r.pad = 0 → r.failed = [] →
      h.blk = false → h.check = 0 → b.mem.uncorr = [] →
      let o := dsnSub h.dsn r.dsn * 65536 + beAt h.body 0 4
      0 < n → o + n ≤ r.len → b.drawerPieces x.inst (r.laddr + o) n .wr = some [(a, n)] → b.writesNow x.inst a n →
      s.reaches (.readResp l .none) (fun t => storedAt s { s with blk := t } a h.data)) ∧
    (∀ r a, s.takes l f 7 → b.ft.reqs = [r] → b.reqOfDsn c h.dsn = some r → r.wrt = .atomic → r.failed = [] → b.mem.uncorr = [] →
      b.drawerPieces x.inst r.laddr 8 .wr = some [(a, 8)] →
      (b.writesNow x.inst a 8 → s.reaches (.atomicResp l .none) (fun t =>
        storedAt s { s with blk := t } a (toLe 8 (beAt h.body 0 8)) ∧ t.ft.reqs = [])) ∧
      (b.awake [(a, 8)] = false → s.reaches (.atomicResp l .none) (fun t => t.mem = b.mem ∧ t.ft.reqs = [r] ∧ (t.conn c).rheld = x.rheld ++ [h]))) ∧
    (s.takes l f 8 →
      (syn = 0 → dsnSub cd x.ackDsn ≤ dsnSub x.txDsn x.ackDsn → s.reaches (.ftAck l .none) (fun t => (t.conn c).ackDsn = cd ∧
        (t.conn c).flow.a = x.flow.a + beAt h.body 6 2 ∧ (t.conn c).flow.m = x.flow.m + beAt h.body 8 2)) ∧
      (∀ r, syn = 0 → dsnSub cd x.ackDsn ≤ dsnSub x.txDsn x.ackDsn → b.ft.reqs = [r] → r.conn = c → r.started = true → r.wrt = .write →
        r.failed = [] → r.sent = (r.packets x.pmtu).length → cd = dsnAdd r.dsn r.sent → s.reaches (.ftAck l .none) (fun t => t.ft.reqs = [])) ∧
      (syn = 1 → (∀ r ∈ b.ft.reqs, r.dsn < 2 ^ 32) → s.reaches (.nakSeq l .none) (fun t =>
        let y := t.conn c
        let top := y.sack.foldl (fun m d => max m (dsnSub d y.ackDsn)) 0
        let lost := ((List.range top).map (fun i => dsnAdd y.ackDsn i)).filter (fun d => !(y.sack.contains d) && !(x.resent.contains d))
        (∀ d, d ∈ y.resent ↔ d ∈ lost ∧ (t.reqOfDsn c d).isSome = true) ∧
        ∀ d r, d ∈ lost → t.reqOfDsn c d = some r → OutPkt.retx r.q r.idx (dsnSub d r.dsn) ∈ y.out)) ∧
      (syn = 2 → x.rnr = none → b.getF F.FT_RETRY_CFG_RNR_LIM = 15 ∨ 2 ≤ b.getF F.FT_RETRY_CFG_RNR_LIM → s.reaches (.nakBusy l .none) (fun t =>
        (t.conn c).rnrWait = true ∧ (t.conn c).rnr = some (beAt h.body 12 4, 1) ∧ (t.conn c).st = .rts)) ∧
      (syn = 3 → err (.nakAccess l .none) 0x0403) ∧ (syn = 4 → err (.nakExpired l .none) 0x0404) ∧
      (syn = 5 ∨ 7 ≤ syn → err (.nakInvalid l .none) 0x0405) ∧
      (∀ r, syn = 6 → cd = x.ackDsn → b.ft.reqs = [r] → b.reqOfDsn c (beAt h.body 12 4) = some r → dsnLt cd (dsnAdd r.dsn r.sent) = true →
        r.naked = [] → s.reaches (.nakCheck l .none) (fun t =>
          (∃ r', t.ft.reqs = [r'] ∧ r'.naked = [dsnSub (beAt h.body 12 4) r.dsn]) ∧
          OutPkt.retx r.q r.idx (dsnSub (beAt h.body 12 4) r.dsn) ∈ (t.conn c).out))))

/-! ## Ethernet and the Hutch -/

/-- R290, R291, R294, R295, R315: the states of a logical port. Calibrated lanes take it to DOWN, training to UP and a lost link back to DOWN
with its queued frames held; PORT_CFG is refused while a logical port of the port is enabled, and a change of it recalibrates; LP_EN 0 disables;
a frame held for HOLD_MS is discarded; a millisecond within THR only restarts the count. -/
def Obligations.PortStates : Prop :=
  ∀ (l n : Nat) (s : State),
    let b := s.blk
    let x := b.lp l
    let m := laneMask (b.lanesOf l)
    let now := fun (c : Instr) (st : LState) => s.reaches c (fun t => (t.lp l).st = st ∧ t.mem = b.mem ∧ ∀ k, k / 8 ≠ l / 8 → t.lp k = b.lp k)
    (b.lpExists l = true → (b.port (l / 8)).busy &&& m ≠ 0 → x.st = .cal →
      now (.laneCalDone l) .down) ∧
    ((b.port (l / 8)).busy &&& m = 0 → s.gives (.laneCalDone l) b) ∧
    (x.st = .down → now (.linkUp l) .up) ∧ (x.st ≠ .down → s.gives (.linkUp l) b) ∧
    (x.st = .up → now (.linkDown l) .down ∧ s.reaches (.linkDown l) (fun t => (t.lp l).sysq = x.sysq.map (fun f => { f with held := true }) ∧
      ∀ q, tblGet [] q (t.lp l).eqs = (tblGet [] q x.eqs).map (fun f => { f with held := true }))) ∧
    (x.st ≠ .up → s.gives (.linkDown l) b) ∧
    (s.noHold 0 → ∀ v : BitVec 32,
      ((lpsOf n).any (fun l => b.flag F.LP_CFG_LP_EN l) = true → s.gives (.portCfgWrite n v) (b.event .eth n 0 { info0 := n })) ∧
      ((lpsOf n).any (fun l => b.flag F.LP_CFG_LP_EN l) = false → s.reaches (.portCfgWrite n v) (fun t =>
        (t.reg .PORT_CFG n).toNat = v.toNat % 8 ∧ t.mem = b.mem ∧
        ((b.reg .PORT_CFG n).toNat ≠ v.toNat % 8 → (lpsOf n).any (fun l => (b.lp l).st != .off) = true →
          (t.port n).lanes = 0 ∧ ∀ k, k ∈ lpsOf n → (t.lp k).st = if t.lpExists k then .cal else .off))) ∧
      (b.lpExists l = true → v.toNat % 2 = 1 → x.st = .disabled → (b.port (l / 8)).lanes &&& m = m → now (.lpEnWrite l v) .down) ∧
      (b.lpExists l = true → v.toNat % 2 = 1 → x.st = .disabled → (b.port (l / 8)).lanes &&& m ≠ m → now (.lpEnWrite l v) .cal) ∧
      (v.toNat % 2 = 0 → x.st ≠ .off → x.sysq = [] → x.eqs = [] → now (.lpEnWrite l v) .disabled)) ∧
    (∀ f rest, x.st ≠ .up → x.sysq = f :: rest → f.ft = none → s.reaches (.portHoldExpiry l 64) (fun t => (t.lp l).sysq = rest ∧ t.mem = b.mem)) ∧
    (∀ q f rest, x.st ≠ .up → q < 64 → tblGet [] q x.eqs = f :: rest → f.ft = none → (∀ k ∈ lpsOf (l / 8), (b.lp k).wait = []) → s.reaches (.portHoldExpiry l q) (fun t =>
      tblGet [] q (t.lp l).eqs = rest ∧ t.mem = b.mem)) ∧
    (x.st = .up → s.gives (.portHoldExpiry l n) b) ∧
    (x.st = .up → x.fecMs + n ≤ b.getF F.PORT_FEC_THR_THR (l / 8) → s.gives (.fecRateCheck l n)
      ((b.countBy F.FEC_SYM_ERR_COUNT l n).modLp l (fun y => { y with fecMs := 0 }))) ∧
    (x.st ≠ .up → s.gives (.fecRateCheck l n) b)

/-- R297, R306, R313: reception. Nothing is received on a port that is not UP; a frame with a bad codeword or FCS is counted and dropped; a PAUSE frame
acts as one; a frame with two tags is refused as one of a bad length (the model's choice, log entry 109), one that the address filter does not take
is dropped; a good frame for this device goes to Tutoby, as an FT frame into the receive buffer, or as a HELLO or LSA to the basic-packet path (R176),
where a reserved KIND is discarded. R306, R307, R308: pauses. A nonzero pause takes a
NORMAL priority to PAUSED, and in PAUSE mode all eight; its end or a zero takes it back; the watchdog takes it to BROKEN and sheds its frames, the
recovery time to NORMAL; a held pause is repeated. -/
def Obligations.FramesReceived : Prop :=
  (∀ (l : Nat) (frame : List Byte) (s : State),
    let b := s.blk
    let f := frame.take (frame.length - 4)
    let got := (b.countBy F.FEC_CORR_CW_COUNT l 0).countBy F.FEC_SYM_ERR_COUNT l 0 |>.modLp l (fun x => { x with fecMs := x.fecMs + 0 })
    ((b.lp l).st ≠ .up → ∀ bad cw sym, s.gives (.ethFrameRx l frame bad cw sym) b) ∧
    ((b.lp l).st = .up →
      (s.gives (.ethFrameRx l frame true 0 0) ((got.count F.FEC_UNCORR_CW_COUNT l).count F.RX_FCS_ERR_COUNT l)) ∧
      (4 ≤ frame.length → frame.drop (frame.length - 4) ≠ toLe 4 (crc32 f).toNat →
        s.gives (.ethFrameRx l frame false 0 0) (got.count F.RX_FCS_ERR_COUNT l)) ∧
      (64 ≤ frame.length → frame.length ≤ max 64 (b.getF F.LP_MAXFR_MAX_FRAME l) → frame.drop (frame.length - 4) = toLe 4 (crc32 f).toNat →
        (frType f = 0x8808 → beAt f (frL3 f) 2 = 1 → b.fcm l = 1 → (b.lp l).pw 0 = .normal → beAt f (frL3 f + 2) 2 ≠ 0 →
          s.reaches (.ethFrameRx l frame false 0 0) (fun t => ∀ p, p < 8 → (t.lp l).pw p = .paused)) ∧
        ((frTag f).isSome = true → frType f = 0x8100 → s.gives (.ethFrameRx l frame false 0 0) (got.count F.RX_LEN_ERR_COUNT l)) ∧
        (frType f ≠ 0x8808 → b.addrOk l f = false → (frTag f = none ∨ frType f ≠ 0x8100) →
          s.gives (.ethFrameRx l frame false 0 0) (got.count F.RX_FILTER_DROP_COUNT l)) ∧
        (frType f ≠ 0x8808 → b.addrOk l f = true → csumOk f = true → (frTag f = none ∨ frType f ≠ 0x8100) →
          b.portOcc (l / 8) + f.length + 4 ≤ 4194304 →
          (frType f = 0x88B5 → b.meterSel l (b.frameTc l f) none = none →
            let kind := beAt f (frL3 f) 8 / 16 % 16
            (kind = 1 ∨ kind = 2 → s.reaches (.ethFrameRx l frame false 0 0) (fun t => t.mem = b.mem ∧
              ∃ p, t.disc.rx = b.disc.rx ++ [(l, p)] ∧ p.kind = kind ∧ p.payload = f.drop (frL3 f + 8))) ∧
            (kind = 0 ∨ 6 < kind → s.reaches (.ethFrameRx l frame false 0 0) (fun t => t.out = b.out ∧ t.disc = b.disc))) ∧
          (frType f ≠ 0x88B5 → b.ftPayload f = none → b.meterSel l (b.frameTc l f) none = none → ptpEvent f = none → b.ndAnswer l f = none →
            s.reaches (.ethFrameRx l frame false 0 0) (fun t => t.out = b.out ++ [.toTutoby l f 0] ∧ t.mem = b.mem)) ∧
          (∀ p, b.ftPayload f = some p → b.meterSel l (b.frameTc l f) (b.ftInst p) = none →
            b.flag F.FT_CTRL_EN = true → 32 ≤ p.length → beAt p 0 1 / 16 = 1 → 0 < beAt p 1 1 → beAt p 1 1 ≤ 8 →
            beAt p 4 2 % 4096 = b.getF F.DEV_ID_DEVNUM → s.reaches (.ethFrameRx l frame false 0 0) (fun t => t.mem = b.mem ∧
              (t.lp l).rx = (b.lp l).rx ++ [{ len := f.length + 4, tc := b.frameTc l f, src := beAt f (frL3 f + 8) 16, ce := decide (frEcn f = 3),
                                              beat := b.time.beat, fth := slice p 0 32, body := p.drop 32 }])))))) ∧
  (∀ (l p quanta : Nat) (s : State), p < 8 →
    let b := s.blk
    let x := b.lp l
    let now := fun (c : Instr) (w : PwdState) => s.reaches c (fun t => (t.lp l).pw p = w ∧ t.mem = b.mem ∧ (t.lp l).st = x.st)
    (x.st = .up → b.fcm l = 1 → x.pw 0 = .normal → quanta ≠ 0 → now (.pauseRx l quanta) .paused) ∧
    (x.st = .up → b.fcm l = 1 → x.pw 0 = .paused → now (.pauseRx l 0) .normal) ∧
    (x.st ≠ .up → (s.gives (.pauseRx l quanta) b) ∧ ∀ v ts, s.gives (.pfcRx l v ts) b) ∧
    (∀ ts, x.st = .up → b.fcm l = 2 → x.pw p = .normal → ts.getD p 0 ≠ 0 → now (.pfcRx l (2 ^ p) ts) .paused) ∧
    (∀ ts, x.st = .up → b.fcm l = 2 → x.pw p = .paused → ts.getD p 0 = 0 → now (.pfcRx l (2 ^ p) ts) .normal) ∧
    (x.pw p = .paused → now (.pauseTimeEnd l p) .normal) ∧ (x.pw p ≠ .paused → s.gives (.pauseTimeEnd l p) b) ∧
    (x.pw p = .paused → now (.pauseWatchdogExpiry l p) .broken) ∧
    (x.pw p = .paused → b.flag F.PORT_PWD_PWD_ACT (l / 8) = false → b.fcm l ≠ 1 → (∀ k ∈ lpsOf (l / 8), (b.lp k).wait = []) →
      s.reaches (.pauseWatchdogExpiry l p) (fun t =>
      (t.lp l).sysq = x.sysq.filter (fun f => f.tc != p) ∧ ∀ q, tblGet [] q (t.lp l).eqs = (tblGet [] q x.eqs).filter (fun f => f.tc != p))) ∧
    (x.pw p = .broken → now (.pwdRecoverExpiry l p) .normal) ∧ (x.pw p ≠ .broken → s.gives (.pwdRecoverExpiry l p) b) ∧
    (b.fcm l ≠ 0 → x.xoff.contains p = true → b.getF F.LP_THR_XON l * 1024 < x.occ p → s.gives (.pauseRepeat l p)
      (b.sendPause l p (b.getF F.LP_PAUSE_PAUSE_TIME l))) ∧
    (b.fcm l = 0 ∨ x.xoff.contains p = false → s.gives (.pauseRepeat l p) b))

/-- R203, R303, R305, R306, R309, R312, R313, R316: transmission. A visit sends the first frame of the system queue that is not paused, else it visits
the next active queue as far as its deficit and quantum cover its head; a PTP event message that belongs on the port (its domain, and whether the port
sends or takes time) leaves at once when nothing is before it, with its stamp kept; the oldest stamp is popped; MTR_CTL
applies the shadowed rates with both buckets full. -/
def Obligations.FramesSent : Prop :=
  ∀ (l n m : Nat) (s : State),
    let b := s.blk
    let x := b.lp l
    (x.st ≠ .up → s.gives (.egressVisit l) b) ∧
    (∀ f rest, x.st = .up → x.sysq = f :: rest → x.pw f.tc ≠ .paused → ptpEvent f.data = none → s.reaches (.egressVisit l) (fun t =>
      t.out = b.out ++ [.frame l f.data] ∧ (t.lp l).sysq = rest ∧ (t.lp l).eqs = x.eqs)) ∧
    (∀ f g rest, x.st = .up → x.sysq = f :: g :: rest → x.pw f.tc = .paused → x.pw g.tc ≠ .paused → ptpEvent g.data = none →
      s.reaches (.egressVisit l) (fun t => t.out = b.out ++ [.frame l g.data] ∧ (t.lp l).sysq = f :: rest ∧ (t.lp l).eqs = x.eqs)) ∧
    (∀ q f, x.st = .up → x.sysq = [] → (∀ k ∈ lpsOf (l / 8), (b.lp k).wait = []) → q < 64 → tblGet [] q x.eqs = [f] → (∀ k, k < 64 → k ≠ q → tblGet [] k x.eqs = []) → x.pw f.tc ≠ .paused →
      ptpEvent f.data = none →
      let d := tblGet 0 q x.deficit + max 64 (b.getF F.EQ_CFG_QUANTUM (l * 64 + q))
      (b.counted l f.data ≤ d → s.reaches (.egressVisit l) (fun t => t.out = b.out ++ [.frame l f.data] ∧ tblGet [] q (t.lp l).eqs = [] ∧
        tblGet 0 q (t.lp l).deficit = 0)) ∧
      (d < b.counted l f.data → s.reaches (.egressVisit l) (fun t => t.out = b.out ∧ (t.lp l).eqs = x.eqs ∧ tblGet 0 q (t.lp l).deficit = d))) ∧
    (∀ frame o, let f := fixChecksums (padFrame frame)
      ptpEvent f = some o → frTag f = none → b.ptpMaySend l f o = true → x.st = .up → x.sysq = [] → x.pw (b.frameTc l f) ≠ .paused →
      b.sheds l (b.frameTc l f) = false → x.stamps.length < 16 →
      s.reaches (.ptpEventMessageTx l frame) (fun t => t.out = b.out ++ [.frame l f] ∧ ∃ k, (t.lp l).stamps = x.stamps ++ [k] ∧
        k.1 = beAt f (o + 30) 2 ∧ k.2.1 = beAt f o 1 % 16)) ∧
    (∀ frame, let f := fixChecksums (padFrame frame)
      ptpEvent f = none ∨ (∃ o, ptpEvent f = some o ∧ b.ptpMaySend l f o = false) ∨ (frTag f).isSome = true →
      s.gives (.ptpEventMessageTx l frame) b) ∧
    (s.noHold 0 →
      (∀ sq mt ns rest, x.stamps = (sq, mt, ns) :: rest → s.reaches (.ptpTxtsPop l) (fun t => (t.lp l).stamps = rest ∧
        t.reg .PTP_TXTS_NS l = BitVec.ofNat 64 ns ∧ t.reg .PTP_TXTS_ID l = BitVec.ofNat 64 (sq + mt * 2 ^ 16 + 2 ^ 31))) ∧
      (x.stamps = [] → s.gives (.ptpTxtsPop l) (b.setF F.PTP_TXTS_ID_VALID l 0)) ∧
      ∀ v : BitVec 32, s.reaches (.mtrCtlWrite n m v) (fun t => (t.reg .MTR_CTL (n * 512 + m)).toNat = v.toNat % 128 ∧
        let k := tblGet {} m (t.port n).meters
        let ix := n * 512 + m
        k.cir = b.getF F.MTR_CIR_CIR ix ∧ k.pir = max k.cir (b.getF F.MTR_PIR_PIR ix) ∧ k.cbs = 64 * max 1 (b.getF F.MTR_BS_CBS ix) ∧
        k.pbs = 64 * max 1 (b.getF F.MTR_BS_PBS ix) ∧ k.tc = k.cbs * 8000 ∧ k.tp = k.pbs * 8000))

/-- R318 to R323, R330: the Hutch. A key command loads what its record unwraps to: a KEK under the root key, a traffic key under the instance's KEK
into a slot that no connection uses; a clear empties it; a record that does not unwrap replies AUTH_FAIL and leaves the keys. EN cannot be set
after a failed self-test. -/
def Obligations.KeysLoaded : Prop :=
  ∀ (c : CmdRef) (p : List Byte) (s : State),
    let b := s.blk
    let x := b.inst c.inst
    let n := x.sBase + fieldAt p 0 2
    let kept := fun (t : Blk) => t.hutch = b.hutch
    (s.oldest c p 0x50 → b.hutch.selfFail = false → keyRecordOk p = true → fieldAt p 0 2 = 0 →
      (∀ k, unwrapKey rootKeyBytes (fieldAt p 2 1) (slice p 8 40) = some k → s.replies .hutchKekLoad c .ok [] (fun t => t.kek c.inst = some k)) ∧
      (unwrapKey rootKeyBytes (fieldAt p 2 1) (slice p 8 40) = none → s.replies .hutchKekLoad c .authFail [] kept)) ∧
    (s.oldest c p 0x50 → keyRecordOk p = false → s.replies .hutchKekLoad c .badDesc [] kept) ∧
    (s.oldest c p 0x51 → b.hutch.selfFail = false → s.replies .hutchKekClear c .ok [] (fun t => t.kek c.inst = none)) ∧
    (s.oldest c p 0x52 → b.hutch.selfFail = false → keyRecordOk p = true → fieldAt p 0 2 < x.sCount →
      ((b.slot n).st = .bound ∨ b.kek c.inst = none → s.replies .hutchKeyLoad c .badDesc [] kept) ∧
      (∀ kek k, (b.slot n).st ≠ .bound → b.kek c.inst = some kek → unwrapKey kek (fieldAt p 2 1) (slice p 8 40) = some k →
        s.replies .hutchKeyLoad c .ok [] (fun t => (t.slot n).st = .loaded ∧ (t.slot n).key = k ∧ ∀ j, j ≠ n → t.slot j = b.slot j)) ∧
      (∀ kek, (b.slot n).st ≠ .bound → b.kek c.inst = some kek → unwrapKey kek (fieldAt p 2 1) (slice p 8 40) = none →
        s.replies .hutchKeyLoad c .authFail [] kept)) ∧
    (s.oldest c p 0x53 → b.hutch.selfFail = false → fieldAt p 0 2 < x.sCount →
      ((b.slot n).st = .bound → s.replies .hutchKeyClear c .badDesc [] kept) ∧
      ((b.slot n).st ≠ .bound → s.replies .hutchKeyClear c .ok [] (fun t => (t.slot n).st = .empty ∧ (t.slot n).key = []))) ∧
    (s.noHold 0 → ∀ v : BitVec 32, (v.toNat % 2 = 0 → s.reaches (.cipEnWrite v) (fun t => t.flag F.CIP_CTRL_EN = false)) ∧
      (v.toNat % 2 = 1 → b.hutch.selfFail = false → s.reaches (.cipEnWrite v) (fun t => t.flag F.CIP_CTRL_EN = true)) ∧
      (b.flag F.CIP_CTRL_EN = false → b.hutch.selfFail = true → s.reaches (.cipEnWrite v) (fun t => t.flag F.CIP_CTRL_EN = false)))

/-! ## The host link and the PCIe functions -/

/-- R334, R336, R351, R352, R466: the states of the host link. Training needs PWR_GOOD, PERST_N deasserted and PCIE_REFCLK; messages that wait
are sent when the link reaches L0; the host's latency is the lesser of the two that it programs while LTR is enabled; leaving DL_Active
makes it unbounded. A vector's request that the moderation timer releases is sent as its message. -/
def Obligations.HostLinkStates : Prop :=
  ∀ (s : State),
    let b := s.blk
    let l := b.link
    (∀ speed width cxl,
      (b.power.pwrGood = true → b.power.perst = false → l.refclk = true → l.lps = .training → 4 ≤ speed → speed ≤ 6 → width ∈ [4, 8, 16] →
        s.reaches (.hlTrained speed width cxl) (fun t => t.link.active = true ∧ t.link.lps = .l0 ∧ t.link.speed = speed ∧ t.link.width = width ∧
          t.link.cxl = (cxl && decide (5 ≤ speed)) ∧ t.mem = b.mem)) ∧
      (b.power.pwrGood = false ∨ b.power.perst = true ∨ l.refclk = false → s.gives (.hlTrained speed width cxl) b)) ∧
    (s.reaches .hostLinkDown (fun t => t.link.active = false ∧ t.link.lps = .training ∧ t.hostLatency = none ∧ t.mem = b.mem)) ∧
    (∀ ps, l.active = true → l.lps ≠ .training → ps ≠ .l0 → ps ≠ .training →
      s.reaches (.linkPowerStateEntry ps) (fun t => t.link.lps = ps ∧ t.link.active = true ∧ t.mem = b.mem)) ∧
    (l.active = true → l.lps ≠ .training → ∀ f v, l.waitL0 = [(f, v)] → (b.fn f).d3 = false → b.vecOpen f v = true →
      s.reaches .linkL0Reached (fun t => t.link.lps = .l0 ∧ t.link.waitL0 = [] ∧
        t.out = b.out ++ [.msix f v (b.vecMsg f v).1 (b.vecMsg f v).2])) ∧
    (l.active = false ∨ l.lps = .training → s.gives .linkL0Reached b) ∧
    (∀ en (x y : BitVec 32), s.reaches (.ltrWrite en (some x) (some y)) (fun t =>
      t.hostLatency = if l.active && en then some (min x.toNat y.toNat) else none)) ∧
    (∀ en, s.reaches (.ltrWrite en none none) (fun t => t.link.maxSnoop = l.maxSnoop ∧ t.link.maxNoSnoop = l.maxNoSnoop)) ∧
    (∀ (f : BitVec 6) (v : BitVec 11),
      let x := b.vec f.toNat v.toNat
      (x.timerRun = true → 0 < x.cnt → (b.fn f.toNat).d3 = false → b.vecOpen f.toNat v.toNat = true → l.active = true → l.lps = .l0 →
        s.reaches (.msixModTimer f v) (fun t => (t.vec f.toNat v.toNat).cnt = 0 ∧ (t.vec f.toNat v.toNat).timerRun = false ∧
          t.out = b.out ++ [.msix f.toNat v.toNat (b.vecMsg f.toNat v.toNat).1 (b.vecMsg f.toNat v.toNat).2])) ∧
      (x.timerRun = false ∨ x.cnt = 0 → s.gives (.msixModTimer f v) b))

/-- R337, R352, R445, R453: the PCIe functions. D3hot holds a function's messages and completions until D0; the mask bits take the host's
write, and unmasking sends what is pending; the return of the PF from PL4 powers and zeroises every region that is not disabled. An FLR of the
PF destroys every instance and resets the emulated values, unless PERST_N is asserted (R452); an FLR of a bound VF resets its instance, whose regions
lose their owner. -/
def Obligations.FunctionStates : Prop :=
  ∀ (f : BitVec 6) (s : State),
    let b := s.blk
    let x := b.fn f.toNat
    (∀ pme, f ≠ 0 → s.reaches (.d3hotEnter f pme) (fun t => (t.fn f.toNat).d3 = true ∧ (t.fn f.toNat).pmeEn = pme ∧
      (t.fn f.toNat).heldCpl = x.heldCpl ∧ t.mem = b.mem ∧ ∀ g, g ≠ f.toNat → t.fn g = b.fn g)) ∧
    (x.d3 = false → s.gives (.d0Return f) b) ∧
    (f ≠ 0 → x.d3 = true → x.heldCpl = [] → b.vecs = [] → s.reaches (.d0Return f) (fun t => (t.fn f.toNat).d3 = false ∧
      (t.fn f.toNat).msixEn = x.msixEn ∧ t.mem = b.mem)) ∧
    (f = 0 → x.d3 = true → b.power.dev = 4 → x.heldCpl = [] → s.reaches (.d0Return f) (fun t => t.power.dev = 0 ∧
      ∀ r, r < 64 → b.regionDisabled r = false → t.level r = 0 ∧ ∀ k, k < 2 ^ 29 → t.mem.byte (r * 2 ^ 29 + k) = 0)) ∧
    (s.reaches (.pmeStatusClear f) (fun t => t.fn f.toNat = { x with pmeStatus := false, wake := false } ∧ ∀ g, g ≠ f.toNat → t.fn g = b.fn g)) ∧
    (∀ en m v, s.reaches (.msixUnmask f en m v) (fun t => (t.fn f.toNat).msixEn = en ∧ (t.fn f.toNat).fnMask = m ∧ t.mem = b.mem)) ∧
    (∀ (v : BitVec 11) y, b.vecs = [((f.toNat, v.toNat), y)] → y.pba = true → (f = 0 ∨ v.toNat < 64) → x.d3 = false → b.link.active = true →
      b.link.lps = .l0 → s.reaches (.msixUnmask f true false (some v)) (fun t => (t.vec f.toNat v.toNat).pba = false ∧
        t.out = b.out ++ [.msix f.toNat v.toNat (b.vecMsg f.toNat v.toNat).1 (b.vecMsg f.toNat v.toNat).2])) ∧
    (b.power.perst = true → s.gives .flrPf b) ∧
    (b.power.perst = false → b.ins = [] → s.reaches .flrPf (fun t => t.fn 0 = {} ∧ t.emu.ring = [] ∧ t.link.maxSnoop = none ∧ t.link.maxNoSnoop = none ∧
      t.getF F.EMU_DRV_VER_VER = 0 ∧ t.link.active = b.link.active ∧ t.mem = b.mem)) ∧
    (∀ i y, b.power.perst = false → b.ins = [(i, y)] → y.st = .active → s.reaches .flrPf (fun t => (t.inst i).st = .destroying ∧ (t.inst i).gen = (y.gen + 1) % 2 ^ 16)) ∧
    (b.instOfVf f.toNat = none → s.gives (.flrVf f) b) ∧
    (∀ i, b.instOfVf f.toNat = some i → (b.inst i).st = .active → s.reaches (.flrVf f) (fun t => (t.inst i).st = .resetting ∧
      (t.inst i).gen = ((b.inst i).gen + 1) % 2 ^ 16 ∧ t.fn f.toNat = {} ∧ ∀ r, t.ownerOf r ≠ some i))

/-- R342, R343, R344, R346: the HDM window. A host read or write of a SHARED granule reads or stores its bytes; one of a DEVICE granule is a bias
violation; a peer that is not allowed is refused. HDM_BIAS_SET makes granules SHARED at once, one in FLUSHING once its flush has ended, and starts the
flush of a SHARED granule that is to be DEVICE; the end of the flush makes it DEVICE, or SHARED where a command waits to make it so, and answers the
command. R135: a host read of a core ends. What the host returns goes to the register of
the load; a read that the host refuses, and one that times out, returns ones. -/
def Obligations.HostMemoryAccesses : Prop :=
  (∀ (off : BitVec 35) (len : Nat) (cxl : Bool) (s : State),
    let b := s.blk
    let a := off.toNat
    let bias := b.biasOf (a / 65536)
    (b.hdmCarried a len cxl = true → bias ≠ 0 → b.level (regionOfDpa a) ≠ 7 → b.mem.uncorrIn a len = false →
      s.reaches (.hdmHostRead off len cxl none) (fun t => t.out = b.out ++ [.hostData (b.mem.bytes a len) false false] ∧ t.mem = b.mem)) ∧
    (b.hdmCarried a len cxl = true → bias = 0 → s.gives (.hdmHostRead off len cxl none)
      ((b.biasViol a).emit (.hostData (if cxl then [] else List.replicate len 0xFF) true false))) ∧
    (∀ r, b.hdmCarried a len cxl = true → b.peerOk (some r) a = false →
      s.gives (.hdmHostRead off len cxl (some r)) (b.peerRefused.emit (.hostData [] false true))) ∧
    (b.hdmCarried a len cxl = false → ∀ rid, s.gives (.hdmHostRead off len cxl rid) b) ∧
    (∀ data : List Byte, b.hdmCarried a data.length cxl = true →
      (bias ≠ 0 → b.level (regionOfDpa a) ≠ 7 → s.reaches (.hdmHostWrite off data cxl none) (fun t => storedAt s { s with blk := t } a data)) ∧
      (bias = 0 → s.gives (.hdmHostWrite off data cxl none) (b.biasViol a)) ∧
      (∀ r, b.peerOk (some r) a = false → s.gives (.hdmHostWrite off data cxl (some r)) b.peerRefused)) ∧
    (∀ (c : CmdRef) (p : List Byte), s.oldest c p 0x60 →
      (fieldAt p 8 1 = 0 → b.biasRefused c p = true → s.replies .hdmBiasSet c .badDesc [] (fun t => t.bias = b.bias)) ∧
      (fieldAt p 8 1 = 1 → b.biasRefused c p = false → (biasRange p).any (fun g => b.biasOf g == 2) = false →
        s.replies .hdmBiasSet c .ok [] (fun t => ∀ g, t.biasOf g = if g ∈ biasRange p then 1 else b.biasOf g)) ∧
      (∀ g, fieldAt p 8 1 = 0 → b.biasRefused c p = false → biasRange p = [g] →
        (b.biasOf g = 0 → s.replies .hdmBiasSet c .ok [] (fun t => t.bias = b.bias)) ∧
        (b.biasOf g = 1 → s.reaches .hdmBiasSet (fun t => t.biasOf g = 2 ∧ t.out = b.out ++ [.recall g] ∧ t.replies = b.replies ∧
          t.biasWait = b.biasWait ++ [(c, false, [g])]))) ∧
      (∀ g, fieldAt p 8 1 = 1 → b.biasRefused c p = false → biasRange p = [g] → b.biasOf g = 2 →
        s.reaches .hdmBiasSet (fun t => t.biasOf g = 2 ∧ t.replies = b.replies ∧ t.biasWait = b.biasWait ++ [(c, true, [g])]))) ∧
    (∀ g : BitVec 19,
      (b.biasOf g.toNat = 2 → b.waitPkts = [] → b.ins = [] → b.ft.conns = [] → b.ctxs = [] → s.reaches (.biasFlushDone g) (fun t =>
        t.biasOf g.toNat = (if b.biasWait.any (fun w => w.2.1 && w.2.2.contains g.toNat) then 1 else 0) ∧ t.mem = b.mem ∧
        (∀ c shared, b.biasWait = [(c, shared, [g.toNat])] → c.inst = 0xFF ∨ b.genOf c.inst = c.gen → t.biasWait = [] ∧
          t.replies.map (fun r => r.ref) = b.replies.map (fun r => r.ref) ++ [c]))) ∧
      (b.biasOf g.toNat ≠ 2 → s.gives (.biasFlushDone g) b))) ∧
  (∀ (tag : Nat) (l : List Byte) (r : HReadRec) (o : OutOp) (d : Nat) (s : State),
    tblFind tag s.blk.hreads = some r → r.len = 8 → (s.blk.th r.pos r.tid).ops = [o] → o.id = r.id → o.kind = .load d 3 false 0 →
    let got := fun (v : Word) (t : Blk) => tblFind tag t.hreads = none ∧ (t.th r.pos r.tid).ops = [] ∧ t.mem = s.blk.mem ∧
      ∀ n, (t.th r.pos r.tid).gr n = if n = d ∧ n ≠ 0 then v else (s.blk.th r.pos r.tid).gr n
    s.reaches (.apertureReadCompletion tag (some l)) (got (BitVec.ofNat 64 (fieldAt l 0 8))) ∧
    s.reaches (.apertureReadCompletion tag none) (got (BitVec.allOnes 64)) ∧
    s.reaches (.completionTimeout tag) (got (BitVec.allOnes 64)))

/-- R353, R354, R355, R356, R357, R434: the emulated window. A write of 4 aligned bytes of a register of the window enters the ring; Tutoby
applies the oldest one and tells how far it has come; a full ring loses the write; the watchdog that finds the heartbeat standing still
raises its FATAL cause. -/
def Obligations.EmulatedWindow : Prop :=
  ∀ (s : State),
    let b := s.blk
    let e := b.emu
    (s.noHold 0 → ∀ (off : BitVec 24) (v : BitVec 32),
      (off.toNat % 4 = 0 → emuOccupied off.toNat = true → e.ring.length < 256 → s.reaches (.emuWrite off 4 v) (fun t =>
        t.emu.ring = e.ring ++ [(off.toNat, v.toNat)] ∧ t.emu.pending = true ∧
        t.getF F.EMU_WR_SEQ_SEQ = (b.getF F.EMU_WR_SEQ_SEQ + 1) % 2 ^ 32 ∧ t.mem = b.mem)) ∧
      (off.toNat % 4 = 0 → emuOccupied off.toNat = true → e.ring.length = 256 → s.gives (.emuWrite off 4 v)
        ({ b with emu := { e with lost := true } }.event .hl 0 4)) ∧
      (off.toNat % 4 = 0 → emuOccupied off.toNat = false → s.gives (.emuWrite off 4 v) b) ∧
      (∀ size, size ≠ 4 ∨ off.toNat % 4 ≠ 0 → s.gives (.emuWrite off size v) (b.relEvent relRegBad { info1 := off.toNat }))) ∧
    (∀ o v rest, e.ring = (o, v) :: rest → e.fwUp = true → s.reaches .emuAct (fun t => t.emu.ring = rest ∧ t.emu.pending = !rest.isEmpty ∧
      t.getF F.EMU_DONE_SEQ_SEQ = (b.getF F.EMU_WR_SEQ_SEQ + 2 ^ 32 - rest.length) % 2 ^ 32 ∧
      (o = 0x1010 → v < 2 ^ 32 → t.getF F.EMU_DRV_VER_VER = v) ∧
      (∀ k, k < 16 → o = 0x1040 + 4 * k → v < 2 ^ 32 → t.getF F.EMU_SCRATCH_VALUE k = v) ∧ t.mem = b.mem)) ∧
    (e.ring = [] ∨ e.fwUp = false → s.gives .emuAct b) ∧
    (e.fwUp = true → s.reaches .emuHeartbeat (fun t => t.getF F.EMU_HEARTBEAT_COUNT = (b.getF F.EMU_HEARTBEAT_COUNT + 1) % 2 ^ 32)) ∧
    (e.fwUp = true → b.getF F.EMU_HEARTBEAT_COUNT ≠ e.seen → s.gives .fwWatchdog { b with emu := { e with seen := b.getF F.EMU_HEARTBEAT_COUNT } }) ∧
    (e.fwUp = true → b.getF F.EMU_HEARTBEAT_COUNT = e.seen → s.reaches .fwWatchdog (fun t => t.rel.fatal = true ∧
      (b.rel.fatal = false → t.out.getLast? = some .aer))) ∧
    (e.fwUp = false → s.gives .emuHeartbeat b ∧ s.gives .fwWatchdog b)

/-! ## Queues, commands and moves -/

/-- R366, R367, R369, R371, R375, R376, R388: queues. A doorbell starts a scan of an ACTIVE submission queue, and is counted and ignored for another, and for one of a FROZEN owner (that it
counts is the model's inference, log entry 33);
QCTL.EN takes a well configured queue to ACTIVE and an idle ACTIVE one to DISABLED; CLR_ERR takes a published queue in ERROR to DISABLED at its head;
CQ_CONS takes a value that leaves no more entries than the queue holds; QUE_PF takes a write while no PF queue is in use; a head that is due is
written to QHEAD_ADDR. R362, R365, R370, R371: what a fetched entry does. One of the expected lap enters the queue, and the scan goes on, around the
end with the lap turned; one of the other lap ends the scan; a malformed one, or a refused fetch, puts the queue in ERROR at its index. -/
def Obligations.QueuesRun : Prop :=
  (∀ (q : Nat) (s : State),
    let b := s.blk
    let x := b.queue q
    let cpl := b.getF F.QCFG_TYPE q = qtCpl
    let others := fun (t : Blk) => t.mem = b.mem ∧ ∀ k, k ≠ q → t.queue k = b.queue k
    (∀ fn slot, s.noHold fn →
      (b.globalQ fn slot = none → s.gives (.doorbell fn slot) b) ∧
      (b.globalQ fn slot = some q → ¬ cpl → x.st = .active → b.ownerFrozen q = false → x.scanning = false →
        s.reaches (.doorbell fn slot) (fun t => t.queue q = { x with scanning := true } ∧ others t ∧ t.regs = b.regs)) ∧
      (b.globalQ fn slot = some q → ¬ cpl → x.st = .active → b.ownerFrozen q = false → x.scanning = true →
        s.reaches (.doorbell fn slot) (fun t => t.queue q = { x with dbPend := true } ∧ others t)) ∧
      (b.globalQ fn slot = some q → cpl ∨ x.st ≠ .active ∨ b.ownerFrozen q = true → s.gives (.doorbell fn slot) (b.count F.DB_IGNORED_CNT_COUNT))) ∧
    (s.noHold (b.fnOfQueue q) →
      (x.st = .disabled → b.queueCfgOk q = true → s.reaches (.queueEnable q) (fun t => (t.queue q).st = .active ∧ (t.queue q).scan = x.scan ∧
        (t.queue q).head = x.scan ∧ (t.queue q).headLap = x.lap ∧ t.flag F.QCTL_EN q = true ∧ others t)) ∧
      (x.st = .disabled → b.queueCfgOk q = false → s.reaches (.queueEnable q) (fun t => (t.queue q).st = .disabled ∧
        (t.queue q).errStatus = 0x0100 ∧ t.flag F.QCTL_EN q = false ∧ others t)) ∧
      (x.st ≠ .disabled → s.gives (.queueEnable q) b) ∧
      (¬ cpl → x.st = .active → x.entries.all (fun e => !e.started) = true → s.reaches (.queueDisable q) (fun t => (t.queue q).st = .disabled ∧
        (t.queue q).entries = [] ∧ t.flag F.QCTL_EN q = false ∧ others t)) ∧
      (¬ cpl → x.st = .active → x.entries.any (fun e => e.started) = true → s.reaches (.queueDisable q) (fun t => (t.queue q).st = .draining ∧
        (t.queue q).entries = x.entries.filter (fun e => e.started) ∧ others t)) ∧
      (cpl → x.st = .active → s.reaches (.queueDisable q) (fun t => (t.queue q).st = .disabled ∧ others t)) ∧
      (x.st = .error → x.entries = [] → x.headDue = false → s.reaches (.queueClrErr q) (fun t => (t.queue q).st = .disabled ∧
        (t.queue q).errValid = false ∧ (t.queue q).scan = x.head ∧ (t.queue q).lap = x.headLap ∧ t.flag F.QCTL_CLR_ERR q = false ∧ others t)) ∧
      (x.st ≠ .error → s.gives (.queueClrErr q) b) ∧
      (∀ v : BitVec 32,
        let n := v.toNat % 2 ^ 17
        (b.qSize q < (x.prod + 2 ^ 17 - n) % 2 ^ 17 → s.gives (.cqConsWrite q v) (b.event .que 0 4)) ∧
        ((x.prod + 2 ^ 17 - n) % 2 ^ 17 ≤ b.qSize q → x.held = [] → s.reaches (.cqConsWrite q v) (fun t =>
          t.getF F.CQ_CONS_CONS q = n ∧ (t.queue q).prod = x.prod ∧ others t)))) ∧
    (s.noHold 0 → ∀ v : BitVec 32,
      (b.queues.all (fun k => k.2.st == .disabled) = true → s.reaches (.quePfWrite v) (fun t => t.getF F.QUE_PF_BASE = bits v.toNat 13 0 ∧
        t.getF F.QUE_PF_COUNT = bits v.toNat 27 16 ∧ others t)) ∧
      (∀ k y, (k, y) ∈ b.queues → b.getF F.QUE_PF_BASE ≤ k → k < b.getF F.QUE_PF_BASE + b.getF F.QUE_PF_COUNT → y.st ≠ .disabled →
        s.gives (.quePfWrite v) b)) ∧
    (x.headDue = true → (b.qOwner q).inst? = none → b.flag F.QCTL_CLR_ERR q = false → s.reaches (.headPublish q) (fun t =>
      (t.queue q).headDue = false ∧ others t ∧
      t.out = b.out ++ [.hostWrite none (b.reg .QHEAD_ADDR q).toNat (toLe 8 (x.head + b2n x.headLap * 2 ^ 16))])) ∧
    (x.headDue = false → s.gives (.headPublish q) b)) ∧
  (∀ (q : Nat) (l : List Byte) (s : State),
    let b := s.blk
    let x := b.queue q
    let h := fieldAt l 0 1
    let wrap := decide (x.scan + 1 ≥ b.qSize q)
    let good := h < 2 ∧ etypeOk (b.getF F.QCFG_TYPE q) (fieldAt l 1 1) = true ∧ allZero (slice l 2 6) = true
    (b.mayFetch q = false → ∀ data, s.gives (.queueEntryFetched q data) b) ∧
    (b.mayFetch q = true →
      (h.testBit 0 = x.lap → good → s.reaches (.queueEntryFetched q (some l)) (fun t => t.mem = b.mem ∧ t.regs = b.regs ∧
        (t.queue q).entries.map (fun e => (e.idx, e.data, e.started)) =
          x.entries.map (fun e => (e.idx, e.data, e.started)) ++ [(x.scan, slice l 0 64, false)] ∧
        (t.queue q).scan = (if wrap then 0 else x.scan + 1) ∧ (t.queue q).lap = xor x.lap wrap ∧ (t.queue q).scanning = true)) ∧
      (h.testBit 0 ≠ x.lap → s.reaches (.queueEntryFetched q (some l)) (fun t => t.queue q = { x with scanning := x.dbPend, dbPend := false } ∧
        t.mem = b.mem ∧ t.regs = b.regs)) ∧
      (h.testBit 0 = x.lap → ¬ good → s.reaches (.queueEntryFetched q (some l)) (fun t => (t.queue q).st = .error ∧ (t.queue q).errStatus = 0x0100 ∧
        (t.queue q).errIndex = x.scan ∧ (t.queue q).errValid = true ∧ (t.queue q).entries = x.entries ∧ t.mem = b.mem)) ∧
      s.reaches (.queueEntryFetched q none) (fun t => (t.queue q).st = .error ∧ (t.queue q).errStatus = 0x0107 ∧ (t.queue q).errIndex = x.scan ∧
        t.mem = b.mem)))

/-- R82, R348, R370, R377: job entries. A good JOB_STEP is checked, and starts its threads when its regions run no earlier job step; JOB_MOVE and
JOB_HCOPY start as moves, JOB_HCOPY while the engine runs fewer than 64 host copies; each refused one completes with BAD_DESC. -/
def Obligations.JobsStart : Prop :=
  ∀ (q i : Nat) (e : QEntry) (s : State),
    let b := s.blk
    let ty := fieldAt e.data 1 1
    b.getF F.QCFG_TYPE q = qtJob → b.nextEntry q = some e → b.jobInst q = some i →
    (ty = 1 → e.checked = false →
      (b.jobStepOk i e.data = true → s.reaches (.jobStep q) (fun t => t.nextEntry q = some { e with checked := true } ∧ t.mem = b.mem ∧
        t.regs = b.regs ∧ t.steps = b.steps)) ∧
      (b.jobStepOk i e.data = false → s.gives (.jobStep q) (b.refuseJob q e 1))) ∧
    (ty = 1 → e.checked = true → b.rel.fatal = false → b.steps = [] → ∀ n pc arg m r, n < 64 → fieldAt e.data 8 8 = 2 ^ n →
      fieldAt e.data 32 1 = 0 → bits (tblGet 0 n (b.inst i).map) 5 0 = r → b.startRecord i (fieldAt e.data 16 8) false 0 0 = some (pc, arg, m) →
      m ≠ 0 → m < 65536 → b.place = [] → b.cores = [] → b.power.dev = 0 → b.level r = 0 →
      s.reaches (.jobStepStart q) (fun t => t.mem = b.mem ∧
        ∀ k, k < 256 → ∀ n, n < 16 → m.testBit n = true → t.th (r * 256 + k) n =
          { st := .running, pc := pc, g := [(1, arg), (2, BitVec.ofNat 64 (fieldAt e.data 24 8))], step := b.stepNext,
            stepIdx := BitVec.ofNat 64 (fieldAt e.data 24 8) })) ∧
    (ty = 1 → e.checked = false → s.gives (.jobStepStart q) b) ∧
    (ty = 2 → b.rel.fatal = false →
      (b.parseMove i e.gen (slice e.data 8 56) = none → s.gives (.jobMove q) (b.refuseJob q e 2)) ∧
      (∀ m, b.parseMove i e.gen (slice e.data 8 56) = some m → m.todo ≠ [] → s.reaches (.jobMove q) (fun t =>
        tblFind b.moveNext t.moves = some { m with job := some (q, e.idx) } ∧ t.mem = b.mem ∧ t.regs = b.regs))) ∧
    (ty = 3 → b.rel.fatal = false →
      (b.parseHcopy i e.gen (slice e.data 8 56) = none → s.gives (.jobHcopy q) (b.refuseJob q e 2)) ∧
      (∀ m, b.parseHcopy i e.gen (slice e.data 8 56) = some m → 64 ≤ b.hceActive → s.gives (.jobHcopy q) b) ∧
      (∀ m, b.parseHcopy i e.gen (slice e.data 8 56) = some m → b.hceActive < 64 → m.todo ≠ [] → s.reaches (.jobHcopy q) (fun t =>
        tblFind b.moveNext t.moves = some { m with job := some (q, e.idx) } ∧ t.mem = b.mem ∧ t.regs = b.regs)))

/-- A move of the device's own memory, or of host memory, whose fragment `f` may be performed now: its drawers are awake, the hub's flows have
tokens, none of its packets is discarded, a host copy is one of the 64 that run, and neither its source nor its destination crosses a block. -/
def Sys2Proof.Machine.State.fragment (s : State) (id f : Nat) (m : Move) (fr : Nat × Nat) (src dst : Option Nat) : Prop :=
  tblFind id s.blk.moves = some m ∧ f ∈ m.todo ∧ m.gen = s.blk.genOf m.inst ∧ s.blk.bias = [] ∧ s.blk.mem.uncorr = [] ∧ fr.2 < 4096 ∧
  fr = (fragPieces (if m.host && m.toHost then m.dst else bits m.dst 25 0) m.len).getD f (0, 0) ∧
  (∀ a, src = some a → s.blk.movePieces m.inst m.src fr.1 fr.2 .rd = some [(a, fr.2)] ∧ s.blk.engineOpen 0 [(a, fr.2)] = true ∧
    (s.blk.engineReads m.inst [(a, fr.2)]).2 = true ∧ s.blk.mem.poisoned a = false) ∧
  (∀ d, dst = some d → s.blk.movePieces m.inst m.dst fr.1 fr.2 .wr = some [(d, fr.2)] ∧ s.blk.engineOpen 2 [(d, fr.2)] = true ∧
    (s.blk.engineWrites m.inst [(d, fr.2)]).2 = true) ∧
  m.lost.contains f = false ∧ (m.host = true → s.blk.hceRuns id = true)

/-- R157, R158, R159, R160, R348: a fragment of a move. Its bytes go from its source to its destination; a host copy stores what the host
returned, or fails where the host refused; a fragment whose address leads nowhere fails. The last one ends the move with its status. A fragment waits
for its drawers' regions and granules and for the tokens of the hub's flow (R189, R344, R443), and one whose packet is discarded stays undone (R181). -/
def Obligations.FragmentsMove : Prop :=
  ∀ (id f g : Nat) (m : Move) (fr : Nat × Nat) (s : State), f ≠ g →
    let b := s.blk
    let left := fun (fail : Bool) (t : Blk) => tblFind id t.moves = some { m with todo := [g], failed := if fail then m.failed ++ [f] else m.failed }
    (∀ a d, s.fragment id f m fr (some a) (some d) → m.host = false → m.todo = [f, g] → s.reaches (.moveFragmentDone id f false none) (fun t =>
      storedAt s { s with blk := t } d (b.mem.bytes a fr.2) ∧ left false t)) ∧
    (∀ d l, s.fragment id f m fr none (some d) → m.host = true → m.toHost = false → m.todo = [f, g] →
      s.reaches (.moveFragmentDone id f false (some l)) (fun t => storedAt s { s with blk := t } d (slice l 0 fr.2) ∧ left false t) ∧
      s.reaches (.moveFragmentDone id f false none) (fun t => t.mem.poisoned d = true ∧ t.mem.cells = b.mem.cells ∧ left true t)) ∧
    (∀ a, s.fragment id f m fr (some a) none → m.host = true → m.toHost = true → m.todo = [f, g] → (b.inst m.inst).dirtyOn = false →
      s.reaches (.moveFragmentDone id f false none) (fun t => t.mem = b.mem ∧ left false t ∧ t.out = b.out ++
        [.hostWrite (some (b.inst m.inst).pasid) ((b.inst m.inst).haBase + m.dst + fr.1) (b.mem.bytes a fr.2)])) ∧
    (s.fragment id f m fr none none → m.host = false → m.todo = [f, g] → b.movePieces m.inst m.dst fr.1 fr.2 .wr = none →
      s.reaches (.moveFragmentDone id f false none) (fun t => t.mem = b.mem ∧ left true t)) ∧
    (∀ a d c, s.fragment id f m fr (some a) (some d) → m.host = false → m.todo = [f] → m.failed = [] → m.stopped = false → m.nfrag ≤ 64 →
      m.job = none → m.cmd = some c → c.inst = 0xFF ∨ b.genOf c.inst = c.gen → s.reaches (.moveFragmentDone id f false none) (fun t =>
        storedAt s { s with blk := t } d (b.mem.bytes a fr.2) ∧ tblFind id t.moves = none ∧
        ∃ w, t.replies = b.replies ++ [{ ref := c, words := w }] ∧ w.head? = some (c.opcode * 2 ^ 16) ∧ w.drop 3 = [0, 0, m.nfrag])) ∧
    (∀ a d, tblFind id b.moves = some m → f ∈ m.todo → m.gen = b.genOf m.inst → m.lost.contains f = false → m.host = false →
      fr = (fragPieces (bits m.dst 25 0) m.len).getD f (0, 0) → b.movePieces m.inst m.src fr.1 fr.2 .rd = some [(a, fr.2)] →
      b.movePieces m.inst m.dst fr.1 fr.2 .wr = some [(d, fr.2)] →
      (b.awake [(a, fr.2), (d, fr.2)] = false → s.gives (.moveFragmentDone id f false none) (b.wakePieces [(a, fr.2), (d, fr.2)])) ∧
      (b.awake [(a, fr.2), (d, fr.2)] = true → b.engineTokens 0 [(a, fr.2)] = false → s.gives (.moveFragmentDone id f false none) b) ∧
      (b.engineOpen 0 [(a, fr.2)] = true → b.engineOpen 2 [(d, fr.2)] = true → (b.engineReads m.inst [(a, fr.2)]).2 = false →
        s.reaches (.moveFragmentDone id f false none) (fun t => t.mem = b.mem ∧ tblFind id t.moves = some { m with lost := m.lost ++ [f] }))) ∧
    ((tblFind id b.moves = none) → s.gives (.moveFragmentDone id f false none) b)

/-- R348, R379, R380, R381, R385, R389: commands. Tutoby accepts the next command of the function whose turn it is, one that fails a check replies at
once; a reply enters its function's mailbox once it fits and leaves the waiting ones, and the window that it opens is usable from then on (R274); a read
of the mailbox takes its oldest word, one of its low half with the tags kept in the read shadow (R28); NOP replies OK;
MOVE and HCOPY start a move or reply BAD_DESC. -/
def Obligations.CommandsAnswered : Prop :=
  ∀ (q fn : Nat) (s : State),
    let b := s.blk
    (∀ (e : QEntry) payload, b.cmdReady q = true → b.cmdTurnFn = some (b.fnOfQueue q) → b.nextEntry q = some e →
      let h := slice e.data 8 56
      let len := fieldAt h 12 4
      let i := fieldAt h 8 1
      let c : CmdRef := { fn := b.fnOfQueue q, q := q, idx := e.idx, seq := fieldAt h 4 4, opcode := fieldAt h 0 2, inst := i, gen := b.genOf i }
      len ≤ 24 →
      (b.cmdCheck (b.fnOfQueue q) h (some (slice h 32 len)) = none → s.reaches (.cmdAccept q payload) (fun t =>
        t.cmdq = b.cmdq ++ [(c, slice h 32 len)] ∧ t.accepted = b.accepted ++ [c] ∧ t.cmdTurn = b.fnOfQueue q ∧ t.replies = b.replies ∧
        t.mem = b.mem)) ∧
      (∀ st, b.cmdCheck (b.fnOfQueue q) h (some (slice h 32 len)) = some st → s.reaches (.cmdAccept q payload) (fun t => t.cmdq = b.cmdq ∧
        t.accepted = b.accepted ++ [c] ∧ t.mem = b.mem ∧
        ∃ w, t.replies = b.replies ++ [{ ref := c, words := w }] ∧ w.head? = some (st.code + c.opcode * 2 ^ 16)))) ∧
    (b.cmdReady q = false → ∀ payload, s.gives (.cmdAccept q payload) b) ∧
    (∀ r, b.replies.find? (fun r => r.ref.fn == fn) = some r →
      ((b.hmb fn).fits 256 r.words = true → s.reaches (.cmdReply fn) (fun t => t.hmb fn = (b.hmb fn).put r.words ∧
        (∀ n, (b.win n).opening = some r.ref → (t.win n).opening = none) ∧ t.replies = b.replies.erase r ∧ t.accepted = b.accepted.erase r.ref ∧ t.mem = b.mem)) ∧
      ((b.hmb fn).fits 256 r.words = false → s.gives (.cmdReply fn) b)) ∧
    (s.noHold fn → ∀ w, (b.hmb fn).take.1 = some w → s.reaches (.hrmDataRead fn false) (fun t => t.hmb fn = (b.hmb fn).take.2 ∧
      t.out = b.out ++ [.regData (w.data % 2 ^ 32 + 2 ^ 32 + b2n w.last * 2 ^ 33)] ∧ t.mem = b.mem)) ∧
    (s.noHold fn → ∀ w, (b.hmb fn).take.1 = some w → s.reaches (.hrmDataRead fn true) (fun t => t.hmb fn = (b.hmb fn).take.2 ∧
      t.out = b.out ++ [.regData (w.data % 2 ^ 32)] ∧ (t.fn fn).shadow.map (fun x => x.2) = some (1 + 2 * b2n w.last) ∧ t.mem = b.mem)) ∧
    (s.noHold fn → (b.hmb fn).take.1 = none → s.reaches (.hrmDataRead fn false) (fun t => t.out = b.out ++ [.regData 0])) ∧
    (∀ (c : CmdRef) (p : List Byte),
      (s.oldest c p 0x01 → s.replies .cmdNop c .ok [] (fun t => t.mem = b.mem ∧ t.regs = b.regs)) ∧
      (s.oldest c p 0x70 → (b.parseMove c.inst c.gen p = none → s.replies .move c .badDesc [] (fun t => t.moves = b.moves)) ∧
        ∀ m, b.parseMove c.inst c.gen p = some m → m.todo ≠ [] → s.reaches .move (fun t =>
          tblFind b.moveNext t.moves = some { m with cmd := some c } ∧ t.cmdq = b.cmdq.drop 1 ∧ t.replies = b.replies ∧ t.mem = b.mem)) ∧
      (s.oldest c p 0x71 → (b.parseHcopy c.inst c.gen p = none → s.replies .hcopy c .badDesc [] (fun t => t.moves = b.moves)) ∧
        ∀ m, b.parseHcopy c.inst c.gen p = some m → m.todo ≠ [] → s.reaches .hcopy (fun t =>
          tblFind b.moveNext t.moves = some { m with cmd := some c } ∧ t.cmdq = b.cmdq.drop 1 ∧ t.replies = b.replies ∧ t.mem = b.mem)))

/-! ## Instances -/

/-- R390, R391, R392, R393, R400: CREATE_INSTANCE. A payload out of its ranges replies BAD_DESC and one that does not fit NO_RESOURCE; an accepted one
takes its number, the next generation, its queues and its regions, which it zeroises. The command replies when the last region is zeroised. -/
def Obligations.InstancesCreated : Prop :=
  ∀ (c : CmdRef) (l : List Byte) (s : State),
    let b := s.blk
    let frozen := fieldAt l 3 1 = 1
    (s.oldest c l 0x10 →
      (b.createOk l = false → s.replies .createInstance c .badDesc [] (fun t => t.ins = b.ins ∧ t.mem = b.mem)) ∧
      (b.createOk l = true → b.createFit l = none → s.replies .createInstance c .noResource [] (fun t => t.ins = b.ins ∧ t.mem = b.mem)) ∧
      (∀ i q cn sl, b.createOk l = true → b.createFit l = some (i, q, cn, sl) → s.reaches .createInstance (fun t =>
        let x := t.inst i
        t.replies = b.replies ∧ x.st = (if frozen then .frozen else .active) ∧ x.gen = ((b.inst i).gen + 1) % 2 ^ 16 ∧ x.vf = fieldAt l 1 1 ∧
        x.qBase = q ∧ x.qCount = fieldAt l 24 2 ∧ x.cBase = cn ∧ x.sBase = sl ∧ x.zeroing = x.regions ∧ x.waiters = [c] ∧
        (∀ r, r ∈ x.regions → t.ownerOf r = some i ∧ ∀ k, k < 2 ^ 29 → t.mem.byte (r * 2 ^ 29 + k) = 0) ∧
        ∀ j, j ≠ i → t.inst j = b.inst j))) ∧
    (∀ (r : BitVec 6) i x, b.ins.find? (fun p => p.2.zeroing.contains r.toNat) = some (i, x) →
      (∀ k, k ≠ r.toNat → k ∈ x.zeroing → s.reaches (.zeroiseDone r) (fun t =>
        t.inst i = { x with zeroing := x.zeroing.filter (fun k => k ≠ r.toNat) } ∧ t.replies = b.replies ∧
        ∀ k, k < 2 ^ 29 → t.mem.byte (r.toNat * 2 ^ 29 + k) = 0)) ∧
      (x.zeroing = [r.toNat] → x.creating = true → x.waiters = [c] → c.opcode = 0x10 → s.reaches (.zeroiseDone r) (fun t =>
        (t.inst i).creating = false ∧ (t.inst i).st = x.st ∧
        ∃ w, t.replies = b.replies ++ [{ ref := c, words := w }] ∧ w.head? = some (c.opcode * 2 ^ 16) ∧ w.drop 3 = [i, x.gen]))) ∧
    (∀ r : BitVec 6, b.ins.find? (fun p => p.2.zeroing.contains r.toNat) = none → s.gives (.zeroiseDone r) b)

/-- R390, R394, R397, R398: reset and destruction. Each gives an ACTIVE instance the next generation, takes its regions from it and disables its
queues; when what it had outstanding has drained, and no packet of it is inside the package, the regions are cleared; the last cleared region ends a reset in ACTIVE with its regions
back, and a destruction in FREE. -/
def Obligations.InstancesReset : Prop :=
  ∀ (c : CmdRef) (p : List Byte) (s : State),
    let b := s.blk
    let x := b.inst c.inst
    let started := fun (t : Blk) => (t.inst c.inst).gen = (x.gen + 1) % 2 ^ 16 ∧ (∀ r, t.ownerOf r ≠ some c.inst) ∧
      (∀ q, x.qBase ≤ q → q < x.qBase + x.qCount → (t.queue q).st = .disabled ∧ (t.queue q).entries = []) ∧ t.cmdq.all (fun d => d ∈ b.cmdq) = true
    (s.oldest c p 0x12 → x.st = .active → s.reaches .resetInstance (fun t => (t.inst c.inst).st = .resetting ∧ started t)) ∧
    (s.oldest c p 0x12 → x.st = .resetting → s.reaches .resetInstance (fun t =>
      t.inst c.inst = { x with waiters := x.waiters ++ [c] } ∧ t.replies = b.replies)) ∧
    (s.oldest c p 0x11 → x.st = .active → x.destroy = none → s.reaches .destroyInstance (fun t => (t.inst c.inst).st = .destroying ∧
      (t.inst c.inst).destroy = some c ∧ started t)) ∧
    (s.oldest c p 0x11 → x.st = .resetting → x.destroy = none → s.reaches .destroyInstance (fun t =>
      t.inst c.inst = { x with destroy := some c, destroyPend := true } ∧ t.replies = b.replies)) ∧
    (∀ i : BitVec 6,
      let y := b.inst i.toNat
      (y.phase ≠ 3 ∨ b.tagged i.toNat = true → s.gives (.resetDrainDone i) b) ∧
      (y.phase = 3 → b.tagged i.toNat = false → b.bias = [] → s.reaches (.resetDrainDone i) (fun t => (t.inst i.toNat).phase = 5 ∧ (t.inst i.toNat).st = y.st ∧
        (t.inst i.toNat).gen = y.gen ∧ (t.inst i.toNat).zeroing = y.regions ∧ t.kek i.toNat = none ∧
        ∀ r, r ∈ y.regions → ∀ k, k < 2 ^ 29 → t.mem.byte (r * 2 ^ 29 + k) = 0))) ∧
    (∀ (i : Nat) (r : BitVec 6) (y : Inst), b.ins = [(i, y)] → y.zeroing = [r.toNat] → y.creating = false → y.waiters = [] →
      (y.st = .resetting → y.destroyPend = false → s.reaches (.zeroiseDone r) (fun t => (t.inst i).st = .active ∧ (t.inst i).gen = y.gen ∧
        (∀ q, q ∈ y.regions → t.ownerOf q = some i) ∧ t.replies = b.replies)) ∧
      (y.st = .destroying → y.destroy = none → s.reaches (.zeroiseDone r) (fun t => (t.inst i).st = .free ∧ (t.inst i).gen = y.gen ∧
        (t.inst i).qCount = 0)))

/-- R401, R402, R408: the freeze. FREEZE_INSTANCE waits for its beat on an ACTIVE instance with no connection and no collective context; a FREEZING
instance with no work left is FROZEN, as is one that FRZ_LIMIT cuts; RESUME_INSTANCE makes it ACTIVE. R403, R404, R405, R406, R407: migration.
SAVE_INSTANCE writes its header and records to the host and tells their size; RESTORE_INSTANCE applies an image to a FROZEN instance, and tells where
it stopped; DIRTY_LOG starts logging, ends an epoch with its granule map, and stops. -/
def Obligations.InstancesMigrate : Prop :=
  (∀ (c : CmdRef) (p : List Byte) (s : State),
    let b := s.blk
    let x := b.inst c.inst
    let f := fieldAt p 0 8
    let free := x.freezeAt = none ∧ b.connsOf c.inst = [] ∧ b.ctxsOf c.inst = []
    (s.oldest c p 0x13 →
      (x.st ≠ .active → s.replies .freezeInstance c .badDesc [] (fun t => t.ins = b.ins)) ∧
      (x.st = .active → free → f ≠ 0 → f ≤ b.time.beat → s.replies .freezeInstance c .tooLate [] (fun t => t.ins = b.ins)) ∧
      (x.st = .active → free → f = 0 ∨ b.time.beat < f → s.reaches .freezeInstance (fun t => t.replies = b.replies ∧ t.mem = b.mem ∧
        t.inst c.inst = { x with freezeAt := some (if f = 0 then b.time.beat + 1 else f, c) }))) ∧
    (∀ (i : BitVec 6),
      let y := b.inst i.toNat
      (y.st = .freezing → b.instBusy i.toNat = false → s.reaches (.freezeDone i) (fun t =>
        t.inst i.toNat = { y with st := .frozen, freezeAt := none } ∧ t.mem = b.mem ∧
        ∀ a, y.freezeAt = some (a, c) → c.inst = i.toNat → b.genOf c.inst = c.gen →
          ∃ w, t.replies = b.replies ++ [{ ref := c, words := w }] ∧ w.drop 3 = [y.freezeBeat % 2 ^ 32, y.freezeBeat / 2 ^ 32, 0])) ∧
      (y.st ≠ .freezing ∨ b.instBusy i.toNat = true → s.gives (.freezeDone i) b) ∧
      (y.st = .freezing → s.reaches (.freezeCut i) (fun t => (t.inst i.toNat).st = .frozen ∧ (t.inst i.toNat).gen = y.gen ∧
        t.steps.all (fun z => z.2.inst != i.toNat) = true)) ∧
      (y.st ≠ .freezing → s.gives (.freezeCut i) b)) ∧
    (s.oldest c p 0x16 →
      (x.st ≠ .frozen → s.replies .resumeInstance c .badDesc [] (fun t => t.ins = b.ins ∧ t.queues = b.queues)) ∧
      (x.st = .frozen → s.replies .resumeInstance c .ok [] (fun t => (t.inst c.inst).st = .active ∧ t.mem = b.mem ∧
        ∀ q, x.qBase ≤ q → q < x.qBase + x.qCount → (b.queue q).resume = true → (b.queue q).st = .disabled → (t.queue q).st = .active ∧
          t.flag F.QCTL_EN q = true)))) ∧
  (∀ (c : CmdRef) (p : List Byte) (s : State),
    let b := s.blk
    let x := b.inst c.inst
    let kept := fun (t : Blk) => t.mem = b.mem ∧ t.ins = b.ins
    (s.oldest c p 0x14 → allZero (slice p 1 7) = true → allZero (slice p 20 4) = true → fieldAt p 8 8 % 64 = 0 →
      let mode := fieldAt p 0 1
      let rs := b.saveRecords c.inst mode (x.selected none)
      let size := rs.foldl (fun n r => n + r.length) 64
      (x.st ≠ .frozen → ¬ (x.st = .active ∧ mode = 1) → ∀ g, s.replies (.saveInstance g) c .badDesc [] kept) ∧
      (x.st = .frozen → mode < 2 → fieldAt p 24 8 ≠ 0 → s.replies (.saveInstance none) c .hostFault [] kept) ∧
      (x.st = .frozen → mode ≤ 2 → fieldAt p 24 8 = 0 → fieldAt p 16 4 < size → s.replies (.saveInstance none) c .noResource [size] kept) ∧
      (x.st = .frozen → mode ≤ 2 → fieldAt p 24 8 = 0 → size ≤ fieldAt p 16 4 → b.mem.uncorr = [] → s.replies (.saveInstance none) c .ok
        [size, rs.length] (fun t => kept t ∧
          t.out = b.out ++ [.hostWrite none (fieldAt p 8 8) (b.saveHeader c.inst rs.length size ++ rs.flatten)]))) ∧
    (s.oldest c p 0x15 →
      (x.st ≠ .frozen → ∀ im, s.replies (.restoreInstance im) c .badDesc [] kept) ∧
      (x.st = .frozen → s.replies (.restoreInstance none) c .hostFault [] kept) ∧
      (∀ l0, let l := l0.take (fieldAt p 8 4)
        x.st = .frozen → (fieldAt l 0 4 ≠ 0x49534731 ∨ fieldAt l 4 2 ≠ 1 → s.replies (.restoreInstance (some l0)) c .badDesc [0] kept) ∧
          (fieldAt l 0 4 = 0x49534731 → fieldAt l 4 2 = 1 → fieldAt l 8 4 = 1 → fieldAt l 66 2 = 0 → fieldAt l 76 4 = 0 →
            80 + fieldAt l 68 4 ≤ l.length →
            let d := (l.drop 80).take (fieldAt l 68 4)
            (fieldAt l 72 4 ≠ (crc32c d).toNat → s.replies (.restoreInstance (some l0)) c .badDesc [64] kept) ∧
            (fieldAt l 72 4 = (crc32c d).toNat → fieldAt l 64 2 = 6 → d.length = 16 → fieldAt d 0 1 < 2 → allZero (slice d 2 14) = true →
              s.replies (.restoreInstance (some l0)) c .ok [] (fun t => kept t ∧ t.getF F.FTI_CFG_WEIGHT c.inst = fieldAt d 1 1 ∧
                t.getF F.COLI_CFG_COLL_MODE c.inst = fieldAt d 0 1))))) ∧
    (s.oldest c p 0x17 →
      (fieldAt p 0 1 = 0 → dirtyBad p = false → s.replies .dirtyLogStart c .ok [] (fun t => (t.inst c.inst).dirtyOn = true ∧
        (t.inst c.inst).epoch = 0 ∧ (t.inst c.inst).pages = [] ∧ (t.inst c.inst).granules = [] ∧ (t.inst c.inst).logBase = fieldAt p 8 8 ∧
        (t.inst c.inst).hmapA = fieldAt p 24 8 ∧ (t.inst c.inst).smap = fieldAt p 40 8 ∧ t.mem = b.mem)) ∧
      (dirtyBad p = true → fieldAt p 0 1 = 0 → s.replies .dirtyLogStart c .badDesc [] kept) ∧
      (fieldAt p 0 1 = 1 → dirtyBad p = false → x.dirtyOn = true → s.replies .dirtyLogEpoch c .ok [b2n x.activeMap, x.epoch, b2n x.outside]
        (fun t => t.inst c.inst = { x with granules := [], outside := false, pages := [], activeMap := !x.activeMap, epoch := (x.epoch + 1) % 2 ^ 32 } ∧
          t.out = b.out ++ [.hostWrite none x.smap (granuleMap x.granules)])) ∧
      (fieldAt p 0 1 = 2 → dirtyBad p = false → x.dirtyOn = true → s.replies .dirtyLogStop c .ok [b2n x.activeMap, x.epoch, b2n x.outside]
        (fun t => t.inst c.inst = { x with granules := [], outside := false, dirtyOn := false } ∧
          t.out = b.out ++ [.hostWrite none x.smap (granuleMap x.granules)]))))

/-! ## Reliability and management -/

/-- R423, R424, R425, R426, R427, R428, R429: units. An hour makes every core an hour older, starts the test of a due spare and marks an overdue server; a
test passes a core back to SPARE, and its second failure in a row retires it; history events go to flash in their order. R150, R153, R156: the
scrubber. A good word or block stays; an uncorrectable word, and a block whose check does not match, sets P of the block and leaves its bytes. R88,
R417: an uncorrectable error that the scrubber finds in the side store of a tile buffer is charged to the core, and the step of the thread that owns
the buffer is replayed. -/
def Obligations.UnitsAndScrubber : Prop :=
  (∀ (g c : Nat) (s : State), g < 1024 → c < 17 →
    let b := s.blk
    let u := unitCore g c
    let role := (b.pl g).role c
    let age := min (b.rel.hours + 1 - (b.hist u).passHour) 0xFFFF
    (s.reaches .coreAgeTick (fun t => t.rel.hours = b.rel.hours + 1 ∧ t.mem = b.mem ∧
      (role = .spare → b.flag F.REL_CFG_TEST_EN = true → b.periodH ≤ age → (t.pl g).role c = .underTest) ∧
      (role = .spare → b.flag F.REL_CFG_TEST_EN = false → (t.pl g).role c = .spare) ∧
      (role = .serving → (t.pl g).role c = .serving ∧ (b.deadlineH ≤ age → (t.hist u).overdue = true)))) ∧
    (role ≠ .underTest → ∀ pass, s.gives (.iftDone u pass) b) ∧
    (role = .underTest →
      s.reaches (.iftDone u true) (fun t => (t.pl g).role c = .spare ∧ (t.hist u).passHour = b.rel.hours ∧ (t.hist u).overdue = false ∧
        (t.hist u).due = false ∧ (t.hist u).suspect = false ∧ t.mem = b.mem) ∧
      ((b.hist u).failedOnce = true → s.reaches (.iftDone u false) (fun t => (t.pl g).role c = .retired ∧ (t.hist u).failedOnce = false)) ∧
      ((b.hist u).failedOnce = false → b.eventsIn u + 1 < b.evtThr → s.reaches (.iftDone u false) (fun t =>
        (t.pl g).role c = .underTest ∧ (t.hist u).failedOnce = true))) ∧
    (∀ k a rest, b.rel.unsaved = (k, a) :: rest →
      (b.rel.histOk = true → s.reaches (.histFlashWrite true) (fun t => t.rel.unsaved = rest ∧
        tblFind k t.rel.flash = some (b.hist k, b.isRetired k) ∧ t.regs = b.regs)) ∧
      (b.rel.histOk = true → s.reaches (.histFlashWrite false) (fun t => t.rel.histOk = false ∧ t.rel.unsaved = b.rel.unsaved ∧
        t.rel.flash = b.rel.flash)) ∧
      (b.rel.histOk = false → ∀ ok, s.gives (.histFlashWrite ok) b)) ∧
    (b.rel.unsaved = [] → ∀ ok, s.gives (.histFlashWrite ok) b)) ∧
  (∀ (a : BitVec 40) (s : State),
    let b := s.blk
    let n := a.toNat
    let p := n / 4096 * 4096
    dpaKind n = .sram → b.level (regionOfDpa n) ≠ 7 →
    (b.mem.uncorr = [] →
      s.gives (.scrub (.word a) .none) b ∧
      (b.mem.storedCrc p = crc32c (b.mem.bytes p 4096) → s.gives (.scrub (.block a) .none) b) ∧
      (b.mem.poisoned p = true → s.gives (.scrub (.block a) .none) b) ∧
      (b.mem.storedCrc p ≠ crc32c (b.mem.bytes p 4096) → b.mem.poisoned p = false → s.reaches (.scrub (.block a) .none) (fun t =>
        t.mem.poisoned p = true ∧ t.mem.cells = b.mem.cells))) ∧
    (s.reaches (.scrub (.word a) .eccUncorr) (fun t => t.mem.poisoned n = true ∧ t.mem.cells = b.mem.cells ∧ n / 8 ∈ t.mem.uncorr)) ∧
    (s.reaches (.scrub (.word a) .eccCorr) (fun t => t.mem.cells = b.mem.cells ∧ (b.mem.uncorr = [] → t.mem = b.mem)))) ∧
  (∀ (pos : BitVec 14) (tb : BitVec 3) (s : State),
    let b := s.blk
    let p := pos.toNat
    let owner := ((b.core p).tile tb.toNat).owner
    let e : Info := { unit := b.chargeUnit p none }
    s.gives (.scrub (.side pos tb) .none) b ∧
    s.gives (.scrub (.side pos tb) .eccCorr) ((b.count F.REL_CNT_COUNT relCntCe).relEvent relEccCe e) ∧
    (owner = none → s.gives (.scrub (.side pos tb) .eccUncorr) ((b.count F.REL_CNT_COUNT relCntUe).relEvent relEccUe e)) ∧
    (∀ i x, owner = some i → tblFind (b.th p i).step b.steps = some x → x.heldLost = false → x.hFaults + 1 ≤ b.getF F.REL_CFG_REPLAY_SAME →
      s.reaches (.scrub (.side pos tb) .eccUncorr) (fun t => t.mem = b.mem ∧ ∃ y, tblFind (b.th p i).step t.steps = some y ∧ y.st = .replaying ∧
        y.hFaults = x.hFaults + 1 ∧ y.hUnit = b.chargeUnit p none ∧ y.hPos = p)))

/-- R432, R433, R434, R435, R436: errors. The handler writes the entry of the error at hand to the log and then reports it; with nothing captured, and
after a FATAL error, it does nothing. The Sideboard sends a heartbeat while it has power. R428, R437, R438, R477: what software asks of the Sideboard.
REL_FORCE tests a spare, retires a core, which keeps the position that it serves until a move, and returns a retired core to test; a history query is
answered with the unit's events; Redfish and MCTP requests take their settings and get their answers. -/
def Obligations.ErrorsReported : Prop :=
  (∀ (e : ErrItem) (s : State),
    let b := s.blk
    let r := b.rel
    (r.fatal = true ∨ (r.pend = [] ∧ r.handling = []) → s.gives .errorHandle b) ∧
    (r.fatal = false → r.pend = [e] → r.handling = [] → (r.prod + 2 ^ 32 - b.getF F.REL_LOG_CONS_CONS) % 2 ^ 32 < 64 →
      s.reaches .errorHandle (fun t => t.rel.pend = [] ∧ t.rel.handling = [(e, 1)] ∧ tblFind (r.prod % 64) t.rel.log = some e.bytes ∧
        t.rel.prod = (r.prod + 1) % 2 ^ 32 ∧ t.mem = b.mem)) ∧
    (r.fatal = false → r.pend = [e] → r.handling = [] → 64 ≤ (r.prod + 2 ^ 32 - b.getF F.REL_LOG_CONS_CONS) % 2 ^ 32 →
      s.reaches .errorHandle (fun t => t.rel.handling = [(e, 1)] ∧ t.rel.log = r.log ∧ (e.sev < 8 → e.sev ≤ t.getF F.REL_LOST_LOST_SEV))) ∧
    (r.fatal = false → r.pend = [] → r.handling = [(e, 1)] → r.minSev ≤ e.sev ∨ e.src = Src.rel.code → s.reaches .errorHandle (fun t =>
      t.rel.handling = [(e, 2)] ∧ t.rel.reports.getLast? = some (b.rptBytes 0 e.beBytes) ∧ t.rel.log = r.log)) ∧
    (r.fatal = false → r.pend = [] → r.handling = [(e, 1)] → e.sev < r.minSev → e.src ≠ Src.rel.code → s.reaches .errorHandle (fun t =>
      t.rel.handling = [(e, 2)] ∧ t.rel.reports = r.reports ∧ t.out = b.out)) ∧
    (r.fatal = false → r.pend = [] → r.handling = [(e, 2)] → s.reaches .errorHandle (fun t => t.rel.handling = [] ∧ t.rel.log = r.log)) ∧
    (b.power.aon = true → s.reaches .sideboardHeartbeat (fun t => t.rel.reports.getLast? = some (b.rptBytes 1 (List.replicate 32 0)) ∧
      t.rel.rptSeq = (r.rptSeq + 1) % 2 ^ 16 ∧ t.mem = b.mem)) ∧
    (b.power.aon = false → s.gives .sideboardHeartbeat b) ∧
    (r.fatal = false → ∀ x : AonFault, s.reaches (.aonParity x) (fun t => t.rel.fatal = true ∧ t.out.getLast? = some .aer ∧ t.mem = b.mem ∧
      t.bitR .REL_FATAL 0 (match x with
        | .controlCore => 1
        | .parity => 4
        | .hutch => 5) = true))) ∧
  (∀ (n : BitVec 20) (s : State), n.toNat < 17408 →
    let b := s.blk
    let g := n.toNat / 17
    let c := n.toNat % 17
    let role := (b.pl g).role c
    (s.noHold 0 →
      (role = .spare → b.flag F.REL_CFG_TEST_EN = true → s.reaches (.relForceTest n) (fun t => (t.pl g).role c = .underTest ∧ t.mem = b.mem)) ∧
      (role ≠ .spare → s.reaches (.relForceTest n) (fun t => (t.pl g).role c = role ∧ (t.hist n.toNat).due = true ∧ t.mem = b.mem)) ∧
      (role ≠ .retired → s.reaches (.relForceRetire n) (fun t => (t.pl g).role c = .retired ∧ (t.pl g).posOf c = (b.pl g).posOf c ∧
        (∀ k, (b.pl g).posOf c = some k → k ∈ (t.cl g).waiting) ∧ t.mem = b.mem)) ∧
      (role = .retired → (b.pl g).posOf c = none → s.reaches (.relForceReturn n) (fun t => (t.pl g).role c = .underTest ∧
        (t.hist n.toNat).returning = true)) ∧
      (role ≠ .retired → s.reaches (.relForceReturn n) (fun t => t.place = b.place ∧ t.rel = b.rel)) ∧
      (∀ v : BitVec 32, s.reaches (.hqUnitWrite v) (fun t => t.getF F.REL_HQ_UNIT_UNIT = v.toNat % 2 ^ 24 ∧ t.flag F.REL_HQ_RES_VALID = false ∧
        t.rel = b.rel))) ∧
    (b.flag F.REL_HQ_RES_VALID = false → s.reaches .hqAnswer (fun t => t.flag F.REL_HQ_RES_VALID = true ∧
      t.getF F.REL_HQ_RES_EVENTS = min (b.eventsIn (b.getF F.REL_HQ_UNIT_UNIT)) 15 ∧
      t.flag F.REL_HQ_RES_ADVISED = decide (b.evtThr ≤ b.eventsIn (b.getF F.REL_HQ_UNIT_UNIT)))) ∧
    (b.flag F.REL_HQ_RES_VALID = true → s.gives .hqAnswer b) ∧
    (b.power.aon = true →
      (∀ k, s.reaches (.redfishRequest (.subscribe k)) (fun t => k ∈ t.rel.subs ∧ t.rel.reports = b.rel.reports)) ∧
      (∀ k, s.reaches (.redfishRequest (.unsubscribe k)) (fun t => k ∉ t.rel.subs)) ∧
      (∀ x y m p, s.reaches (.redfishRequest (.settings x y m p)) (fun t => t.rel.udpEn = x ∧ t.rel.redfishEn = y ∧ t.rel.minSev = m.toNat ∧
        t.rel.udpPort = p.toNat)) ∧
      (s.gives (.redfishRequest .reports) (b.emit (.reports b.rel.reports.flatten))) ∧
      (∀ w, s.reaches (.mctpMessage w) (fun t => t.smbAlert = w ∧ (∃ l, t.out = b.out ++ [.mctp l] ∧ fieldAt l 0 2 = b.getF F.PWR_IN_VIN) ∧
        t.regs = b.regs))) ∧
    (b.power.aon = false → ∀ w q, s.gives (.mctpMessage w) b ∧ s.gives (.redfishRequest q) b))

/-! ## Power, clocks and boot -/

/-- R441, R443, R444, R447, R448, R449: levels, frequency and caps. A region's exit ends at PL0, and the exit of PL3 at PL0 for every region that it
retained; a region's clock steps by 50 MHz toward its target under its caps; a target is rounded and clamped; a power average above the cap lowers the
device cap by 50 MHz; a region at THROT_C lowers its own, and 110 °C trips. R450, R451: the reference clocks. Without the Ethernet reference its PLLs
use the internal oscillator, and every port that was UP is not; without PCIE_REFCLK the host link is down; a PLL that loses lock clears its bit. -/
def Obligations.PowerAndClocks : Prop :=
  (∀ (r : BitVec 6) (s : State),
    let b := s.blk
    let n := r.toNat
    let now := b.getF F.FREQ_NOW_MHZ n
    ((∀ x ∈ b.ft.conns, x.2.held = [] ∧ x.2.rheld = []) → (∀ x ∈ b.ctxs, ∀ q ∈ x.2.rounds, q.2.waitTiles = []) →
      (b.waitPkts = [] → b.steps = [] →
        (n ∈ b.power.exiting → b.power.dev = 0 → s.reaches (.regionWakeDone r) (fun t => t.level n = 0 ∧ n ∉ t.power.exiting ∧ t.mem = b.mem)) ∧
        (b.power.dev = 3 → b.power.devExit = true → s.reaches .pl3Exit (fun t => t.power.dev = 0 ∧ t.power.devExit = false ∧ t.mem = b.mem ∧
          ∀ k, k < 64 → t.level k = if b.level k = 2 then 0 else b.level k))) ∧
      (n ∉ b.power.exiting → s.gives (.regionWakeDone r) b) ∧
      (b.power.devExit = false → s.gives .pl3Exit b)) ∧
    (s.reaches (.freqStep r) (fun t => t.mem = b.mem ∧ t.getF F.FREQ_NOW_CAP n = b.getF F.FREQ_NOW_CAP n ∧
      (now < b.freqAim n → t.getF F.FREQ_NOW_MHZ n = (now + 50) % 2048) ∧ (b.freqAim n < now → t.getF F.FREQ_NOW_MHZ n = now - 50) ∧
      (b.freqAim n = now → t.getF F.FREQ_NOW_MHZ n = now))) ∧
    (s.noHold 0 → ∀ v : BitVec 32, s.reaches (.freqTgtWrite r v) (fun t => t.mem = b.mem ∧
      t.getF F.FREQ_TGT_MHZ n = max 800 (min 1600 (v.toNat % 2048 / 50 * 50)))) ∧
    (∀ vin iin : BitVec 16,
      let l := (vin.toNat * iin.toNat :: b.power.samples).take 10
      let sum := l.foldl (· + ·) 0
      let lim := b.capW * l.length * 10000
      let cap := b.getF F.PWR_CAPLIM_CAP
      s.reaches (.powerSample vin iin) (fun t => t.getF F.PWR_IN_VIN = vin.toNat ∧ t.getF F.PWR_IN_IIN = iin.toNat ∧ t.power.samples = l ∧
        t.getF F.PWR_PAVG_P_AVG = min (sum / (l.length * 10000)) 65535 ∧
        t.getF F.PWR_CAPLIM_CAP = (if b.flag F.PWR_CTL_CAP_EN = false then cap else if lim < sum then max 800 (cap - 50)
          else if sum * 100 < lim * 95 ∧ 9 ≤ b.power.lowRow then min 1600 (cap + 50) else cap))) ∧
    (∀ temps : List (BitVec 8), temps.length = 68 →
      ((∀ t, t ∈ temps → t.toNat < 105) → s.reaches (.thermalSample temps) (fun t => t.getF F.REG_PWR_TEMP n = (temps.getD n 0).toNat ∧
        (b.throtC ≤ (temps.getD n 0).toNat → t.getF F.FREQ_NOW_CAP n = max 800 (b.getF F.FREQ_NOW_CAP n - 50)) ∧ t.mem = b.mem)) ∧
      ((∃ t, t ∈ temps ∧ 110 ≤ t.toNat) → b.power.trip = false → s.reaches (.thermalSample temps) (fun t => t.power.trip = true ∧
        t.power.pwrGood = false ∧ t.rel.fatal = true)))) ∧
  (∀ (d : Nat) (s : State),
    let b := s.blk
    (b.flag F.CLK_REF_ETH_INT = false → s.reaches .refLost (fun t => t.flag F.CLK_REF_ETH_OK = false ∧ t.flag F.CLK_REF_ETH_INT = true ∧
      t.mem = b.mem ∧ ∀ l, l < 64 → (t.lp l).st ≠ .up)) ∧
    (b.flag F.CLK_REF_ETH_INT = true → s.gives .refLost b) ∧
    (s.reaches .refRestored (fun t => t.flag F.CLK_REF_ETH_OK = true ∧ t.flag F.CLK_REF_ETH_INT = false ∧ t.mem = b.mem)) ∧
    (s.reaches .pcieRefclkLost (fun t => t.flag F.CLK_REF_PCIE_OK = false ∧ t.link.active = false ∧ t.link.refclk = false ∧ t.mem = b.mem)) ∧
    (s.reaches .pcieRefclkRestored (fun t => t.flag F.CLK_REF_PCIE_OK = true ∧ t.link.refclk = true ∧ t.link.active = b.link.active ∧ t.mem = b.mem)) ∧
    (d ≤ 300 → s.reaches (.pllUnlock d) (fun t => t.bitR .CLK_LOCK (d / 32) (d % 32) = false ∧ t.mem = b.mem)) ∧
    (300 < d → s.gives (.pllUnlock d) b))

/-- R446, R471, R472, R473: the supply. VIN out of range for ten samples switches the domains off, and below 30 V the always-on domain too; PWR_EN
ramps the rails unless a trip, the input or its own hold keeps them off; PWR_GOOD follows the rails; without PWR_EN the switched state is lost. -/
def Obligations.SupplySequence : Prop :=
  ∀ (s : State),
    let b := s.blk
    let p := b.power
    (∀ v : BitVec 16,
      (4000 ≤ v.toNat → v.toNat ≤ 6000 → s.reaches (.vinSample v) (fun t => t.getF F.PWR_IN_VIN = v.toNat ∧ t.power.vinBad = false ∧
        t.power.vinRow = 0 ∧ t.power.pwrGood = p.pwrGood ∧ t.mem = b.mem)) ∧
      (3000 ≤ v.toNat → v.toNat < 3800 → p.vinRow < 9 → s.reaches (.vinSample v) (fun t => t.power.vinBad = true ∧ t.power.vinRow = p.vinRow + 1 ∧
        t.power.pwrGood = p.pwrGood ∧ t.cores = b.cores)) ∧
      (3000 ≤ v.toNat → v.toNat < 3800 → p.vinRow = 9 → s.reaches (.vinSample v) (fun t => t.power.vinOff = true ∧ t.power.pwrGood = false ∧
        t.power.rails = false ∧ t.cores = [] ∧ t.power.aon = p.aon)) ∧
      (v.toNat < 3000 → s.reaches (.vinSample v) (fun t => t.power.aon = false ∧ t.power.pwrGood = false ∧ t.cores = []))) ∧
    (p.pwrEn = false → p.hold = false → p.trip = false → p.vinBad = false → p.aon = true →
      s.reaches .pwrEnAssert (fun t => t.power.pwrEn = true ∧ t.power.rails = true ∧ t.mem = b.mem)) ∧
    (p.pwrEn = false → p.hold = true → s.reaches .pwrEnAssert (fun t => t.power.pwrEn = true ∧ t.power.reassert = true ∧ t.power.rails = p.rails)) ∧
    (p.pwrEn = false → p.hold = false → p.trip = true → s.reaches .pwrEnAssert (fun t => t.power.rails = p.rails)) ∧
    (p.pwrEn = true → s.reaches .pwrEnDeassert (fun t => t.power.pwrEn = false ∧ t.power.hold = true ∧ t.power.rails = false ∧ t.power.pwrGood = false ∧
      t.power.aon = p.aon ∧ t.cores = [] ∧ t.ft = {} ∧ t.link.active = false ∧ ∀ r, r < 64 → t.level r = 7)) ∧
    (p.hold = true → p.reassert = true → p.pwrEn = true → p.trip = false → p.vinBad = false → p.aon = true →
      s.reaches .pwrEnHoldEnd (fun t => t.power.hold = false ∧ t.power.rails = true)) ∧
    (p.hold = true → p.reassert = false → s.reaches .pwrEnHoldEnd (fun t => t.power.hold = false ∧ t.power.rails = p.rails)) ∧
    (p.rails = true → p.d3cold = false → s.reaches .pwrGoodAssert (fun t => t.power.pwrGood = true ∧ t.mem = b.mem)) ∧
    (p.rails = false → s.gives .pwrGoodAssert b) ∧
    (p.pwrEn = true → s.gives .railFault { b with power := { p with pwrGood := false } }) ∧
    (p.pwrEn = false → s.gives .railFault b)

/-- R430, R452, R453, R454, R457: the resets. POWER_ON_RESET leaves the battery words, and the roles and the histories in flash, and starts the local
time from the seed; PERST_N leaves the battery domain, the Sideboard and the local time; each clears memory and every core. A position reset
clears one core and takes its step serial on, and ends with GO at 0. The RTC counts one second a tick. -/
def Obligations.ResetsApply : Prop :=
  ∀ (s : State),
    let b := s.blk
    let words := fun (t : Blk) => t.bbr 40 + t.bbr 41 * 2 ^ 32
    (s.reaches .powerOnReset (fun t => t.cores = [] ∧ t.mem = {} ∧ t.ins = [] ∧ t.queues = [] ∧ t.time.st = .free ∧
      t.time.ns = (if b.boot.bbrValid then words b * 10 ^ 9 % 2 ^ 64 else 0) ∧ t.getF F.GLB_STATUS_STAGE = 1 ∧
      (∀ w, t.bbr w = if b.boot.bbrValid then b.bbr w else 0) ∧ t.rel.flash = b.rel.flash)) ∧
    (s.reaches .perstNAssert (fun t => t.cores = [] ∧ t.mem = {} ∧ t.ins = [] ∧ t.queues = [] ∧ t.power.perst = true ∧ t.time.st = .free ∧
      t.time.ns = b.time.ns ∧ t.time.frac = b.time.frac ∧ t.getF F.GLB_STATUS_STAGE = 0 ∧ (∀ w, t.bbr w = b.bbr w) ∧
      t.rel.flash = b.rel.flash)) ∧
    (b.power.perst = true → b.getF F.GLB_STATUS_STAGE = 0 → s.reaches .perstNDeassert (fun t => t.power.perst = false ∧
      t.getF F.GLB_STATUS_STAGE = 1 ∧ t.mem = b.mem)) ∧
    (b.power.perst = false → s.gives .perstNDeassert b) ∧
    (s.noHold 0 → ∀ pos : BitVec 14, b.resetAbove pos.toNat = true → s.gives (.positionReset pos) b) ∧
    (s.noHold 0 → b.steps = [] → ∀ pos : BitVec 14, b.resetAbove pos.toNat = false → s.reaches (.positionReset pos) (fun t =>
      t.core pos.toNat = { seq := (b.core pos.toNat).seq, lastTid := (b.core pos.toNat).lastTid, sser := (b.core pos.toNat).sser + 1 } ∧
      (∀ q, q ≠ pos.toNat → t.core q = b.core q) ∧ t.mb pos.toNat = {} ∧ t.flag F.GLB_POSRST_GO = true ∧
      t.getF F.GLB_POSRST_POS = pos.toNat ∧ t.mem = b.mem)) ∧
    (b.power.posReset ≠ [] → s.reaches .posResetDone (fun t => t.power.posReset = [] ∧ t.flag F.GLB_POSRST_GO = false ∧ t.mem = b.mem)) ∧
    (b.power.posReset = [] → s.gives .posResetDone b) ∧
    (b.power.aon = false → s.reaches .vbatLow (fun t => t.boot.bbrValid = false ∧ ∀ w, t.bbr w = 0)) ∧
    (b.power.aon = true → s.gives .vbatLow b) ∧
    (b.bbr 40 < 2 ^ 32 → b.bbr 41 < 2 ^ 32 → s.reaches .rtcTick (fun t => words t = (words b + 1) % 2 ^ 64 ∧
      ∀ w, w ≠ 40 → w ≠ 41 → t.bbr w = b.bbr w)) ∧
    (s.noHold 0 → b.boot.rtcLow < 2 ^ 32 → ∀ v : BitVec 32, s.reaches (.rtcWrite v) (fun t => t.bbr 41 = v.toNat ∧ t.bbr 40 = b.boot.rtcLow))

/-- R455, R456: the boot ROM and start-up. GO is taken in WAIT_IMAGE and FAILED; the first check that the image fails gives ERR and FAILED; an image
that passes every check starts Tutoby; start-up then goes through its steps, and is READY when every package link is in STREAM. -/
def Obligations.BootRuns : Prop :=
  ∀ (image : Option (List Byte)) (kat : Bool) (s : State),
    let b := s.blk
    let st := b.getF F.GLB_BOOT_STATUS_STATE
    let stage := b.getF F.GLB_STATUS_STAGE
    (s.noHold 0 → st = 0 ∨ st = 4 → s.reaches .bootGo (fun t => t.getF F.GLB_BOOT_STATUS_STATE = 1 ∧ t.flag F.GLB_BOOT_CTL_GO = true ∧
      t.getF F.GLB_STATUS_STAGE = 3 ∧ t.getF F.GLB_BOOT_STATUS_ATTEMPTS = (b.getF F.GLB_BOOT_STATUS_ATTEMPTS + 1) % 2 ^ 16 ∧ t.mem = b.mem)) ∧
    (s.noHold 0 → st ≠ 0 → st ≠ 4 → s.gives .bootGo b) ∧
    (st ≠ 1 → s.gives (.bootVerify image kat) b) ∧
    (st = 1 → b.imageErr image ≠ 0 → s.reaches (.bootVerify image kat) (fun t => t.getF F.GLB_BOOT_STATUS_STATE = 4 ∧
      t.getF F.GLB_BOOT_STATUS_ERR = b.imageErr image ∧ t.flag F.GLB_BOOT_CTL_GO = false ∧ t.boot = b.boot ∧ t.emu = b.emu)) ∧
    (∀ m, image = some m → st = 1 → b.imageErr image = 0 → b.ethEn = false → s.reaches (.bootVerify image kat) (fun t =>
      t.getF F.GLB_BOOT_STATUS_STATE = 3 ∧ t.boot.running = true ∧ t.emu.fwUp = true ∧ t.getF F.GLB_STATUS_STAGE = 7 ∧
      t.getF F.EMU_FW_VER_VER = fieldAt m 12 4 ∧ t.hutch.selfFail = !kat)) ∧
    (stage = 5 → b.discEn = false → s.reaches .startupPortsDone (fun t => t.getF F.GLB_STATUS_STAGE = 7 ∧ t.mem = b.mem)) ∧
    (stage = 5 → b.discEn = true → b.upPorts ≠ [] → s.reaches .startupPortsDone (fun t => t.getF F.GLB_STATUS_STAGE = 6 ∧ t.disc.busy = true)) ∧
    (stage ≠ 5 → s.gives .startupPortsDone b) ∧
    (stage = 7 → b.fabReady = true → b.links.all (fun l => l.2.st == .stream) = true → s.reaches .startupFabricReady (fun t =>
      t.getF F.GLB_STATUS_STAGE = 9 ∧ t.flag F.GLB_STATUS_READY = true ∧ (t.reg .REGION_OK).toNat = b.enabledMask ∧ t.mem = b.mem)) ∧
    (stage ≠ 7 → s.gives .startupFabricReady b)

/-! ## Register accesses -/

/-- R22, R28, R29, R30, R200, R460: register accesses. A write sets each field by its type, and the others stay
(REL_CFG and REL_TEST_CFG also have the ages of cores judged, R424); an access of a size or alignment that a
register does not take writes nothing and is logged; the low half of a 64-bit register is held until the high half comes, and a read of a low half
keeps the high half for the next read; an unoccupied offset reads 0 and takes no write; QPEAK and PWR_PEAK read and clear. R22, R28: what a write
makes of a field: a field that software writes takes the value, a W1C bit that is written 1 becomes 0, and a field that software does not write stays;
bits that are in no field stay. A write of the high half of a register whose low half is held writes both. -/
def Obligations.RegistersAccessed : Prop :=
  (∀ (f : BitVec 6) (o : BitVec 26) (s : State), s.noHold f.toNat →
    let b := s.blk
    let n := f.toNat
    let hit := fun (k : Nat) => b.lookup n false k
    let plain := fun (r : Reg) (ix : Nat) (v m : Word) => b.writeAction r ix v m = none ∧ r ∉ queueCfgRegs ∧
      r ∉ [Reg.DOORBELL_SLOT, .MSIX_CTL, .VMSIX_CTL, .IRQ_CAUSE_EN, .VF_CAUSE_EN, .REL_CFG, .REL_TEST_CFG]
    (o.toNat % 4 = 0 →
      (∀ v, hit o.toNat = none → s.gives (.regWrite f false o 4 v) b) ∧
      (hit o.toNat = none → s.gives (.regLowHalfRead f false o 4) (b.emit (.regData 0))) ∧
      (∀ h v, hit o.toNat = some (h, false) → h.width = 32 → plain h.reg h.ix (v &&& maskLow) maskLow →
        s.reaches (.regWrite f false o 4 v) (fun t => t.reg h.reg h.ix = regWrite h.reg (b.reg h.reg h.ix) (v &&& maskLow) maskLow ∧ t.mem = b.mem ∧
          ∀ r i, (r, i) ≠ (h.reg, h.ix) → t.reg r i = b.reg r i)) ∧
      (∀ h v, hit o.toNat = some (h, false) → h.reg = .REL_CFG ∨ h.reg = .REL_TEST_CFG → h.width = 32 →
        s.reaches (.regWrite f false o 4 v) (fun t => t.reg h.reg h.ix = regWrite h.reg (b.reg h.reg h.ix) (v &&& maskLow) maskLow ∧ t.mem = b.mem)) ∧
      (∀ h v, hit o.toNat = some (h, true) → s.gives (.regWrite f false o 4 v) b) ∧
      (∀ h v, hit o.toNat = some (h, false) → h.width = 64 → h.lo = 0 → h.reg ≠ .DOORBELL_SLOT → s.reaches (.regWrite f false o 4 v) (fun t =>
        (t.fn n).hold = some (h.addr, (v &&& maskLow).toNat) ∧ t.regs = b.regs ∧ t.mem = b.mem)) ∧
      (∀ h ro, hit o.toNat = some (h, ro) → h.width = 64 → h.lo = 0 → s.reaches (.regLowHalfRead f false o 4) (fun t =>
        (t.fn n).shadow = some (h.addr, b.regView h.reg h.ix / 2 ^ 32) ∧ t.out = b.out ++ [.regData (b.regView h.reg h.ix % 2 ^ 32)])) ∧
      (∀ h ro x, hit o.toNat = some (h, ro) → h.width = 64 → h.lo = 4 → (b.fn n).shadow = some (h.addr, x) →
        s.reaches (.regLowHalfRead f false o 4) (fun t => (t.fn n).shadow = none ∧ t.out = b.out ++ [.regData x] ∧ t.regs = b.regs))) ∧
    (o.toNat % 4 ≠ 0 → ∀ size v, s.gives (.regWrite f false o size v) (b.badAccess o.toNat) ∧
      s.gives (.regLowHalfRead f false o size) ((b.emit (.regData (2 ^ (8 * size) - 1))).badAccess o.toNat)) ∧
    (s.noHold 0 → ∀ port, port < 64 * 21 → s.reaches (.qpeakRead false port) (fun t => t.getF F.QPEAK_PEAK port = 0 ∧
      t.out = b.out ++ [.regData (b.regView .QPEAK port)])) ∧
    (s.noHold 0 → ∀ port, port < 4 → s.reaches (.qpeakRead true port) (fun t => t.getF F.HQPEAK_PEAK port = 0 ∧
      t.out = b.out ++ [.regData (b.regView .HQPEAK port)])) ∧
    (s.noHold 0 → s.reaches .pwrPeakRead (fun t => t.getF F.PWR_PEAK_PEAK = 0 ∧ t.out = b.out ++ [.regData (b.regView .PWR_PEAK 0)]))) ∧
  ((∀ (v m n : Word) (f : FieldInfo) (k : Nat), k < 64 →
    let bit := fun (w : Word) => w.getLsbD k
    let inside := f.lo ≤ k ∧ k ≤ f.hi ∧ bit m = true
    (¬ inside → bit (fieldWrite v m n f) = bit n) ∧
    (inside → f.acc = .rw ∨ f.acc = .control ∨ f.acc = .status ∨ f.acc = .count → bit (fieldWrite v m n f) = bit v) ∧
    (inside → f.acc = .w1c → bit (fieldWrite v m n f) = (bit n && !bit v)) ∧
    (inside → f.acc = .w1s → bit (fieldWrite v m n f) = (bit n || bit v)) ∧
    (inside → f.acc = .ro ∨ f.acc = .rc ∨ f.acc = .wo → bit (fieldWrite v m n f) = bit n)) ∧
  (∀ (f : BitVec 6) (o : BitVec 26) (v : Word) (l : Nat) (h : RegHit) (s : State), o.toNat % 4 = 0 →
    s.blk.lookup f.toNat false o.toNat = some (h, false) → h.width = 64 → h.lo = 4 → h.reg ≠ .DOORBELL_SLOT →
    (s.blk.fn f.toNat).hold = some (h.addr, l) →
    s.gives (.regWrite f false o 4 v) ((s.blk.modFn f.toNat (fun x => { x with hold := none })).writeReg f.toNat h.reg h.ix
      (BitVec.ofNat 64 l ||| (v <<< 32)) maskAll)))

/-- R29: an offset of a BAR that no register occupies reads as 0 and ignores writes, and no event is logged: for a 4-byte access, and for an
aligned 8-byte access whose two halves both lie at such offsets. An 8-byte access that reaches a 32-bit register in either half returns ones,
writes nothing and is logged (R28). -/
def Obligations.UnoccupiedOffsets : Prop :=
  ∀ (f : BitVec 6) (o : BitVec 26) (v : Word) (s : State), s.noHold f.toNat →
    let b := s.blk
    let hit := fun (bar2 : Bool) (k : Nat) => b.lookup f.toNat bar2 k
    (∀ bar2, o.toNat % 4 = 0 → (bar2 = true → f = 0 ∧ o.toNat < 0x1000) → hit bar2 o.toNat = none →
      s.gives (.regWrite f bar2 o 4 v) b ∧ s.gives (.regLowHalfRead f bar2 o 4) (b.emit (.regData 0))) ∧
    (o.toNat % 8 = 0 → hit false o.toNat = none → hit false (o.toNat + 4) = none →
      s.gives (.regWrite f false o 8 v) b ∧ s.gives (.regLowHalfRead f false o 8) (b.emit (.regData 0))) ∧
    (∀ h ro, o.toNat % 8 = 0 → (hit false o.toNat = some (h, ro) ∧ h.width = 32) ∨ (hit false o.toNat = none ∧ hit false (o.toNat + 4) = some (h, ro)) →
      s.gives (.regWrite f false o 8 v) (b.badAccess o.toNat) ∧
      s.gives (.regLowHalfRead f false o 8) ((b.emit (.regData 0xFFFFFFFFFFFFFFFF)).badAccess o.toNat))

/-- R25: a counter field of width w wraps modulo 2 to the power of w; one whose description says that it saturates stays at its maximum. What a
count changes is that field alone. -/
def Obligations.CountersCount : Prop :=
  ∀ (f : Fld) (i n : Nat) (s : Blk), f.lo ≤ f.hi → f.hi < 64 →
    let w := f.hi + 1 - f.lo
    let t := s.countBy f i n
    let saturates := ∃ x, accAt f.reg f.lo = some x ∧ x.acc = .countSat
    (¬ saturates → t.getF f i = (s.getF f i + n) % 2 ^ w) ∧ (saturates → t.getF f i = min (s.getF f i + n) (2 ^ w - 1)) ∧
    (∀ hi lo, lo ≤ hi → hi < 64 → (hi < f.lo ∨ f.hi < lo) → t.getF ⟨f.reg, hi, lo⟩ i = s.getF ⟨f.reg, hi, lo⟩ i) ∧
    (∀ r k, (r, k) ≠ (f.reg, i) → t.reg r k = s.reg r k) ∧ { t with regs := s.regs } = s
end

