-- ==== Sys2Proof/Laws/State.lean ====
section
/-! SUPPORT. Each named update of the device changes one field: every other field of the device reads as before. -/

namespace Sys2Proof.Machine

/-! ## setReg changes regs -/

@[simp] theorem Blk.setReg_cores (s : Blk) (r : Reg) (i : Nat) (v : Word) : (s.setReg r i v).cores = s.cores := rfl
@[simp] theorem Blk.setReg_mem (s : Blk) (r : Reg) (i : Nat) (v : Word) : (s.setReg r i v).mem = s.mem := rfl
@[simp] theorem Blk.setReg_mbox (s : Blk) (r : Reg) (i : Nat) (v : Word) : (s.setReg r i v).mbox = s.mbox := rfl
@[simp] theorem Blk.setReg_parked (s : Blk) (r : Reg) (i : Nat) (v : Word) : (s.setReg r i v).parked = s.parked := rfl
@[simp] theorem Blk.setReg_flights (s : Blk) (r : Reg) (i : Nat) (v : Word) : (s.setReg r i v).flights = s.flights := rfl
@[simp] theorem Blk.setReg_rr (s : Blk) (r : Reg) (i : Nat) (v : Word) : (s.setReg r i v).rr = s.rr := rfl
@[simp] theorem Blk.setReg_placedOf (s : Blk) (r : Reg) (i : Nat) (v : Word) : (s.setReg r i v).placedOf = s.placedOf := rfl
@[simp] theorem Blk.setReg_hmbox (s : Blk) (r : Reg) (i : Nat) (v : Word) : (s.setReg r i v).hmbox = s.hmbox := rfl
@[simp] theorem Blk.setReg_replies (s : Blk) (r : Reg) (i : Nat) (v : Word) : (s.setReg r i v).replies = s.replies := rfl
@[simp] theorem Blk.setReg_accepted (s : Blk) (r : Reg) (i : Nat) (v : Word) : (s.setReg r i v).accepted = s.accepted := rfl
@[simp] theorem Blk.setReg_cmdq (s : Blk) (r : Reg) (i : Nat) (v : Word) : (s.setReg r i v).cmdq = s.cmdq := rfl
@[simp] theorem Blk.setReg_cmdTurn (s : Blk) (r : Reg) (i : Nat) (v : Word) : (s.setReg r i v).cmdTurn = s.cmdTurn := rfl
@[simp] theorem Blk.setReg_queues (s : Blk) (r : Reg) (i : Nat) (v : Word) : (s.setReg r i v).queues = s.queues := rfl
@[simp] theorem Blk.setReg_fns (s : Blk) (r : Reg) (i : Nat) (v : Word) : (s.setReg r i v).fns = s.fns := rfl
@[simp] theorem Blk.setReg_vecs (s : Blk) (r : Reg) (i : Nat) (v : Word) : (s.setReg r i v).vecs = s.vecs := rfl
@[simp] theorem Blk.setReg_link (s : Blk) (r : Reg) (i : Nat) (v : Word) : (s.setReg r i v).link = s.link := rfl
@[simp] theorem Blk.setReg_hreads (s : Blk) (r : Reg) (i : Nat) (v : Word) : (s.setReg r i v).hreads = s.hreads := rfl
@[simp] theorem Blk.setReg_hnext (s : Blk) (r : Reg) (i : Nat) (v : Word) : (s.setReg r i v).hnext = s.hnext := rfl
@[simp] theorem Blk.setReg_owner (s : Blk) (r : Reg) (i : Nat) (v : Word) : (s.setReg r i v).owner = s.owner := rfl
@[simp] theorem Blk.setReg_ins (s : Blk) (r : Reg) (i : Nat) (v : Word) : (s.setReg r i v).ins = s.ins := rfl
@[simp] theorem Blk.setReg_bias (s : Blk) (r : Reg) (i : Nat) (v : Word) : (s.setReg r i v).bias = s.bias := rfl
@[simp] theorem Blk.setReg_place (s : Blk) (r : Reg) (i : Nat) (v : Word) : (s.setReg r i v).place = s.place := rfl
@[simp] theorem Blk.setReg_clus (s : Blk) (r : Reg) (i : Nat) (v : Word) : (s.setReg r i v).clus = s.clus := rfl
@[simp] theorem Blk.setReg_rel (s : Blk) (r : Reg) (i : Nat) (v : Word) : (s.setReg r i v).rel = s.rel := rfl
@[simp] theorem Blk.setReg_time (s : Blk) (r : Reg) (i : Nat) (v : Word) : (s.setReg r i v).time = s.time := rfl
@[simp] theorem Blk.setReg_tts (s : Blk) (r : Reg) (i : Nat) (v : Word) : (s.setReg r i v).tts = s.tts := rfl
@[simp] theorem Blk.setReg_steps (s : Blk) (r : Reg) (i : Nat) (v : Word) : (s.setReg r i v).steps = s.steps := rfl
@[simp] theorem Blk.setReg_stepNext (s : Blk) (r : Reg) (i : Nat) (v : Word) : (s.setReg r i v).stepNext = s.stepNext := rfl
@[simp] theorem Blk.setReg_moves (s : Blk) (r : Reg) (i : Nat) (v : Word) : (s.setReg r i v).moves = s.moves := rfl
@[simp] theorem Blk.setReg_moveNext (s : Blk) (r : Reg) (i : Nat) (v : Word) : (s.setReg r i v).moveNext = s.moveNext := rfl
@[simp] theorem Blk.setReg_reqs (s : Blk) (r : Reg) (i : Nat) (v : Word) : (s.setReg r i v).reqs = s.reqs := rfl
@[simp] theorem Blk.setReg_links (s : Blk) (r : Reg) (i : Nat) (v : Word) : (s.setReg r i v).links = s.links := rfl
@[simp] theorem Blk.setReg_sendAcc (s : Blk) (r : Reg) (i : Nat) (v : Word) : (s.setReg r i v).sendAcc = s.sendAcc := rfl
@[simp] theorem Blk.setReg_ctrlIn (s : Blk) (r : Reg) (i : Nat) (v : Word) : (s.setReg r i v).ctrlIn = s.ctrlIn := rfl
@[simp] theorem Blk.setReg_waitPkts (s : Blk) (r : Reg) (i : Nat) (v : Word) : (s.setReg r i v).waitPkts = s.waitPkts := rfl
@[simp] theorem Blk.setReg_flows (s : Blk) (r : Reg) (i : Nat) (v : Word) : (s.setReg r i v).flows = s.flows := rfl
@[simp] theorem Blk.setReg_disc (s : Blk) (r : Reg) (i : Nat) (v : Word) : (s.setReg r i v).disc = s.disc := rfl
@[simp] theorem Blk.setReg_ports (s : Blk) (r : Reg) (i : Nat) (v : Word) : (s.setReg r i v).ports = s.ports := rfl
@[simp] theorem Blk.setReg_lports (s : Blk) (r : Reg) (i : Nat) (v : Word) : (s.setReg r i v).lports = s.lports := rfl
@[simp] theorem Blk.setReg_hutch (s : Blk) (r : Reg) (i : Nat) (v : Word) : (s.setReg r i v).hutch = s.hutch := rfl
@[simp] theorem Blk.setReg_ft (s : Blk) (r : Reg) (i : Nat) (v : Word) : (s.setReg r i v).ft = s.ft := rfl
@[simp] theorem Blk.setReg_ctxs (s : Blk) (r : Reg) (i : Nat) (v : Word) : (s.setReg r i v).ctxs = s.ctxs := rfl
@[simp] theorem Blk.setReg_biasWait (s : Blk) (r : Reg) (i : Nat) (v : Word) : (s.setReg r i v).biasWait = s.biasWait := rfl
@[simp] theorem Blk.setReg_power (s : Blk) (r : Reg) (i : Nat) (v : Word) : (s.setReg r i v).power = s.power := rfl
@[simp] theorem Blk.setReg_boot (s : Blk) (r : Reg) (i : Nat) (v : Word) : (s.setReg r i v).boot = s.boot := rfl
@[simp] theorem Blk.setReg_emu (s : Blk) (r : Reg) (i : Nat) (v : Word) : (s.setReg r i v).emu = s.emu := rfl
@[simp] theorem Blk.setReg_smbAlert (s : Blk) (r : Reg) (i : Nat) (v : Word) : (s.setReg r i v).smbAlert = s.smbAlert := rfl
@[simp] theorem Blk.setReg_out (s : Blk) (r : Reg) (i : Nat) (v : Word) : (s.setReg r i v).out = s.out := rfl
@[simp] theorem Blk.setReg_fresh (s : Blk) (r : Reg) (i : Nat) (v : Word) : (s.setReg r i v).fresh = s.fresh := rfl

/-! ## setF changes regs -/

@[simp] theorem Blk.setF_cores (s : Blk) (f : Fld) (i v : Nat) : (s.setF f i v).cores = s.cores := rfl
@[simp] theorem Blk.setF_mem (s : Blk) (f : Fld) (i v : Nat) : (s.setF f i v).mem = s.mem := rfl
@[simp] theorem Blk.setF_mbox (s : Blk) (f : Fld) (i v : Nat) : (s.setF f i v).mbox = s.mbox := rfl
@[simp] theorem Blk.setF_parked (s : Blk) (f : Fld) (i v : Nat) : (s.setF f i v).parked = s.parked := rfl
@[simp] theorem Blk.setF_flights (s : Blk) (f : Fld) (i v : Nat) : (s.setF f i v).flights = s.flights := rfl
@[simp] theorem Blk.setF_rr (s : Blk) (f : Fld) (i v : Nat) : (s.setF f i v).rr = s.rr := rfl
@[simp] theorem Blk.setF_placedOf (s : Blk) (f : Fld) (i v : Nat) : (s.setF f i v).placedOf = s.placedOf := rfl
@[simp] theorem Blk.setF_hmbox (s : Blk) (f : Fld) (i v : Nat) : (s.setF f i v).hmbox = s.hmbox := rfl
@[simp] theorem Blk.setF_replies (s : Blk) (f : Fld) (i v : Nat) : (s.setF f i v).replies = s.replies := rfl
@[simp] theorem Blk.setF_accepted (s : Blk) (f : Fld) (i v : Nat) : (s.setF f i v).accepted = s.accepted := rfl
@[simp] theorem Blk.setF_cmdq (s : Blk) (f : Fld) (i v : Nat) : (s.setF f i v).cmdq = s.cmdq := rfl
@[simp] theorem Blk.setF_cmdTurn (s : Blk) (f : Fld) (i v : Nat) : (s.setF f i v).cmdTurn = s.cmdTurn := rfl
@[simp] theorem Blk.setF_queues (s : Blk) (f : Fld) (i v : Nat) : (s.setF f i v).queues = s.queues := rfl
@[simp] theorem Blk.setF_fns (s : Blk) (f : Fld) (i v : Nat) : (s.setF f i v).fns = s.fns := rfl
@[simp] theorem Blk.setF_vecs (s : Blk) (f : Fld) (i v : Nat) : (s.setF f i v).vecs = s.vecs := rfl
@[simp] theorem Blk.setF_link (s : Blk) (f : Fld) (i v : Nat) : (s.setF f i v).link = s.link := rfl
@[simp] theorem Blk.setF_hreads (s : Blk) (f : Fld) (i v : Nat) : (s.setF f i v).hreads = s.hreads := rfl
@[simp] theorem Blk.setF_hnext (s : Blk) (f : Fld) (i v : Nat) : (s.setF f i v).hnext = s.hnext := rfl
@[simp] theorem Blk.setF_owner (s : Blk) (f : Fld) (i v : Nat) : (s.setF f i v).owner = s.owner := rfl
@[simp] theorem Blk.setF_ins (s : Blk) (f : Fld) (i v : Nat) : (s.setF f i v).ins = s.ins := rfl
@[simp] theorem Blk.setF_bias (s : Blk) (f : Fld) (i v : Nat) : (s.setF f i v).bias = s.bias := rfl
@[simp] theorem Blk.setF_place (s : Blk) (f : Fld) (i v : Nat) : (s.setF f i v).place = s.place := rfl
@[simp] theorem Blk.setF_clus (s : Blk) (f : Fld) (i v : Nat) : (s.setF f i v).clus = s.clus := rfl
@[simp] theorem Blk.setF_rel (s : Blk) (f : Fld) (i v : Nat) : (s.setF f i v).rel = s.rel := rfl
@[simp] theorem Blk.setF_time (s : Blk) (f : Fld) (i v : Nat) : (s.setF f i v).time = s.time := rfl
@[simp] theorem Blk.setF_tts (s : Blk) (f : Fld) (i v : Nat) : (s.setF f i v).tts = s.tts := rfl
@[simp] theorem Blk.setF_steps (s : Blk) (f : Fld) (i v : Nat) : (s.setF f i v).steps = s.steps := rfl
@[simp] theorem Blk.setF_stepNext (s : Blk) (f : Fld) (i v : Nat) : (s.setF f i v).stepNext = s.stepNext := rfl
@[simp] theorem Blk.setF_moves (s : Blk) (f : Fld) (i v : Nat) : (s.setF f i v).moves = s.moves := rfl
@[simp] theorem Blk.setF_moveNext (s : Blk) (f : Fld) (i v : Nat) : (s.setF f i v).moveNext = s.moveNext := rfl
@[simp] theorem Blk.setF_reqs (s : Blk) (f : Fld) (i v : Nat) : (s.setF f i v).reqs = s.reqs := rfl
@[simp] theorem Blk.setF_links (s : Blk) (f : Fld) (i v : Nat) : (s.setF f i v).links = s.links := rfl
@[simp] theorem Blk.setF_sendAcc (s : Blk) (f : Fld) (i v : Nat) : (s.setF f i v).sendAcc = s.sendAcc := rfl
@[simp] theorem Blk.setF_ctrlIn (s : Blk) (f : Fld) (i v : Nat) : (s.setF f i v).ctrlIn = s.ctrlIn := rfl
@[simp] theorem Blk.setF_waitPkts (s : Blk) (f : Fld) (i v : Nat) : (s.setF f i v).waitPkts = s.waitPkts := rfl
@[simp] theorem Blk.setF_flows (s : Blk) (f : Fld) (i v : Nat) : (s.setF f i v).flows = s.flows := rfl
@[simp] theorem Blk.setF_disc (s : Blk) (f : Fld) (i v : Nat) : (s.setF f i v).disc = s.disc := rfl
@[simp] theorem Blk.setF_ports (s : Blk) (f : Fld) (i v : Nat) : (s.setF f i v).ports = s.ports := rfl
@[simp] theorem Blk.setF_lports (s : Blk) (f : Fld) (i v : Nat) : (s.setF f i v).lports = s.lports := rfl
@[simp] theorem Blk.setF_hutch (s : Blk) (f : Fld) (i v : Nat) : (s.setF f i v).hutch = s.hutch := rfl
@[simp] theorem Blk.setF_ft (s : Blk) (f : Fld) (i v : Nat) : (s.setF f i v).ft = s.ft := rfl
@[simp] theorem Blk.setF_ctxs (s : Blk) (f : Fld) (i v : Nat) : (s.setF f i v).ctxs = s.ctxs := rfl
@[simp] theorem Blk.setF_biasWait (s : Blk) (f : Fld) (i v : Nat) : (s.setF f i v).biasWait = s.biasWait := rfl
@[simp] theorem Blk.setF_power (s : Blk) (f : Fld) (i v : Nat) : (s.setF f i v).power = s.power := rfl
@[simp] theorem Blk.setF_boot (s : Blk) (f : Fld) (i v : Nat) : (s.setF f i v).boot = s.boot := rfl
@[simp] theorem Blk.setF_emu (s : Blk) (f : Fld) (i v : Nat) : (s.setF f i v).emu = s.emu := rfl
@[simp] theorem Blk.setF_smbAlert (s : Blk) (f : Fld) (i v : Nat) : (s.setF f i v).smbAlert = s.smbAlert := rfl
@[simp] theorem Blk.setF_out (s : Blk) (f : Fld) (i v : Nat) : (s.setF f i v).out = s.out := rfl
@[simp] theorem Blk.setF_fresh (s : Blk) (f : Fld) (i v : Nat) : (s.setF f i v).fresh = s.fresh := rfl

/-! ## setBit changes regs -/

@[simp] theorem Blk.setBit_cores (s : Blk) (r : Reg) (i b : Nat) : (s.setBit r i b).cores = s.cores := rfl
@[simp] theorem Blk.setBit_mem (s : Blk) (r : Reg) (i b : Nat) : (s.setBit r i b).mem = s.mem := rfl
@[simp] theorem Blk.setBit_mbox (s : Blk) (r : Reg) (i b : Nat) : (s.setBit r i b).mbox = s.mbox := rfl
@[simp] theorem Blk.setBit_parked (s : Blk) (r : Reg) (i b : Nat) : (s.setBit r i b).parked = s.parked := rfl
@[simp] theorem Blk.setBit_flights (s : Blk) (r : Reg) (i b : Nat) : (s.setBit r i b).flights = s.flights := rfl
@[simp] theorem Blk.setBit_rr (s : Blk) (r : Reg) (i b : Nat) : (s.setBit r i b).rr = s.rr := rfl
@[simp] theorem Blk.setBit_placedOf (s : Blk) (r : Reg) (i b : Nat) : (s.setBit r i b).placedOf = s.placedOf := rfl
@[simp] theorem Blk.setBit_hmbox (s : Blk) (r : Reg) (i b : Nat) : (s.setBit r i b).hmbox = s.hmbox := rfl
@[simp] theorem Blk.setBit_replies (s : Blk) (r : Reg) (i b : Nat) : (s.setBit r i b).replies = s.replies := rfl
@[simp] theorem Blk.setBit_accepted (s : Blk) (r : Reg) (i b : Nat) : (s.setBit r i b).accepted = s.accepted := rfl
@[simp] theorem Blk.setBit_cmdq (s : Blk) (r : Reg) (i b : Nat) : (s.setBit r i b).cmdq = s.cmdq := rfl
@[simp] theorem Blk.setBit_cmdTurn (s : Blk) (r : Reg) (i b : Nat) : (s.setBit r i b).cmdTurn = s.cmdTurn := rfl
@[simp] theorem Blk.setBit_queues (s : Blk) (r : Reg) (i b : Nat) : (s.setBit r i b).queues = s.queues := rfl
@[simp] theorem Blk.setBit_fns (s : Blk) (r : Reg) (i b : Nat) : (s.setBit r i b).fns = s.fns := rfl
@[simp] theorem Blk.setBit_vecs (s : Blk) (r : Reg) (i b : Nat) : (s.setBit r i b).vecs = s.vecs := rfl
@[simp] theorem Blk.setBit_link (s : Blk) (r : Reg) (i b : Nat) : (s.setBit r i b).link = s.link := rfl
@[simp] theorem Blk.setBit_hreads (s : Blk) (r : Reg) (i b : Nat) : (s.setBit r i b).hreads = s.hreads := rfl
@[simp] theorem Blk.setBit_hnext (s : Blk) (r : Reg) (i b : Nat) : (s.setBit r i b).hnext = s.hnext := rfl
@[simp] theorem Blk.setBit_owner (s : Blk) (r : Reg) (i b : Nat) : (s.setBit r i b).owner = s.owner := rfl
@[simp] theorem Blk.setBit_ins (s : Blk) (r : Reg) (i b : Nat) : (s.setBit r i b).ins = s.ins := rfl
@[simp] theorem Blk.setBit_bias (s : Blk) (r : Reg) (i b : Nat) : (s.setBit r i b).bias = s.bias := rfl
@[simp] theorem Blk.setBit_place (s : Blk) (r : Reg) (i b : Nat) : (s.setBit r i b).place = s.place := rfl
@[simp] theorem Blk.setBit_clus (s : Blk) (r : Reg) (i b : Nat) : (s.setBit r i b).clus = s.clus := rfl
@[simp] theorem Blk.setBit_rel (s : Blk) (r : Reg) (i b : Nat) : (s.setBit r i b).rel = s.rel := rfl
@[simp] theorem Blk.setBit_time (s : Blk) (r : Reg) (i b : Nat) : (s.setBit r i b).time = s.time := rfl
@[simp] theorem Blk.setBit_tts (s : Blk) (r : Reg) (i b : Nat) : (s.setBit r i b).tts = s.tts := rfl
@[simp] theorem Blk.setBit_steps (s : Blk) (r : Reg) (i b : Nat) : (s.setBit r i b).steps = s.steps := rfl
@[simp] theorem Blk.setBit_stepNext (s : Blk) (r : Reg) (i b : Nat) : (s.setBit r i b).stepNext = s.stepNext := rfl
@[simp] theorem Blk.setBit_moves (s : Blk) (r : Reg) (i b : Nat) : (s.setBit r i b).moves = s.moves := rfl
@[simp] theorem Blk.setBit_moveNext (s : Blk) (r : Reg) (i b : Nat) : (s.setBit r i b).moveNext = s.moveNext := rfl
@[simp] theorem Blk.setBit_reqs (s : Blk) (r : Reg) (i b : Nat) : (s.setBit r i b).reqs = s.reqs := rfl
@[simp] theorem Blk.setBit_links (s : Blk) (r : Reg) (i b : Nat) : (s.setBit r i b).links = s.links := rfl
@[simp] theorem Blk.setBit_sendAcc (s : Blk) (r : Reg) (i b : Nat) : (s.setBit r i b).sendAcc = s.sendAcc := rfl
@[simp] theorem Blk.setBit_ctrlIn (s : Blk) (r : Reg) (i b : Nat) : (s.setBit r i b).ctrlIn = s.ctrlIn := rfl
@[simp] theorem Blk.setBit_waitPkts (s : Blk) (r : Reg) (i b : Nat) : (s.setBit r i b).waitPkts = s.waitPkts := rfl
@[simp] theorem Blk.setBit_flows (s : Blk) (r : Reg) (i b : Nat) : (s.setBit r i b).flows = s.flows := rfl
@[simp] theorem Blk.setBit_disc (s : Blk) (r : Reg) (i b : Nat) : (s.setBit r i b).disc = s.disc := rfl
@[simp] theorem Blk.setBit_ports (s : Blk) (r : Reg) (i b : Nat) : (s.setBit r i b).ports = s.ports := rfl
@[simp] theorem Blk.setBit_lports (s : Blk) (r : Reg) (i b : Nat) : (s.setBit r i b).lports = s.lports := rfl
@[simp] theorem Blk.setBit_hutch (s : Blk) (r : Reg) (i b : Nat) : (s.setBit r i b).hutch = s.hutch := rfl
@[simp] theorem Blk.setBit_ft (s : Blk) (r : Reg) (i b : Nat) : (s.setBit r i b).ft = s.ft := rfl
@[simp] theorem Blk.setBit_ctxs (s : Blk) (r : Reg) (i b : Nat) : (s.setBit r i b).ctxs = s.ctxs := rfl
@[simp] theorem Blk.setBit_biasWait (s : Blk) (r : Reg) (i b : Nat) : (s.setBit r i b).biasWait = s.biasWait := rfl
@[simp] theorem Blk.setBit_power (s : Blk) (r : Reg) (i b : Nat) : (s.setBit r i b).power = s.power := rfl
@[simp] theorem Blk.setBit_boot (s : Blk) (r : Reg) (i b : Nat) : (s.setBit r i b).boot = s.boot := rfl
@[simp] theorem Blk.setBit_emu (s : Blk) (r : Reg) (i b : Nat) : (s.setBit r i b).emu = s.emu := rfl
@[simp] theorem Blk.setBit_smbAlert (s : Blk) (r : Reg) (i b : Nat) : (s.setBit r i b).smbAlert = s.smbAlert := rfl
@[simp] theorem Blk.setBit_out (s : Blk) (r : Reg) (i b : Nat) : (s.setBit r i b).out = s.out := rfl
@[simp] theorem Blk.setBit_fresh (s : Blk) (r : Reg) (i b : Nat) : (s.setBit r i b).fresh = s.fresh := rfl

/-! ## setLock changes regs -/

@[simp] theorem Blk.setLock_cores (s : Blk) (d : Nat) (b : Bool) : (s.setLock d b).cores = s.cores := rfl
@[simp] theorem Blk.setLock_mem (s : Blk) (d : Nat) (b : Bool) : (s.setLock d b).mem = s.mem := rfl
@[simp] theorem Blk.setLock_mbox (s : Blk) (d : Nat) (b : Bool) : (s.setLock d b).mbox = s.mbox := rfl
@[simp] theorem Blk.setLock_parked (s : Blk) (d : Nat) (b : Bool) : (s.setLock d b).parked = s.parked := rfl
@[simp] theorem Blk.setLock_flights (s : Blk) (d : Nat) (b : Bool) : (s.setLock d b).flights = s.flights := rfl
@[simp] theorem Blk.setLock_rr (s : Blk) (d : Nat) (b : Bool) : (s.setLock d b).rr = s.rr := rfl
@[simp] theorem Blk.setLock_placedOf (s : Blk) (d : Nat) (b : Bool) : (s.setLock d b).placedOf = s.placedOf := rfl
@[simp] theorem Blk.setLock_hmbox (s : Blk) (d : Nat) (b : Bool) : (s.setLock d b).hmbox = s.hmbox := rfl
@[simp] theorem Blk.setLock_replies (s : Blk) (d : Nat) (b : Bool) : (s.setLock d b).replies = s.replies := rfl
@[simp] theorem Blk.setLock_accepted (s : Blk) (d : Nat) (b : Bool) : (s.setLock d b).accepted = s.accepted := rfl
@[simp] theorem Blk.setLock_cmdq (s : Blk) (d : Nat) (b : Bool) : (s.setLock d b).cmdq = s.cmdq := rfl
@[simp] theorem Blk.setLock_cmdTurn (s : Blk) (d : Nat) (b : Bool) : (s.setLock d b).cmdTurn = s.cmdTurn := rfl
@[simp] theorem Blk.setLock_queues (s : Blk) (d : Nat) (b : Bool) : (s.setLock d b).queues = s.queues := rfl
@[simp] theorem Blk.setLock_fns (s : Blk) (d : Nat) (b : Bool) : (s.setLock d b).fns = s.fns := rfl
@[simp] theorem Blk.setLock_vecs (s : Blk) (d : Nat) (b : Bool) : (s.setLock d b).vecs = s.vecs := rfl
@[simp] theorem Blk.setLock_link (s : Blk) (d : Nat) (b : Bool) : (s.setLock d b).link = s.link := rfl
@[simp] theorem Blk.setLock_hreads (s : Blk) (d : Nat) (b : Bool) : (s.setLock d b).hreads = s.hreads := rfl
@[simp] theorem Blk.setLock_hnext (s : Blk) (d : Nat) (b : Bool) : (s.setLock d b).hnext = s.hnext := rfl
@[simp] theorem Blk.setLock_owner (s : Blk) (d : Nat) (b : Bool) : (s.setLock d b).owner = s.owner := rfl
@[simp] theorem Blk.setLock_ins (s : Blk) (d : Nat) (b : Bool) : (s.setLock d b).ins = s.ins := rfl
@[simp] theorem Blk.setLock_bias (s : Blk) (d : Nat) (b : Bool) : (s.setLock d b).bias = s.bias := rfl
@[simp] theorem Blk.setLock_place (s : Blk) (d : Nat) (b : Bool) : (s.setLock d b).place = s.place := rfl
@[simp] theorem Blk.setLock_clus (s : Blk) (d : Nat) (b : Bool) : (s.setLock d b).clus = s.clus := rfl
@[simp] theorem Blk.setLock_rel (s : Blk) (d : Nat) (b : Bool) : (s.setLock d b).rel = s.rel := rfl
@[simp] theorem Blk.setLock_time (s : Blk) (d : Nat) (b : Bool) : (s.setLock d b).time = s.time := rfl
@[simp] theorem Blk.setLock_tts (s : Blk) (d : Nat) (b : Bool) : (s.setLock d b).tts = s.tts := rfl
@[simp] theorem Blk.setLock_steps (s : Blk) (d : Nat) (b : Bool) : (s.setLock d b).steps = s.steps := rfl
@[simp] theorem Blk.setLock_stepNext (s : Blk) (d : Nat) (b : Bool) : (s.setLock d b).stepNext = s.stepNext := rfl
@[simp] theorem Blk.setLock_moves (s : Blk) (d : Nat) (b : Bool) : (s.setLock d b).moves = s.moves := rfl
@[simp] theorem Blk.setLock_moveNext (s : Blk) (d : Nat) (b : Bool) : (s.setLock d b).moveNext = s.moveNext := rfl
@[simp] theorem Blk.setLock_reqs (s : Blk) (d : Nat) (b : Bool) : (s.setLock d b).reqs = s.reqs := rfl
@[simp] theorem Blk.setLock_links (s : Blk) (d : Nat) (b : Bool) : (s.setLock d b).links = s.links := rfl
@[simp] theorem Blk.setLock_sendAcc (s : Blk) (d : Nat) (b : Bool) : (s.setLock d b).sendAcc = s.sendAcc := rfl
@[simp] theorem Blk.setLock_ctrlIn (s : Blk) (d : Nat) (b : Bool) : (s.setLock d b).ctrlIn = s.ctrlIn := rfl
@[simp] theorem Blk.setLock_waitPkts (s : Blk) (d : Nat) (b : Bool) : (s.setLock d b).waitPkts = s.waitPkts := rfl
@[simp] theorem Blk.setLock_flows (s : Blk) (d : Nat) (b : Bool) : (s.setLock d b).flows = s.flows := rfl
@[simp] theorem Blk.setLock_disc (s : Blk) (d : Nat) (b : Bool) : (s.setLock d b).disc = s.disc := rfl
@[simp] theorem Blk.setLock_ports (s : Blk) (d : Nat) (b : Bool) : (s.setLock d b).ports = s.ports := rfl
@[simp] theorem Blk.setLock_lports (s : Blk) (d : Nat) (b : Bool) : (s.setLock d b).lports = s.lports := rfl
@[simp] theorem Blk.setLock_hutch (s : Blk) (d : Nat) (b : Bool) : (s.setLock d b).hutch = s.hutch := rfl
@[simp] theorem Blk.setLock_ft (s : Blk) (d : Nat) (b : Bool) : (s.setLock d b).ft = s.ft := rfl
@[simp] theorem Blk.setLock_ctxs (s : Blk) (d : Nat) (b : Bool) : (s.setLock d b).ctxs = s.ctxs := rfl
@[simp] theorem Blk.setLock_biasWait (s : Blk) (d : Nat) (b : Bool) : (s.setLock d b).biasWait = s.biasWait := rfl
@[simp] theorem Blk.setLock_power (s : Blk) (d : Nat) (b : Bool) : (s.setLock d b).power = s.power := rfl
@[simp] theorem Blk.setLock_boot (s : Blk) (d : Nat) (b : Bool) : (s.setLock d b).boot = s.boot := rfl
@[simp] theorem Blk.setLock_emu (s : Blk) (d : Nat) (b : Bool) : (s.setLock d b).emu = s.emu := rfl
@[simp] theorem Blk.setLock_smbAlert (s : Blk) (d : Nat) (b : Bool) : (s.setLock d b).smbAlert = s.smbAlert := rfl
@[simp] theorem Blk.setLock_out (s : Blk) (d : Nat) (b : Bool) : (s.setLock d b).out = s.out := rfl
@[simp] theorem Blk.setLock_fresh (s : Blk) (d : Nat) (b : Bool) : (s.setLock d b).fresh = s.fresh := rfl

/-! ## countBy changes regs -/

@[simp] theorem Blk.countBy_cores (s : Blk) (f : Fld) (i n : Nat) : (s.countBy f i n).cores = s.cores := rfl
@[simp] theorem Blk.countBy_mem (s : Blk) (f : Fld) (i n : Nat) : (s.countBy f i n).mem = s.mem := rfl
@[simp] theorem Blk.countBy_mbox (s : Blk) (f : Fld) (i n : Nat) : (s.countBy f i n).mbox = s.mbox := rfl
@[simp] theorem Blk.countBy_parked (s : Blk) (f : Fld) (i n : Nat) : (s.countBy f i n).parked = s.parked := rfl
@[simp] theorem Blk.countBy_flights (s : Blk) (f : Fld) (i n : Nat) : (s.countBy f i n).flights = s.flights := rfl
@[simp] theorem Blk.countBy_rr (s : Blk) (f : Fld) (i n : Nat) : (s.countBy f i n).rr = s.rr := rfl
@[simp] theorem Blk.countBy_placedOf (s : Blk) (f : Fld) (i n : Nat) : (s.countBy f i n).placedOf = s.placedOf := rfl
@[simp] theorem Blk.countBy_hmbox (s : Blk) (f : Fld) (i n : Nat) : (s.countBy f i n).hmbox = s.hmbox := rfl
@[simp] theorem Blk.countBy_replies (s : Blk) (f : Fld) (i n : Nat) : (s.countBy f i n).replies = s.replies := rfl
@[simp] theorem Blk.countBy_accepted (s : Blk) (f : Fld) (i n : Nat) : (s.countBy f i n).accepted = s.accepted := rfl
@[simp] theorem Blk.countBy_cmdq (s : Blk) (f : Fld) (i n : Nat) : (s.countBy f i n).cmdq = s.cmdq := rfl
@[simp] theorem Blk.countBy_cmdTurn (s : Blk) (f : Fld) (i n : Nat) : (s.countBy f i n).cmdTurn = s.cmdTurn := rfl
@[simp] theorem Blk.countBy_queues (s : Blk) (f : Fld) (i n : Nat) : (s.countBy f i n).queues = s.queues := rfl
@[simp] theorem Blk.countBy_fns (s : Blk) (f : Fld) (i n : Nat) : (s.countBy f i n).fns = s.fns := rfl
@[simp] theorem Blk.countBy_vecs (s : Blk) (f : Fld) (i n : Nat) : (s.countBy f i n).vecs = s.vecs := rfl
@[simp] theorem Blk.countBy_link (s : Blk) (f : Fld) (i n : Nat) : (s.countBy f i n).link = s.link := rfl
@[simp] theorem Blk.countBy_hreads (s : Blk) (f : Fld) (i n : Nat) : (s.countBy f i n).hreads = s.hreads := rfl
@[simp] theorem Blk.countBy_hnext (s : Blk) (f : Fld) (i n : Nat) : (s.countBy f i n).hnext = s.hnext := rfl
@[simp] theorem Blk.countBy_owner (s : Blk) (f : Fld) (i n : Nat) : (s.countBy f i n).owner = s.owner := rfl
@[simp] theorem Blk.countBy_ins (s : Blk) (f : Fld) (i n : Nat) : (s.countBy f i n).ins = s.ins := rfl
@[simp] theorem Blk.countBy_bias (s : Blk) (f : Fld) (i n : Nat) : (s.countBy f i n).bias = s.bias := rfl
@[simp] theorem Blk.countBy_place (s : Blk) (f : Fld) (i n : Nat) : (s.countBy f i n).place = s.place := rfl
@[simp] theorem Blk.countBy_clus (s : Blk) (f : Fld) (i n : Nat) : (s.countBy f i n).clus = s.clus := rfl
@[simp] theorem Blk.countBy_rel (s : Blk) (f : Fld) (i n : Nat) : (s.countBy f i n).rel = s.rel := rfl
@[simp] theorem Blk.countBy_time (s : Blk) (f : Fld) (i n : Nat) : (s.countBy f i n).time = s.time := rfl
@[simp] theorem Blk.countBy_tts (s : Blk) (f : Fld) (i n : Nat) : (s.countBy f i n).tts = s.tts := rfl
@[simp] theorem Blk.countBy_steps (s : Blk) (f : Fld) (i n : Nat) : (s.countBy f i n).steps = s.steps := rfl
@[simp] theorem Blk.countBy_stepNext (s : Blk) (f : Fld) (i n : Nat) : (s.countBy f i n).stepNext = s.stepNext := rfl
@[simp] theorem Blk.countBy_moves (s : Blk) (f : Fld) (i n : Nat) : (s.countBy f i n).moves = s.moves := rfl
@[simp] theorem Blk.countBy_moveNext (s : Blk) (f : Fld) (i n : Nat) : (s.countBy f i n).moveNext = s.moveNext := rfl
@[simp] theorem Blk.countBy_reqs (s : Blk) (f : Fld) (i n : Nat) : (s.countBy f i n).reqs = s.reqs := rfl
@[simp] theorem Blk.countBy_links (s : Blk) (f : Fld) (i n : Nat) : (s.countBy f i n).links = s.links := rfl
@[simp] theorem Blk.countBy_sendAcc (s : Blk) (f : Fld) (i n : Nat) : (s.countBy f i n).sendAcc = s.sendAcc := rfl
@[simp] theorem Blk.countBy_ctrlIn (s : Blk) (f : Fld) (i n : Nat) : (s.countBy f i n).ctrlIn = s.ctrlIn := rfl
@[simp] theorem Blk.countBy_waitPkts (s : Blk) (f : Fld) (i n : Nat) : (s.countBy f i n).waitPkts = s.waitPkts := rfl
@[simp] theorem Blk.countBy_flows (s : Blk) (f : Fld) (i n : Nat) : (s.countBy f i n).flows = s.flows := rfl
@[simp] theorem Blk.countBy_disc (s : Blk) (f : Fld) (i n : Nat) : (s.countBy f i n).disc = s.disc := rfl
@[simp] theorem Blk.countBy_ports (s : Blk) (f : Fld) (i n : Nat) : (s.countBy f i n).ports = s.ports := rfl
@[simp] theorem Blk.countBy_lports (s : Blk) (f : Fld) (i n : Nat) : (s.countBy f i n).lports = s.lports := rfl
@[simp] theorem Blk.countBy_hutch (s : Blk) (f : Fld) (i n : Nat) : (s.countBy f i n).hutch = s.hutch := rfl
@[simp] theorem Blk.countBy_ft (s : Blk) (f : Fld) (i n : Nat) : (s.countBy f i n).ft = s.ft := rfl
@[simp] theorem Blk.countBy_ctxs (s : Blk) (f : Fld) (i n : Nat) : (s.countBy f i n).ctxs = s.ctxs := rfl
@[simp] theorem Blk.countBy_biasWait (s : Blk) (f : Fld) (i n : Nat) : (s.countBy f i n).biasWait = s.biasWait := rfl
@[simp] theorem Blk.countBy_power (s : Blk) (f : Fld) (i n : Nat) : (s.countBy f i n).power = s.power := rfl
@[simp] theorem Blk.countBy_boot (s : Blk) (f : Fld) (i n : Nat) : (s.countBy f i n).boot = s.boot := rfl
@[simp] theorem Blk.countBy_emu (s : Blk) (f : Fld) (i n : Nat) : (s.countBy f i n).emu = s.emu := rfl
@[simp] theorem Blk.countBy_smbAlert (s : Blk) (f : Fld) (i n : Nat) : (s.countBy f i n).smbAlert = s.smbAlert := rfl
@[simp] theorem Blk.countBy_out (s : Blk) (f : Fld) (i n : Nat) : (s.countBy f i n).out = s.out := rfl
@[simp] theorem Blk.countBy_fresh (s : Blk) (f : Fld) (i n : Nat) : (s.countBy f i n).fresh = s.fresh := rfl

/-! ## count changes regs -/

@[simp] theorem Blk.count_cores (s : Blk) (f : Fld) (i : Nat) : (s.count f i).cores = s.cores := rfl
@[simp] theorem Blk.count_mem (s : Blk) (f : Fld) (i : Nat) : (s.count f i).mem = s.mem := rfl
@[simp] theorem Blk.count_mbox (s : Blk) (f : Fld) (i : Nat) : (s.count f i).mbox = s.mbox := rfl
@[simp] theorem Blk.count_parked (s : Blk) (f : Fld) (i : Nat) : (s.count f i).parked = s.parked := rfl
@[simp] theorem Blk.count_flights (s : Blk) (f : Fld) (i : Nat) : (s.count f i).flights = s.flights := rfl
@[simp] theorem Blk.count_rr (s : Blk) (f : Fld) (i : Nat) : (s.count f i).rr = s.rr := rfl
@[simp] theorem Blk.count_placedOf (s : Blk) (f : Fld) (i : Nat) : (s.count f i).placedOf = s.placedOf := rfl
@[simp] theorem Blk.count_hmbox (s : Blk) (f : Fld) (i : Nat) : (s.count f i).hmbox = s.hmbox := rfl
@[simp] theorem Blk.count_replies (s : Blk) (f : Fld) (i : Nat) : (s.count f i).replies = s.replies := rfl
@[simp] theorem Blk.count_accepted (s : Blk) (f : Fld) (i : Nat) : (s.count f i).accepted = s.accepted := rfl
@[simp] theorem Blk.count_cmdq (s : Blk) (f : Fld) (i : Nat) : (s.count f i).cmdq = s.cmdq := rfl
@[simp] theorem Blk.count_cmdTurn (s : Blk) (f : Fld) (i : Nat) : (s.count f i).cmdTurn = s.cmdTurn := rfl
@[simp] theorem Blk.count_queues (s : Blk) (f : Fld) (i : Nat) : (s.count f i).queues = s.queues := rfl
@[simp] theorem Blk.count_fns (s : Blk) (f : Fld) (i : Nat) : (s.count f i).fns = s.fns := rfl
@[simp] theorem Blk.count_vecs (s : Blk) (f : Fld) (i : Nat) : (s.count f i).vecs = s.vecs := rfl
@[simp] theorem Blk.count_link (s : Blk) (f : Fld) (i : Nat) : (s.count f i).link = s.link := rfl
@[simp] theorem Blk.count_hreads (s : Blk) (f : Fld) (i : Nat) : (s.count f i).hreads = s.hreads := rfl
@[simp] theorem Blk.count_hnext (s : Blk) (f : Fld) (i : Nat) : (s.count f i).hnext = s.hnext := rfl
@[simp] theorem Blk.count_owner (s : Blk) (f : Fld) (i : Nat) : (s.count f i).owner = s.owner := rfl
@[simp] theorem Blk.count_ins (s : Blk) (f : Fld) (i : Nat) : (s.count f i).ins = s.ins := rfl
@[simp] theorem Blk.count_bias (s : Blk) (f : Fld) (i : Nat) : (s.count f i).bias = s.bias := rfl
@[simp] theorem Blk.count_place (s : Blk) (f : Fld) (i : Nat) : (s.count f i).place = s.place := rfl
@[simp] theorem Blk.count_clus (s : Blk) (f : Fld) (i : Nat) : (s.count f i).clus = s.clus := rfl
@[simp] theorem Blk.count_rel (s : Blk) (f : Fld) (i : Nat) : (s.count f i).rel = s.rel := rfl
@[simp] theorem Blk.count_time (s : Blk) (f : Fld) (i : Nat) : (s.count f i).time = s.time := rfl
@[simp] theorem Blk.count_tts (s : Blk) (f : Fld) (i : Nat) : (s.count f i).tts = s.tts := rfl
@[simp] theorem Blk.count_steps (s : Blk) (f : Fld) (i : Nat) : (s.count f i).steps = s.steps := rfl
@[simp] theorem Blk.count_stepNext (s : Blk) (f : Fld) (i : Nat) : (s.count f i).stepNext = s.stepNext := rfl
@[simp] theorem Blk.count_moves (s : Blk) (f : Fld) (i : Nat) : (s.count f i).moves = s.moves := rfl
@[simp] theorem Blk.count_moveNext (s : Blk) (f : Fld) (i : Nat) : (s.count f i).moveNext = s.moveNext := rfl
@[simp] theorem Blk.count_reqs (s : Blk) (f : Fld) (i : Nat) : (s.count f i).reqs = s.reqs := rfl
@[simp] theorem Blk.count_links (s : Blk) (f : Fld) (i : Nat) : (s.count f i).links = s.links := rfl
@[simp] theorem Blk.count_sendAcc (s : Blk) (f : Fld) (i : Nat) : (s.count f i).sendAcc = s.sendAcc := rfl
@[simp] theorem Blk.count_ctrlIn (s : Blk) (f : Fld) (i : Nat) : (s.count f i).ctrlIn = s.ctrlIn := rfl
@[simp] theorem Blk.count_waitPkts (s : Blk) (f : Fld) (i : Nat) : (s.count f i).waitPkts = s.waitPkts := rfl
@[simp] theorem Blk.count_flows (s : Blk) (f : Fld) (i : Nat) : (s.count f i).flows = s.flows := rfl
@[simp] theorem Blk.count_disc (s : Blk) (f : Fld) (i : Nat) : (s.count f i).disc = s.disc := rfl
@[simp] theorem Blk.count_ports (s : Blk) (f : Fld) (i : Nat) : (s.count f i).ports = s.ports := rfl
@[simp] theorem Blk.count_lports (s : Blk) (f : Fld) (i : Nat) : (s.count f i).lports = s.lports := rfl
@[simp] theorem Blk.count_hutch (s : Blk) (f : Fld) (i : Nat) : (s.count f i).hutch = s.hutch := rfl
@[simp] theorem Blk.count_ft (s : Blk) (f : Fld) (i : Nat) : (s.count f i).ft = s.ft := rfl
@[simp] theorem Blk.count_ctxs (s : Blk) (f : Fld) (i : Nat) : (s.count f i).ctxs = s.ctxs := rfl
@[simp] theorem Blk.count_biasWait (s : Blk) (f : Fld) (i : Nat) : (s.count f i).biasWait = s.biasWait := rfl
@[simp] theorem Blk.count_power (s : Blk) (f : Fld) (i : Nat) : (s.count f i).power = s.power := rfl
@[simp] theorem Blk.count_boot (s : Blk) (f : Fld) (i : Nat) : (s.count f i).boot = s.boot := rfl
@[simp] theorem Blk.count_emu (s : Blk) (f : Fld) (i : Nat) : (s.count f i).emu = s.emu := rfl
@[simp] theorem Blk.count_smbAlert (s : Blk) (f : Fld) (i : Nat) : (s.count f i).smbAlert = s.smbAlert := rfl
@[simp] theorem Blk.count_out (s : Blk) (f : Fld) (i : Nat) : (s.count f i).out = s.out := rfl
@[simp] theorem Blk.count_fresh (s : Blk) (f : Fld) (i : Nat) : (s.count f i).fresh = s.fresh := rfl

/-! ## setCore changes cores -/

@[simp] theorem Blk.setCore_mem (s : Blk) (p : Nat) (c : CoreSt) : (s.setCore p c).mem = s.mem := rfl
@[simp] theorem Blk.setCore_regs (s : Blk) (p : Nat) (c : CoreSt) : (s.setCore p c).regs = s.regs := rfl
@[simp] theorem Blk.setCore_mbox (s : Blk) (p : Nat) (c : CoreSt) : (s.setCore p c).mbox = s.mbox := rfl
@[simp] theorem Blk.setCore_parked (s : Blk) (p : Nat) (c : CoreSt) : (s.setCore p c).parked = s.parked := rfl
@[simp] theorem Blk.setCore_flights (s : Blk) (p : Nat) (c : CoreSt) : (s.setCore p c).flights = s.flights := rfl
@[simp] theorem Blk.setCore_rr (s : Blk) (p : Nat) (c : CoreSt) : (s.setCore p c).rr = s.rr := rfl
@[simp] theorem Blk.setCore_placedOf (s : Blk) (p : Nat) (c : CoreSt) : (s.setCore p c).placedOf = s.placedOf := rfl
@[simp] theorem Blk.setCore_hmbox (s : Blk) (p : Nat) (c : CoreSt) : (s.setCore p c).hmbox = s.hmbox := rfl
@[simp] theorem Blk.setCore_replies (s : Blk) (p : Nat) (c : CoreSt) : (s.setCore p c).replies = s.replies := rfl
@[simp] theorem Blk.setCore_accepted (s : Blk) (p : Nat) (c : CoreSt) : (s.setCore p c).accepted = s.accepted := rfl
@[simp] theorem Blk.setCore_cmdq (s : Blk) (p : Nat) (c : CoreSt) : (s.setCore p c).cmdq = s.cmdq := rfl
@[simp] theorem Blk.setCore_cmdTurn (s : Blk) (p : Nat) (c : CoreSt) : (s.setCore p c).cmdTurn = s.cmdTurn := rfl
@[simp] theorem Blk.setCore_queues (s : Blk) (p : Nat) (c : CoreSt) : (s.setCore p c).queues = s.queues := rfl
@[simp] theorem Blk.setCore_fns (s : Blk) (p : Nat) (c : CoreSt) : (s.setCore p c).fns = s.fns := rfl
@[simp] theorem Blk.setCore_vecs (s : Blk) (p : Nat) (c : CoreSt) : (s.setCore p c).vecs = s.vecs := rfl
@[simp] theorem Blk.setCore_link (s : Blk) (p : Nat) (c : CoreSt) : (s.setCore p c).link = s.link := rfl
@[simp] theorem Blk.setCore_hreads (s : Blk) (p : Nat) (c : CoreSt) : (s.setCore p c).hreads = s.hreads := rfl
@[simp] theorem Blk.setCore_hnext (s : Blk) (p : Nat) (c : CoreSt) : (s.setCore p c).hnext = s.hnext := rfl
@[simp] theorem Blk.setCore_owner (s : Blk) (p : Nat) (c : CoreSt) : (s.setCore p c).owner = s.owner := rfl
@[simp] theorem Blk.setCore_ins (s : Blk) (p : Nat) (c : CoreSt) : (s.setCore p c).ins = s.ins := rfl
@[simp] theorem Blk.setCore_bias (s : Blk) (p : Nat) (c : CoreSt) : (s.setCore p c).bias = s.bias := rfl
@[simp] theorem Blk.setCore_place (s : Blk) (p : Nat) (c : CoreSt) : (s.setCore p c).place = s.place := rfl
@[simp] theorem Blk.setCore_clus (s : Blk) (p : Nat) (c : CoreSt) : (s.setCore p c).clus = s.clus := rfl
@[simp] theorem Blk.setCore_rel (s : Blk) (p : Nat) (c : CoreSt) : (s.setCore p c).rel = s.rel := rfl
@[simp] theorem Blk.setCore_time (s : Blk) (p : Nat) (c : CoreSt) : (s.setCore p c).time = s.time := rfl
@[simp] theorem Blk.setCore_tts (s : Blk) (p : Nat) (c : CoreSt) : (s.setCore p c).tts = s.tts := rfl
@[simp] theorem Blk.setCore_steps (s : Blk) (p : Nat) (c : CoreSt) : (s.setCore p c).steps = s.steps := rfl
@[simp] theorem Blk.setCore_stepNext (s : Blk) (p : Nat) (c : CoreSt) : (s.setCore p c).stepNext = s.stepNext := rfl
@[simp] theorem Blk.setCore_moves (s : Blk) (p : Nat) (c : CoreSt) : (s.setCore p c).moves = s.moves := rfl
@[simp] theorem Blk.setCore_moveNext (s : Blk) (p : Nat) (c : CoreSt) : (s.setCore p c).moveNext = s.moveNext := rfl
@[simp] theorem Blk.setCore_reqs (s : Blk) (p : Nat) (c : CoreSt) : (s.setCore p c).reqs = s.reqs := rfl
@[simp] theorem Blk.setCore_links (s : Blk) (p : Nat) (c : CoreSt) : (s.setCore p c).links = s.links := rfl
@[simp] theorem Blk.setCore_sendAcc (s : Blk) (p : Nat) (c : CoreSt) : (s.setCore p c).sendAcc = s.sendAcc := rfl
@[simp] theorem Blk.setCore_ctrlIn (s : Blk) (p : Nat) (c : CoreSt) : (s.setCore p c).ctrlIn = s.ctrlIn := rfl
@[simp] theorem Blk.setCore_waitPkts (s : Blk) (p : Nat) (c : CoreSt) : (s.setCore p c).waitPkts = s.waitPkts := rfl
@[simp] theorem Blk.setCore_flows (s : Blk) (p : Nat) (c : CoreSt) : (s.setCore p c).flows = s.flows := rfl
@[simp] theorem Blk.setCore_disc (s : Blk) (p : Nat) (c : CoreSt) : (s.setCore p c).disc = s.disc := rfl
@[simp] theorem Blk.setCore_ports (s : Blk) (p : Nat) (c : CoreSt) : (s.setCore p c).ports = s.ports := rfl
@[simp] theorem Blk.setCore_lports (s : Blk) (p : Nat) (c : CoreSt) : (s.setCore p c).lports = s.lports := rfl
@[simp] theorem Blk.setCore_hutch (s : Blk) (p : Nat) (c : CoreSt) : (s.setCore p c).hutch = s.hutch := rfl
@[simp] theorem Blk.setCore_ft (s : Blk) (p : Nat) (c : CoreSt) : (s.setCore p c).ft = s.ft := rfl
@[simp] theorem Blk.setCore_ctxs (s : Blk) (p : Nat) (c : CoreSt) : (s.setCore p c).ctxs = s.ctxs := rfl
@[simp] theorem Blk.setCore_biasWait (s : Blk) (p : Nat) (c : CoreSt) : (s.setCore p c).biasWait = s.biasWait := rfl
@[simp] theorem Blk.setCore_power (s : Blk) (p : Nat) (c : CoreSt) : (s.setCore p c).power = s.power := rfl
@[simp] theorem Blk.setCore_boot (s : Blk) (p : Nat) (c : CoreSt) : (s.setCore p c).boot = s.boot := rfl
@[simp] theorem Blk.setCore_emu (s : Blk) (p : Nat) (c : CoreSt) : (s.setCore p c).emu = s.emu := rfl
@[simp] theorem Blk.setCore_smbAlert (s : Blk) (p : Nat) (c : CoreSt) : (s.setCore p c).smbAlert = s.smbAlert := rfl
@[simp] theorem Blk.setCore_out (s : Blk) (p : Nat) (c : CoreSt) : (s.setCore p c).out = s.out := rfl
@[simp] theorem Blk.setCore_fresh (s : Blk) (p : Nat) (c : CoreSt) : (s.setCore p c).fresh = s.fresh := rfl

/-! ## modCore changes cores -/

@[simp] theorem Blk.modCore_mem (s : Blk) (p : Nat) (f : CoreSt → CoreSt) : (s.modCore p f).mem = s.mem := rfl
@[simp] theorem Blk.modCore_regs (s : Blk) (p : Nat) (f : CoreSt → CoreSt) : (s.modCore p f).regs = s.regs := rfl
@[simp] theorem Blk.modCore_mbox (s : Blk) (p : Nat) (f : CoreSt → CoreSt) : (s.modCore p f).mbox = s.mbox := rfl
@[simp] theorem Blk.modCore_parked (s : Blk) (p : Nat) (f : CoreSt → CoreSt) : (s.modCore p f).parked = s.parked := rfl
@[simp] theorem Blk.modCore_flights (s : Blk) (p : Nat) (f : CoreSt → CoreSt) : (s.modCore p f).flights = s.flights := rfl
@[simp] theorem Blk.modCore_rr (s : Blk) (p : Nat) (f : CoreSt → CoreSt) : (s.modCore p f).rr = s.rr := rfl
@[simp] theorem Blk.modCore_placedOf (s : Blk) (p : Nat) (f : CoreSt → CoreSt) : (s.modCore p f).placedOf = s.placedOf := rfl
@[simp] theorem Blk.modCore_hmbox (s : Blk) (p : Nat) (f : CoreSt → CoreSt) : (s.modCore p f).hmbox = s.hmbox := rfl
@[simp] theorem Blk.modCore_replies (s : Blk) (p : Nat) (f : CoreSt → CoreSt) : (s.modCore p f).replies = s.replies := rfl
@[simp] theorem Blk.modCore_accepted (s : Blk) (p : Nat) (f : CoreSt → CoreSt) : (s.modCore p f).accepted = s.accepted := rfl
@[simp] theorem Blk.modCore_cmdq (s : Blk) (p : Nat) (f : CoreSt → CoreSt) : (s.modCore p f).cmdq = s.cmdq := rfl
@[simp] theorem Blk.modCore_cmdTurn (s : Blk) (p : Nat) (f : CoreSt → CoreSt) : (s.modCore p f).cmdTurn = s.cmdTurn := rfl
@[simp] theorem Blk.modCore_queues (s : Blk) (p : Nat) (f : CoreSt → CoreSt) : (s.modCore p f).queues = s.queues := rfl
@[simp] theorem Blk.modCore_fns (s : Blk) (p : Nat) (f : CoreSt → CoreSt) : (s.modCore p f).fns = s.fns := rfl
@[simp] theorem Blk.modCore_vecs (s : Blk) (p : Nat) (f : CoreSt → CoreSt) : (s.modCore p f).vecs = s.vecs := rfl
@[simp] theorem Blk.modCore_link (s : Blk) (p : Nat) (f : CoreSt → CoreSt) : (s.modCore p f).link = s.link := rfl
@[simp] theorem Blk.modCore_hreads (s : Blk) (p : Nat) (f : CoreSt → CoreSt) : (s.modCore p f).hreads = s.hreads := rfl
@[simp] theorem Blk.modCore_hnext (s : Blk) (p : Nat) (f : CoreSt → CoreSt) : (s.modCore p f).hnext = s.hnext := rfl
@[simp] theorem Blk.modCore_owner (s : Blk) (p : Nat) (f : CoreSt → CoreSt) : (s.modCore p f).owner = s.owner := rfl
@[simp] theorem Blk.modCore_ins (s : Blk) (p : Nat) (f : CoreSt → CoreSt) : (s.modCore p f).ins = s.ins := rfl
@[simp] theorem Blk.modCore_bias (s : Blk) (p : Nat) (f : CoreSt → CoreSt) : (s.modCore p f).bias = s.bias := rfl
@[simp] theorem Blk.modCore_place (s : Blk) (p : Nat) (f : CoreSt → CoreSt) : (s.modCore p f).place = s.place := rfl
@[simp] theorem Blk.modCore_clus (s : Blk) (p : Nat) (f : CoreSt → CoreSt) : (s.modCore p f).clus = s.clus := rfl
@[simp] theorem Blk.modCore_rel (s : Blk) (p : Nat) (f : CoreSt → CoreSt) : (s.modCore p f).rel = s.rel := rfl
@[simp] theorem Blk.modCore_time (s : Blk) (p : Nat) (f : CoreSt → CoreSt) : (s.modCore p f).time = s.time := rfl
@[simp] theorem Blk.modCore_tts (s : Blk) (p : Nat) (f : CoreSt → CoreSt) : (s.modCore p f).tts = s.tts := rfl
@[simp] theorem Blk.modCore_steps (s : Blk) (p : Nat) (f : CoreSt → CoreSt) : (s.modCore p f).steps = s.steps := rfl
@[simp] theorem Blk.modCore_stepNext (s : Blk) (p : Nat) (f : CoreSt → CoreSt) : (s.modCore p f).stepNext = s.stepNext := rfl
@[simp] theorem Blk.modCore_moves (s : Blk) (p : Nat) (f : CoreSt → CoreSt) : (s.modCore p f).moves = s.moves := rfl
@[simp] theorem Blk.modCore_moveNext (s : Blk) (p : Nat) (f : CoreSt → CoreSt) : (s.modCore p f).moveNext = s.moveNext := rfl
@[simp] theorem Blk.modCore_reqs (s : Blk) (p : Nat) (f : CoreSt → CoreSt) : (s.modCore p f).reqs = s.reqs := rfl
@[simp] theorem Blk.modCore_links (s : Blk) (p : Nat) (f : CoreSt → CoreSt) : (s.modCore p f).links = s.links := rfl
@[simp] theorem Blk.modCore_sendAcc (s : Blk) (p : Nat) (f : CoreSt → CoreSt) : (s.modCore p f).sendAcc = s.sendAcc := rfl
@[simp] theorem Blk.modCore_ctrlIn (s : Blk) (p : Nat) (f : CoreSt → CoreSt) : (s.modCore p f).ctrlIn = s.ctrlIn := rfl
@[simp] theorem Blk.modCore_waitPkts (s : Blk) (p : Nat) (f : CoreSt → CoreSt) : (s.modCore p f).waitPkts = s.waitPkts := rfl
@[simp] theorem Blk.modCore_flows (s : Blk) (p : Nat) (f : CoreSt → CoreSt) : (s.modCore p f).flows = s.flows := rfl
@[simp] theorem Blk.modCore_disc (s : Blk) (p : Nat) (f : CoreSt → CoreSt) : (s.modCore p f).disc = s.disc := rfl
@[simp] theorem Blk.modCore_ports (s : Blk) (p : Nat) (f : CoreSt → CoreSt) : (s.modCore p f).ports = s.ports := rfl
@[simp] theorem Blk.modCore_lports (s : Blk) (p : Nat) (f : CoreSt → CoreSt) : (s.modCore p f).lports = s.lports := rfl
@[simp] theorem Blk.modCore_hutch (s : Blk) (p : Nat) (f : CoreSt → CoreSt) : (s.modCore p f).hutch = s.hutch := rfl
@[simp] theorem Blk.modCore_ft (s : Blk) (p : Nat) (f : CoreSt → CoreSt) : (s.modCore p f).ft = s.ft := rfl
@[simp] theorem Blk.modCore_ctxs (s : Blk) (p : Nat) (f : CoreSt → CoreSt) : (s.modCore p f).ctxs = s.ctxs := rfl
@[simp] theorem Blk.modCore_biasWait (s : Blk) (p : Nat) (f : CoreSt → CoreSt) : (s.modCore p f).biasWait = s.biasWait := rfl
@[simp] theorem Blk.modCore_power (s : Blk) (p : Nat) (f : CoreSt → CoreSt) : (s.modCore p f).power = s.power := rfl
@[simp] theorem Blk.modCore_boot (s : Blk) (p : Nat) (f : CoreSt → CoreSt) : (s.modCore p f).boot = s.boot := rfl
@[simp] theorem Blk.modCore_emu (s : Blk) (p : Nat) (f : CoreSt → CoreSt) : (s.modCore p f).emu = s.emu := rfl
@[simp] theorem Blk.modCore_smbAlert (s : Blk) (p : Nat) (f : CoreSt → CoreSt) : (s.modCore p f).smbAlert = s.smbAlert := rfl
@[simp] theorem Blk.modCore_out (s : Blk) (p : Nat) (f : CoreSt → CoreSt) : (s.modCore p f).out = s.out := rfl
@[simp] theorem Blk.modCore_fresh (s : Blk) (p : Nat) (f : CoreSt → CoreSt) : (s.modCore p f).fresh = s.fresh := rfl

/-! ## modTh changes cores -/

@[simp] theorem Blk.modTh_mem (s : Blk) (p t : Nat) (f : Thread → Thread) : (s.modTh p t f).mem = s.mem := rfl
@[simp] theorem Blk.modTh_regs (s : Blk) (p t : Nat) (f : Thread → Thread) : (s.modTh p t f).regs = s.regs := rfl
@[simp] theorem Blk.modTh_mbox (s : Blk) (p t : Nat) (f : Thread → Thread) : (s.modTh p t f).mbox = s.mbox := rfl
@[simp] theorem Blk.modTh_parked (s : Blk) (p t : Nat) (f : Thread → Thread) : (s.modTh p t f).parked = s.parked := rfl
@[simp] theorem Blk.modTh_flights (s : Blk) (p t : Nat) (f : Thread → Thread) : (s.modTh p t f).flights = s.flights := rfl
@[simp] theorem Blk.modTh_rr (s : Blk) (p t : Nat) (f : Thread → Thread) : (s.modTh p t f).rr = s.rr := rfl
@[simp] theorem Blk.modTh_placedOf (s : Blk) (p t : Nat) (f : Thread → Thread) : (s.modTh p t f).placedOf = s.placedOf := rfl
@[simp] theorem Blk.modTh_hmbox (s : Blk) (p t : Nat) (f : Thread → Thread) : (s.modTh p t f).hmbox = s.hmbox := rfl
@[simp] theorem Blk.modTh_replies (s : Blk) (p t : Nat) (f : Thread → Thread) : (s.modTh p t f).replies = s.replies := rfl
@[simp] theorem Blk.modTh_accepted (s : Blk) (p t : Nat) (f : Thread → Thread) : (s.modTh p t f).accepted = s.accepted := rfl
@[simp] theorem Blk.modTh_cmdq (s : Blk) (p t : Nat) (f : Thread → Thread) : (s.modTh p t f).cmdq = s.cmdq := rfl
@[simp] theorem Blk.modTh_cmdTurn (s : Blk) (p t : Nat) (f : Thread → Thread) : (s.modTh p t f).cmdTurn = s.cmdTurn := rfl
@[simp] theorem Blk.modTh_queues (s : Blk) (p t : Nat) (f : Thread → Thread) : (s.modTh p t f).queues = s.queues := rfl
@[simp] theorem Blk.modTh_fns (s : Blk) (p t : Nat) (f : Thread → Thread) : (s.modTh p t f).fns = s.fns := rfl
@[simp] theorem Blk.modTh_vecs (s : Blk) (p t : Nat) (f : Thread → Thread) : (s.modTh p t f).vecs = s.vecs := rfl
@[simp] theorem Blk.modTh_link (s : Blk) (p t : Nat) (f : Thread → Thread) : (s.modTh p t f).link = s.link := rfl
@[simp] theorem Blk.modTh_hreads (s : Blk) (p t : Nat) (f : Thread → Thread) : (s.modTh p t f).hreads = s.hreads := rfl
@[simp] theorem Blk.modTh_hnext (s : Blk) (p t : Nat) (f : Thread → Thread) : (s.modTh p t f).hnext = s.hnext := rfl
@[simp] theorem Blk.modTh_owner (s : Blk) (p t : Nat) (f : Thread → Thread) : (s.modTh p t f).owner = s.owner := rfl
@[simp] theorem Blk.modTh_ins (s : Blk) (p t : Nat) (f : Thread → Thread) : (s.modTh p t f).ins = s.ins := rfl
@[simp] theorem Blk.modTh_bias (s : Blk) (p t : Nat) (f : Thread → Thread) : (s.modTh p t f).bias = s.bias := rfl
@[simp] theorem Blk.modTh_place (s : Blk) (p t : Nat) (f : Thread → Thread) : (s.modTh p t f).place = s.place := rfl
@[simp] theorem Blk.modTh_clus (s : Blk) (p t : Nat) (f : Thread → Thread) : (s.modTh p t f).clus = s.clus := rfl
@[simp] theorem Blk.modTh_rel (s : Blk) (p t : Nat) (f : Thread → Thread) : (s.modTh p t f).rel = s.rel := rfl
@[simp] theorem Blk.modTh_time (s : Blk) (p t : Nat) (f : Thread → Thread) : (s.modTh p t f).time = s.time := rfl
@[simp] theorem Blk.modTh_tts (s : Blk) (p t : Nat) (f : Thread → Thread) : (s.modTh p t f).tts = s.tts := rfl
@[simp] theorem Blk.modTh_steps (s : Blk) (p t : Nat) (f : Thread → Thread) : (s.modTh p t f).steps = s.steps := rfl
@[simp] theorem Blk.modTh_stepNext (s : Blk) (p t : Nat) (f : Thread → Thread) : (s.modTh p t f).stepNext = s.stepNext := rfl
@[simp] theorem Blk.modTh_moves (s : Blk) (p t : Nat) (f : Thread → Thread) : (s.modTh p t f).moves = s.moves := rfl
@[simp] theorem Blk.modTh_moveNext (s : Blk) (p t : Nat) (f : Thread → Thread) : (s.modTh p t f).moveNext = s.moveNext := rfl
@[simp] theorem Blk.modTh_reqs (s : Blk) (p t : Nat) (f : Thread → Thread) : (s.modTh p t f).reqs = s.reqs := rfl
@[simp] theorem Blk.modTh_links (s : Blk) (p t : Nat) (f : Thread → Thread) : (s.modTh p t f).links = s.links := rfl
@[simp] theorem Blk.modTh_sendAcc (s : Blk) (p t : Nat) (f : Thread → Thread) : (s.modTh p t f).sendAcc = s.sendAcc := rfl
@[simp] theorem Blk.modTh_ctrlIn (s : Blk) (p t : Nat) (f : Thread → Thread) : (s.modTh p t f).ctrlIn = s.ctrlIn := rfl
@[simp] theorem Blk.modTh_waitPkts (s : Blk) (p t : Nat) (f : Thread → Thread) : (s.modTh p t f).waitPkts = s.waitPkts := rfl
@[simp] theorem Blk.modTh_flows (s : Blk) (p t : Nat) (f : Thread → Thread) : (s.modTh p t f).flows = s.flows := rfl
@[simp] theorem Blk.modTh_disc (s : Blk) (p t : Nat) (f : Thread → Thread) : (s.modTh p t f).disc = s.disc := rfl
@[simp] theorem Blk.modTh_ports (s : Blk) (p t : Nat) (f : Thread → Thread) : (s.modTh p t f).ports = s.ports := rfl
@[simp] theorem Blk.modTh_lports (s : Blk) (p t : Nat) (f : Thread → Thread) : (s.modTh p t f).lports = s.lports := rfl
@[simp] theorem Blk.modTh_hutch (s : Blk) (p t : Nat) (f : Thread → Thread) : (s.modTh p t f).hutch = s.hutch := rfl
@[simp] theorem Blk.modTh_ft (s : Blk) (p t : Nat) (f : Thread → Thread) : (s.modTh p t f).ft = s.ft := rfl
@[simp] theorem Blk.modTh_ctxs (s : Blk) (p t : Nat) (f : Thread → Thread) : (s.modTh p t f).ctxs = s.ctxs := rfl
@[simp] theorem Blk.modTh_biasWait (s : Blk) (p t : Nat) (f : Thread → Thread) : (s.modTh p t f).biasWait = s.biasWait := rfl
@[simp] theorem Blk.modTh_power (s : Blk) (p t : Nat) (f : Thread → Thread) : (s.modTh p t f).power = s.power := rfl
@[simp] theorem Blk.modTh_boot (s : Blk) (p t : Nat) (f : Thread → Thread) : (s.modTh p t f).boot = s.boot := rfl
@[simp] theorem Blk.modTh_emu (s : Blk) (p t : Nat) (f : Thread → Thread) : (s.modTh p t f).emu = s.emu := rfl
@[simp] theorem Blk.modTh_smbAlert (s : Blk) (p t : Nat) (f : Thread → Thread) : (s.modTh p t f).smbAlert = s.smbAlert := rfl
@[simp] theorem Blk.modTh_out (s : Blk) (p t : Nat) (f : Thread → Thread) : (s.modTh p t f).out = s.out := rfl
@[simp] theorem Blk.modTh_fresh (s : Blk) (p t : Nat) (f : Thread → Thread) : (s.modTh p t f).fresh = s.fresh := rfl

/-! ## emit changes out -/

@[simp] theorem Blk.emit_cores (s : Blk) (o : Out) : (s.emit o).cores = s.cores := rfl
@[simp] theorem Blk.emit_mem (s : Blk) (o : Out) : (s.emit o).mem = s.mem := rfl
@[simp] theorem Blk.emit_regs (s : Blk) (o : Out) : (s.emit o).regs = s.regs := rfl
@[simp] theorem Blk.emit_mbox (s : Blk) (o : Out) : (s.emit o).mbox = s.mbox := rfl
@[simp] theorem Blk.emit_parked (s : Blk) (o : Out) : (s.emit o).parked = s.parked := rfl
@[simp] theorem Blk.emit_flights (s : Blk) (o : Out) : (s.emit o).flights = s.flights := rfl
@[simp] theorem Blk.emit_rr (s : Blk) (o : Out) : (s.emit o).rr = s.rr := rfl
@[simp] theorem Blk.emit_placedOf (s : Blk) (o : Out) : (s.emit o).placedOf = s.placedOf := rfl
@[simp] theorem Blk.emit_hmbox (s : Blk) (o : Out) : (s.emit o).hmbox = s.hmbox := rfl
@[simp] theorem Blk.emit_replies (s : Blk) (o : Out) : (s.emit o).replies = s.replies := rfl
@[simp] theorem Blk.emit_accepted (s : Blk) (o : Out) : (s.emit o).accepted = s.accepted := rfl
@[simp] theorem Blk.emit_cmdq (s : Blk) (o : Out) : (s.emit o).cmdq = s.cmdq := rfl
@[simp] theorem Blk.emit_cmdTurn (s : Blk) (o : Out) : (s.emit o).cmdTurn = s.cmdTurn := rfl
@[simp] theorem Blk.emit_queues (s : Blk) (o : Out) : (s.emit o).queues = s.queues := rfl
@[simp] theorem Blk.emit_fns (s : Blk) (o : Out) : (s.emit o).fns = s.fns := rfl
@[simp] theorem Blk.emit_vecs (s : Blk) (o : Out) : (s.emit o).vecs = s.vecs := rfl
@[simp] theorem Blk.emit_link (s : Blk) (o : Out) : (s.emit o).link = s.link := rfl
@[simp] theorem Blk.emit_hreads (s : Blk) (o : Out) : (s.emit o).hreads = s.hreads := rfl
@[simp] theorem Blk.emit_hnext (s : Blk) (o : Out) : (s.emit o).hnext = s.hnext := rfl
@[simp] theorem Blk.emit_owner (s : Blk) (o : Out) : (s.emit o).owner = s.owner := rfl
@[simp] theorem Blk.emit_ins (s : Blk) (o : Out) : (s.emit o).ins = s.ins := rfl
@[simp] theorem Blk.emit_bias (s : Blk) (o : Out) : (s.emit o).bias = s.bias := rfl
@[simp] theorem Blk.emit_place (s : Blk) (o : Out) : (s.emit o).place = s.place := rfl
@[simp] theorem Blk.emit_clus (s : Blk) (o : Out) : (s.emit o).clus = s.clus := rfl
@[simp] theorem Blk.emit_rel (s : Blk) (o : Out) : (s.emit o).rel = s.rel := rfl
@[simp] theorem Blk.emit_time (s : Blk) (o : Out) : (s.emit o).time = s.time := rfl
@[simp] theorem Blk.emit_tts (s : Blk) (o : Out) : (s.emit o).tts = s.tts := rfl
@[simp] theorem Blk.emit_steps (s : Blk) (o : Out) : (s.emit o).steps = s.steps := rfl
@[simp] theorem Blk.emit_stepNext (s : Blk) (o : Out) : (s.emit o).stepNext = s.stepNext := rfl
@[simp] theorem Blk.emit_moves (s : Blk) (o : Out) : (s.emit o).moves = s.moves := rfl
@[simp] theorem Blk.emit_moveNext (s : Blk) (o : Out) : (s.emit o).moveNext = s.moveNext := rfl
@[simp] theorem Blk.emit_reqs (s : Blk) (o : Out) : (s.emit o).reqs = s.reqs := rfl
@[simp] theorem Blk.emit_links (s : Blk) (o : Out) : (s.emit o).links = s.links := rfl
@[simp] theorem Blk.emit_sendAcc (s : Blk) (o : Out) : (s.emit o).sendAcc = s.sendAcc := rfl
@[simp] theorem Blk.emit_ctrlIn (s : Blk) (o : Out) : (s.emit o).ctrlIn = s.ctrlIn := rfl
@[simp] theorem Blk.emit_waitPkts (s : Blk) (o : Out) : (s.emit o).waitPkts = s.waitPkts := rfl
@[simp] theorem Blk.emit_flows (s : Blk) (o : Out) : (s.emit o).flows = s.flows := rfl
@[simp] theorem Blk.emit_disc (s : Blk) (o : Out) : (s.emit o).disc = s.disc := rfl
@[simp] theorem Blk.emit_ports (s : Blk) (o : Out) : (s.emit o).ports = s.ports := rfl
@[simp] theorem Blk.emit_lports (s : Blk) (o : Out) : (s.emit o).lports = s.lports := rfl
@[simp] theorem Blk.emit_hutch (s : Blk) (o : Out) : (s.emit o).hutch = s.hutch := rfl
@[simp] theorem Blk.emit_ft (s : Blk) (o : Out) : (s.emit o).ft = s.ft := rfl
@[simp] theorem Blk.emit_ctxs (s : Blk) (o : Out) : (s.emit o).ctxs = s.ctxs := rfl
@[simp] theorem Blk.emit_biasWait (s : Blk) (o : Out) : (s.emit o).biasWait = s.biasWait := rfl
@[simp] theorem Blk.emit_power (s : Blk) (o : Out) : (s.emit o).power = s.power := rfl
@[simp] theorem Blk.emit_boot (s : Blk) (o : Out) : (s.emit o).boot = s.boot := rfl
@[simp] theorem Blk.emit_emu (s : Blk) (o : Out) : (s.emit o).emu = s.emu := rfl
@[simp] theorem Blk.emit_smbAlert (s : Blk) (o : Out) : (s.emit o).smbAlert = s.smbAlert := rfl
@[simp] theorem Blk.emit_fresh (s : Blk) (o : Out) : (s.emit o).fresh = s.fresh := rfl

/-! ## drawN changes fresh -/

@[simp] theorem Blk.drawN_cores (s : Blk) (n : Nat) : (s.drawN n).cores = s.cores := rfl
@[simp] theorem Blk.drawN_mem (s : Blk) (n : Nat) : (s.drawN n).mem = s.mem := rfl
@[simp] theorem Blk.drawN_regs (s : Blk) (n : Nat) : (s.drawN n).regs = s.regs := rfl
@[simp] theorem Blk.drawN_mbox (s : Blk) (n : Nat) : (s.drawN n).mbox = s.mbox := rfl
@[simp] theorem Blk.drawN_parked (s : Blk) (n : Nat) : (s.drawN n).parked = s.parked := rfl
@[simp] theorem Blk.drawN_flights (s : Blk) (n : Nat) : (s.drawN n).flights = s.flights := rfl
@[simp] theorem Blk.drawN_rr (s : Blk) (n : Nat) : (s.drawN n).rr = s.rr := rfl
@[simp] theorem Blk.drawN_placedOf (s : Blk) (n : Nat) : (s.drawN n).placedOf = s.placedOf := rfl
@[simp] theorem Blk.drawN_hmbox (s : Blk) (n : Nat) : (s.drawN n).hmbox = s.hmbox := rfl
@[simp] theorem Blk.drawN_replies (s : Blk) (n : Nat) : (s.drawN n).replies = s.replies := rfl
@[simp] theorem Blk.drawN_accepted (s : Blk) (n : Nat) : (s.drawN n).accepted = s.accepted := rfl
@[simp] theorem Blk.drawN_cmdq (s : Blk) (n : Nat) : (s.drawN n).cmdq = s.cmdq := rfl
@[simp] theorem Blk.drawN_cmdTurn (s : Blk) (n : Nat) : (s.drawN n).cmdTurn = s.cmdTurn := rfl
@[simp] theorem Blk.drawN_queues (s : Blk) (n : Nat) : (s.drawN n).queues = s.queues := rfl
@[simp] theorem Blk.drawN_fns (s : Blk) (n : Nat) : (s.drawN n).fns = s.fns := rfl
@[simp] theorem Blk.drawN_vecs (s : Blk) (n : Nat) : (s.drawN n).vecs = s.vecs := rfl
@[simp] theorem Blk.drawN_link (s : Blk) (n : Nat) : (s.drawN n).link = s.link := rfl
@[simp] theorem Blk.drawN_hreads (s : Blk) (n : Nat) : (s.drawN n).hreads = s.hreads := rfl
@[simp] theorem Blk.drawN_hnext (s : Blk) (n : Nat) : (s.drawN n).hnext = s.hnext := rfl
@[simp] theorem Blk.drawN_owner (s : Blk) (n : Nat) : (s.drawN n).owner = s.owner := rfl
@[simp] theorem Blk.drawN_ins (s : Blk) (n : Nat) : (s.drawN n).ins = s.ins := rfl
@[simp] theorem Blk.drawN_bias (s : Blk) (n : Nat) : (s.drawN n).bias = s.bias := rfl
@[simp] theorem Blk.drawN_place (s : Blk) (n : Nat) : (s.drawN n).place = s.place := rfl
@[simp] theorem Blk.drawN_clus (s : Blk) (n : Nat) : (s.drawN n).clus = s.clus := rfl
@[simp] theorem Blk.drawN_rel (s : Blk) (n : Nat) : (s.drawN n).rel = s.rel := rfl
@[simp] theorem Blk.drawN_time (s : Blk) (n : Nat) : (s.drawN n).time = s.time := rfl
@[simp] theorem Blk.drawN_tts (s : Blk) (n : Nat) : (s.drawN n).tts = s.tts := rfl
@[simp] theorem Blk.drawN_steps (s : Blk) (n : Nat) : (s.drawN n).steps = s.steps := rfl
@[simp] theorem Blk.drawN_stepNext (s : Blk) (n : Nat) : (s.drawN n).stepNext = s.stepNext := rfl
@[simp] theorem Blk.drawN_moves (s : Blk) (n : Nat) : (s.drawN n).moves = s.moves := rfl
@[simp] theorem Blk.drawN_moveNext (s : Blk) (n : Nat) : (s.drawN n).moveNext = s.moveNext := rfl
@[simp] theorem Blk.drawN_reqs (s : Blk) (n : Nat) : (s.drawN n).reqs = s.reqs := rfl
@[simp] theorem Blk.drawN_links (s : Blk) (n : Nat) : (s.drawN n).links = s.links := rfl
@[simp] theorem Blk.drawN_sendAcc (s : Blk) (n : Nat) : (s.drawN n).sendAcc = s.sendAcc := rfl
@[simp] theorem Blk.drawN_ctrlIn (s : Blk) (n : Nat) : (s.drawN n).ctrlIn = s.ctrlIn := rfl
@[simp] theorem Blk.drawN_waitPkts (s : Blk) (n : Nat) : (s.drawN n).waitPkts = s.waitPkts := rfl
@[simp] theorem Blk.drawN_flows (s : Blk) (n : Nat) : (s.drawN n).flows = s.flows := rfl
@[simp] theorem Blk.drawN_disc (s : Blk) (n : Nat) : (s.drawN n).disc = s.disc := rfl
@[simp] theorem Blk.drawN_ports (s : Blk) (n : Nat) : (s.drawN n).ports = s.ports := rfl
@[simp] theorem Blk.drawN_lports (s : Blk) (n : Nat) : (s.drawN n).lports = s.lports := rfl
@[simp] theorem Blk.drawN_hutch (s : Blk) (n : Nat) : (s.drawN n).hutch = s.hutch := rfl
@[simp] theorem Blk.drawN_ft (s : Blk) (n : Nat) : (s.drawN n).ft = s.ft := rfl
@[simp] theorem Blk.drawN_ctxs (s : Blk) (n : Nat) : (s.drawN n).ctxs = s.ctxs := rfl
@[simp] theorem Blk.drawN_biasWait (s : Blk) (n : Nat) : (s.drawN n).biasWait = s.biasWait := rfl
@[simp] theorem Blk.drawN_power (s : Blk) (n : Nat) : (s.drawN n).power = s.power := rfl
@[simp] theorem Blk.drawN_boot (s : Blk) (n : Nat) : (s.drawN n).boot = s.boot := rfl
@[simp] theorem Blk.drawN_emu (s : Blk) (n : Nat) : (s.drawN n).emu = s.emu := rfl
@[simp] theorem Blk.drawN_smbAlert (s : Blk) (n : Nat) : (s.drawN n).smbAlert = s.smbAlert := rfl
@[simp] theorem Blk.drawN_out (s : Blk) (n : Nat) : (s.drawN n).out = s.out := rfl

/-! ## setInst changes ins -/

@[simp] theorem Blk.setInst_cores (s : Blk) (i : Nat) (x : Inst) : (s.setInst i x).cores = s.cores := rfl
@[simp] theorem Blk.setInst_mem (s : Blk) (i : Nat) (x : Inst) : (s.setInst i x).mem = s.mem := rfl
@[simp] theorem Blk.setInst_regs (s : Blk) (i : Nat) (x : Inst) : (s.setInst i x).regs = s.regs := rfl
@[simp] theorem Blk.setInst_mbox (s : Blk) (i : Nat) (x : Inst) : (s.setInst i x).mbox = s.mbox := rfl
@[simp] theorem Blk.setInst_parked (s : Blk) (i : Nat) (x : Inst) : (s.setInst i x).parked = s.parked := rfl
@[simp] theorem Blk.setInst_flights (s : Blk) (i : Nat) (x : Inst) : (s.setInst i x).flights = s.flights := rfl
@[simp] theorem Blk.setInst_rr (s : Blk) (i : Nat) (x : Inst) : (s.setInst i x).rr = s.rr := rfl
@[simp] theorem Blk.setInst_placedOf (s : Blk) (i : Nat) (x : Inst) : (s.setInst i x).placedOf = s.placedOf := rfl
@[simp] theorem Blk.setInst_hmbox (s : Blk) (i : Nat) (x : Inst) : (s.setInst i x).hmbox = s.hmbox := rfl
@[simp] theorem Blk.setInst_replies (s : Blk) (i : Nat) (x : Inst) : (s.setInst i x).replies = s.replies := rfl
@[simp] theorem Blk.setInst_accepted (s : Blk) (i : Nat) (x : Inst) : (s.setInst i x).accepted = s.accepted := rfl
@[simp] theorem Blk.setInst_cmdq (s : Blk) (i : Nat) (x : Inst) : (s.setInst i x).cmdq = s.cmdq := rfl
@[simp] theorem Blk.setInst_cmdTurn (s : Blk) (i : Nat) (x : Inst) : (s.setInst i x).cmdTurn = s.cmdTurn := rfl
@[simp] theorem Blk.setInst_queues (s : Blk) (i : Nat) (x : Inst) : (s.setInst i x).queues = s.queues := rfl
@[simp] theorem Blk.setInst_fns (s : Blk) (i : Nat) (x : Inst) : (s.setInst i x).fns = s.fns := rfl
@[simp] theorem Blk.setInst_vecs (s : Blk) (i : Nat) (x : Inst) : (s.setInst i x).vecs = s.vecs := rfl
@[simp] theorem Blk.setInst_link (s : Blk) (i : Nat) (x : Inst) : (s.setInst i x).link = s.link := rfl
@[simp] theorem Blk.setInst_hreads (s : Blk) (i : Nat) (x : Inst) : (s.setInst i x).hreads = s.hreads := rfl
@[simp] theorem Blk.setInst_hnext (s : Blk) (i : Nat) (x : Inst) : (s.setInst i x).hnext = s.hnext := rfl
@[simp] theorem Blk.setInst_owner (s : Blk) (i : Nat) (x : Inst) : (s.setInst i x).owner = s.owner := rfl
@[simp] theorem Blk.setInst_bias (s : Blk) (i : Nat) (x : Inst) : (s.setInst i x).bias = s.bias := rfl
@[simp] theorem Blk.setInst_place (s : Blk) (i : Nat) (x : Inst) : (s.setInst i x).place = s.place := rfl
@[simp] theorem Blk.setInst_clus (s : Blk) (i : Nat) (x : Inst) : (s.setInst i x).clus = s.clus := rfl
@[simp] theorem Blk.setInst_rel (s : Blk) (i : Nat) (x : Inst) : (s.setInst i x).rel = s.rel := rfl
@[simp] theorem Blk.setInst_time (s : Blk) (i : Nat) (x : Inst) : (s.setInst i x).time = s.time := rfl
@[simp] theorem Blk.setInst_tts (s : Blk) (i : Nat) (x : Inst) : (s.setInst i x).tts = s.tts := rfl
@[simp] theorem Blk.setInst_steps (s : Blk) (i : Nat) (x : Inst) : (s.setInst i x).steps = s.steps := rfl
@[simp] theorem Blk.setInst_stepNext (s : Blk) (i : Nat) (x : Inst) : (s.setInst i x).stepNext = s.stepNext := rfl
@[simp] theorem Blk.setInst_moves (s : Blk) (i : Nat) (x : Inst) : (s.setInst i x).moves = s.moves := rfl
@[simp] theorem Blk.setInst_moveNext (s : Blk) (i : Nat) (x : Inst) : (s.setInst i x).moveNext = s.moveNext := rfl
@[simp] theorem Blk.setInst_reqs (s : Blk) (i : Nat) (x : Inst) : (s.setInst i x).reqs = s.reqs := rfl
@[simp] theorem Blk.setInst_links (s : Blk) (i : Nat) (x : Inst) : (s.setInst i x).links = s.links := rfl
@[simp] theorem Blk.setInst_sendAcc (s : Blk) (i : Nat) (x : Inst) : (s.setInst i x).sendAcc = s.sendAcc := rfl
@[simp] theorem Blk.setInst_ctrlIn (s : Blk) (i : Nat) (x : Inst) : (s.setInst i x).ctrlIn = s.ctrlIn := rfl
@[simp] theorem Blk.setInst_waitPkts (s : Blk) (i : Nat) (x : Inst) : (s.setInst i x).waitPkts = s.waitPkts := rfl
@[simp] theorem Blk.setInst_flows (s : Blk) (i : Nat) (x : Inst) : (s.setInst i x).flows = s.flows := rfl
@[simp] theorem Blk.setInst_disc (s : Blk) (i : Nat) (x : Inst) : (s.setInst i x).disc = s.disc := rfl
@[simp] theorem Blk.setInst_ports (s : Blk) (i : Nat) (x : Inst) : (s.setInst i x).ports = s.ports := rfl
@[simp] theorem Blk.setInst_lports (s : Blk) (i : Nat) (x : Inst) : (s.setInst i x).lports = s.lports := rfl
@[simp] theorem Blk.setInst_hutch (s : Blk) (i : Nat) (x : Inst) : (s.setInst i x).hutch = s.hutch := rfl
@[simp] theorem Blk.setInst_ft (s : Blk) (i : Nat) (x : Inst) : (s.setInst i x).ft = s.ft := rfl
@[simp] theorem Blk.setInst_ctxs (s : Blk) (i : Nat) (x : Inst) : (s.setInst i x).ctxs = s.ctxs := rfl
@[simp] theorem Blk.setInst_biasWait (s : Blk) (i : Nat) (x : Inst) : (s.setInst i x).biasWait = s.biasWait := rfl
@[simp] theorem Blk.setInst_power (s : Blk) (i : Nat) (x : Inst) : (s.setInst i x).power = s.power := rfl
@[simp] theorem Blk.setInst_boot (s : Blk) (i : Nat) (x : Inst) : (s.setInst i x).boot = s.boot := rfl
@[simp] theorem Blk.setInst_emu (s : Blk) (i : Nat) (x : Inst) : (s.setInst i x).emu = s.emu := rfl
@[simp] theorem Blk.setInst_smbAlert (s : Blk) (i : Nat) (x : Inst) : (s.setInst i x).smbAlert = s.smbAlert := rfl
@[simp] theorem Blk.setInst_out (s : Blk) (i : Nat) (x : Inst) : (s.setInst i x).out = s.out := rfl
@[simp] theorem Blk.setInst_fresh (s : Blk) (i : Nat) (x : Inst) : (s.setInst i x).fresh = s.fresh := rfl

/-! ## modInst changes ins -/

@[simp] theorem Blk.modInst_cores (s : Blk) (i : Nat) (f : Inst → Inst) : (s.modInst i f).cores = s.cores := rfl
@[simp] theorem Blk.modInst_mem (s : Blk) (i : Nat) (f : Inst → Inst) : (s.modInst i f).mem = s.mem := rfl
@[simp] theorem Blk.modInst_regs (s : Blk) (i : Nat) (f : Inst → Inst) : (s.modInst i f).regs = s.regs := rfl
@[simp] theorem Blk.modInst_mbox (s : Blk) (i : Nat) (f : Inst → Inst) : (s.modInst i f).mbox = s.mbox := rfl
@[simp] theorem Blk.modInst_parked (s : Blk) (i : Nat) (f : Inst → Inst) : (s.modInst i f).parked = s.parked := rfl
@[simp] theorem Blk.modInst_flights (s : Blk) (i : Nat) (f : Inst → Inst) : (s.modInst i f).flights = s.flights := rfl
@[simp] theorem Blk.modInst_rr (s : Blk) (i : Nat) (f : Inst → Inst) : (s.modInst i f).rr = s.rr := rfl
@[simp] theorem Blk.modInst_placedOf (s : Blk) (i : Nat) (f : Inst → Inst) : (s.modInst i f).placedOf = s.placedOf := rfl
@[simp] theorem Blk.modInst_hmbox (s : Blk) (i : Nat) (f : Inst → Inst) : (s.modInst i f).hmbox = s.hmbox := rfl
@[simp] theorem Blk.modInst_replies (s : Blk) (i : Nat) (f : Inst → Inst) : (s.modInst i f).replies = s.replies := rfl
@[simp] theorem Blk.modInst_accepted (s : Blk) (i : Nat) (f : Inst → Inst) : (s.modInst i f).accepted = s.accepted := rfl
@[simp] theorem Blk.modInst_cmdq (s : Blk) (i : Nat) (f : Inst → Inst) : (s.modInst i f).cmdq = s.cmdq := rfl
@[simp] theorem Blk.modInst_cmdTurn (s : Blk) (i : Nat) (f : Inst → Inst) : (s.modInst i f).cmdTurn = s.cmdTurn := rfl
@[simp] theorem Blk.modInst_queues (s : Blk) (i : Nat) (f : Inst → Inst) : (s.modInst i f).queues = s.queues := rfl
@[simp] theorem Blk.modInst_fns (s : Blk) (i : Nat) (f : Inst → Inst) : (s.modInst i f).fns = s.fns := rfl
@[simp] theorem Blk.modInst_vecs (s : Blk) (i : Nat) (f : Inst → Inst) : (s.modInst i f).vecs = s.vecs := rfl
@[simp] theorem Blk.modInst_link (s : Blk) (i : Nat) (f : Inst → Inst) : (s.modInst i f).link = s.link := rfl
@[simp] theorem Blk.modInst_hreads (s : Blk) (i : Nat) (f : Inst → Inst) : (s.modInst i f).hreads = s.hreads := rfl
@[simp] theorem Blk.modInst_hnext (s : Blk) (i : Nat) (f : Inst → Inst) : (s.modInst i f).hnext = s.hnext := rfl
@[simp] theorem Blk.modInst_owner (s : Blk) (i : Nat) (f : Inst → Inst) : (s.modInst i f).owner = s.owner := rfl
@[simp] theorem Blk.modInst_bias (s : Blk) (i : Nat) (f : Inst → Inst) : (s.modInst i f).bias = s.bias := rfl
@[simp] theorem Blk.modInst_place (s : Blk) (i : Nat) (f : Inst → Inst) : (s.modInst i f).place = s.place := rfl
@[simp] theorem Blk.modInst_clus (s : Blk) (i : Nat) (f : Inst → Inst) : (s.modInst i f).clus = s.clus := rfl
@[simp] theorem Blk.modInst_rel (s : Blk) (i : Nat) (f : Inst → Inst) : (s.modInst i f).rel = s.rel := rfl
@[simp] theorem Blk.modInst_time (s : Blk) (i : Nat) (f : Inst → Inst) : (s.modInst i f).time = s.time := rfl
@[simp] theorem Blk.modInst_tts (s : Blk) (i : Nat) (f : Inst → Inst) : (s.modInst i f).tts = s.tts := rfl
@[simp] theorem Blk.modInst_steps (s : Blk) (i : Nat) (f : Inst → Inst) : (s.modInst i f).steps = s.steps := rfl
@[simp] theorem Blk.modInst_stepNext (s : Blk) (i : Nat) (f : Inst → Inst) : (s.modInst i f).stepNext = s.stepNext := rfl
@[simp] theorem Blk.modInst_moves (s : Blk) (i : Nat) (f : Inst → Inst) : (s.modInst i f).moves = s.moves := rfl
@[simp] theorem Blk.modInst_moveNext (s : Blk) (i : Nat) (f : Inst → Inst) : (s.modInst i f).moveNext = s.moveNext := rfl
@[simp] theorem Blk.modInst_reqs (s : Blk) (i : Nat) (f : Inst → Inst) : (s.modInst i f).reqs = s.reqs := rfl
@[simp] theorem Blk.modInst_links (s : Blk) (i : Nat) (f : Inst → Inst) : (s.modInst i f).links = s.links := rfl
@[simp] theorem Blk.modInst_sendAcc (s : Blk) (i : Nat) (f : Inst → Inst) : (s.modInst i f).sendAcc = s.sendAcc := rfl
@[simp] theorem Blk.modInst_ctrlIn (s : Blk) (i : Nat) (f : Inst → Inst) : (s.modInst i f).ctrlIn = s.ctrlIn := rfl
@[simp] theorem Blk.modInst_waitPkts (s : Blk) (i : Nat) (f : Inst → Inst) : (s.modInst i f).waitPkts = s.waitPkts := rfl
@[simp] theorem Blk.modInst_flows (s : Blk) (i : Nat) (f : Inst → Inst) : (s.modInst i f).flows = s.flows := rfl
@[simp] theorem Blk.modInst_disc (s : Blk) (i : Nat) (f : Inst → Inst) : (s.modInst i f).disc = s.disc := rfl
@[simp] theorem Blk.modInst_ports (s : Blk) (i : Nat) (f : Inst → Inst) : (s.modInst i f).ports = s.ports := rfl
@[simp] theorem Blk.modInst_lports (s : Blk) (i : Nat) (f : Inst → Inst) : (s.modInst i f).lports = s.lports := rfl
@[simp] theorem Blk.modInst_hutch (s : Blk) (i : Nat) (f : Inst → Inst) : (s.modInst i f).hutch = s.hutch := rfl
@[simp] theorem Blk.modInst_ft (s : Blk) (i : Nat) (f : Inst → Inst) : (s.modInst i f).ft = s.ft := rfl
@[simp] theorem Blk.modInst_ctxs (s : Blk) (i : Nat) (f : Inst → Inst) : (s.modInst i f).ctxs = s.ctxs := rfl
@[simp] theorem Blk.modInst_biasWait (s : Blk) (i : Nat) (f : Inst → Inst) : (s.modInst i f).biasWait = s.biasWait := rfl
@[simp] theorem Blk.modInst_power (s : Blk) (i : Nat) (f : Inst → Inst) : (s.modInst i f).power = s.power := rfl
@[simp] theorem Blk.modInst_boot (s : Blk) (i : Nat) (f : Inst → Inst) : (s.modInst i f).boot = s.boot := rfl
@[simp] theorem Blk.modInst_emu (s : Blk) (i : Nat) (f : Inst → Inst) : (s.modInst i f).emu = s.emu := rfl
@[simp] theorem Blk.modInst_smbAlert (s : Blk) (i : Nat) (f : Inst → Inst) : (s.modInst i f).smbAlert = s.smbAlert := rfl
@[simp] theorem Blk.modInst_out (s : Blk) (i : Nat) (f : Inst → Inst) : (s.modInst i f).out = s.out := rfl
@[simp] theorem Blk.modInst_fresh (s : Blk) (i : Nat) (f : Inst → Inst) : (s.modInst i f).fresh = s.fresh := rfl

/-! ## setQueue changes queues -/

@[simp] theorem Blk.setQueue_cores (s : Blk) (q : Nat) (x : Queue) : (s.setQueue q x).cores = s.cores := rfl
@[simp] theorem Blk.setQueue_mem (s : Blk) (q : Nat) (x : Queue) : (s.setQueue q x).mem = s.mem := rfl
@[simp] theorem Blk.setQueue_regs (s : Blk) (q : Nat) (x : Queue) : (s.setQueue q x).regs = s.regs := rfl
@[simp] theorem Blk.setQueue_mbox (s : Blk) (q : Nat) (x : Queue) : (s.setQueue q x).mbox = s.mbox := rfl
@[simp] theorem Blk.setQueue_parked (s : Blk) (q : Nat) (x : Queue) : (s.setQueue q x).parked = s.parked := rfl
@[simp] theorem Blk.setQueue_flights (s : Blk) (q : Nat) (x : Queue) : (s.setQueue q x).flights = s.flights := rfl
@[simp] theorem Blk.setQueue_rr (s : Blk) (q : Nat) (x : Queue) : (s.setQueue q x).rr = s.rr := rfl
@[simp] theorem Blk.setQueue_placedOf (s : Blk) (q : Nat) (x : Queue) : (s.setQueue q x).placedOf = s.placedOf := rfl
@[simp] theorem Blk.setQueue_hmbox (s : Blk) (q : Nat) (x : Queue) : (s.setQueue q x).hmbox = s.hmbox := rfl
@[simp] theorem Blk.setQueue_replies (s : Blk) (q : Nat) (x : Queue) : (s.setQueue q x).replies = s.replies := rfl
@[simp] theorem Blk.setQueue_accepted (s : Blk) (q : Nat) (x : Queue) : (s.setQueue q x).accepted = s.accepted := rfl
@[simp] theorem Blk.setQueue_cmdq (s : Blk) (q : Nat) (x : Queue) : (s.setQueue q x).cmdq = s.cmdq := rfl
@[simp] theorem Blk.setQueue_cmdTurn (s : Blk) (q : Nat) (x : Queue) : (s.setQueue q x).cmdTurn = s.cmdTurn := rfl
@[simp] theorem Blk.setQueue_fns (s : Blk) (q : Nat) (x : Queue) : (s.setQueue q x).fns = s.fns := rfl
@[simp] theorem Blk.setQueue_vecs (s : Blk) (q : Nat) (x : Queue) : (s.setQueue q x).vecs = s.vecs := rfl
@[simp] theorem Blk.setQueue_link (s : Blk) (q : Nat) (x : Queue) : (s.setQueue q x).link = s.link := rfl
@[simp] theorem Blk.setQueue_hreads (s : Blk) (q : Nat) (x : Queue) : (s.setQueue q x).hreads = s.hreads := rfl
@[simp] theorem Blk.setQueue_hnext (s : Blk) (q : Nat) (x : Queue) : (s.setQueue q x).hnext = s.hnext := rfl
@[simp] theorem Blk.setQueue_owner (s : Blk) (q : Nat) (x : Queue) : (s.setQueue q x).owner = s.owner := rfl
@[simp] theorem Blk.setQueue_ins (s : Blk) (q : Nat) (x : Queue) : (s.setQueue q x).ins = s.ins := rfl
@[simp] theorem Blk.setQueue_bias (s : Blk) (q : Nat) (x : Queue) : (s.setQueue q x).bias = s.bias := rfl
@[simp] theorem Blk.setQueue_place (s : Blk) (q : Nat) (x : Queue) : (s.setQueue q x).place = s.place := rfl
@[simp] theorem Blk.setQueue_clus (s : Blk) (q : Nat) (x : Queue) : (s.setQueue q x).clus = s.clus := rfl
@[simp] theorem Blk.setQueue_rel (s : Blk) (q : Nat) (x : Queue) : (s.setQueue q x).rel = s.rel := rfl
@[simp] theorem Blk.setQueue_time (s : Blk) (q : Nat) (x : Queue) : (s.setQueue q x).time = s.time := rfl
@[simp] theorem Blk.setQueue_tts (s : Blk) (q : Nat) (x : Queue) : (s.setQueue q x).tts = s.tts := rfl
@[simp] theorem Blk.setQueue_steps (s : Blk) (q : Nat) (x : Queue) : (s.setQueue q x).steps = s.steps := rfl
@[simp] theorem Blk.setQueue_stepNext (s : Blk) (q : Nat) (x : Queue) : (s.setQueue q x).stepNext = s.stepNext := rfl
@[simp] theorem Blk.setQueue_moves (s : Blk) (q : Nat) (x : Queue) : (s.setQueue q x).moves = s.moves := rfl
@[simp] theorem Blk.setQueue_moveNext (s : Blk) (q : Nat) (x : Queue) : (s.setQueue q x).moveNext = s.moveNext := rfl
@[simp] theorem Blk.setQueue_reqs (s : Blk) (q : Nat) (x : Queue) : (s.setQueue q x).reqs = s.reqs := rfl
@[simp] theorem Blk.setQueue_links (s : Blk) (q : Nat) (x : Queue) : (s.setQueue q x).links = s.links := rfl
@[simp] theorem Blk.setQueue_sendAcc (s : Blk) (q : Nat) (x : Queue) : (s.setQueue q x).sendAcc = s.sendAcc := rfl
@[simp] theorem Blk.setQueue_ctrlIn (s : Blk) (q : Nat) (x : Queue) : (s.setQueue q x).ctrlIn = s.ctrlIn := rfl
@[simp] theorem Blk.setQueue_waitPkts (s : Blk) (q : Nat) (x : Queue) : (s.setQueue q x).waitPkts = s.waitPkts := rfl
@[simp] theorem Blk.setQueue_flows (s : Blk) (q : Nat) (x : Queue) : (s.setQueue q x).flows = s.flows := rfl
@[simp] theorem Blk.setQueue_disc (s : Blk) (q : Nat) (x : Queue) : (s.setQueue q x).disc = s.disc := rfl
@[simp] theorem Blk.setQueue_ports (s : Blk) (q : Nat) (x : Queue) : (s.setQueue q x).ports = s.ports := rfl
@[simp] theorem Blk.setQueue_lports (s : Blk) (q : Nat) (x : Queue) : (s.setQueue q x).lports = s.lports := rfl
@[simp] theorem Blk.setQueue_hutch (s : Blk) (q : Nat) (x : Queue) : (s.setQueue q x).hutch = s.hutch := rfl
@[simp] theorem Blk.setQueue_ft (s : Blk) (q : Nat) (x : Queue) : (s.setQueue q x).ft = s.ft := rfl
@[simp] theorem Blk.setQueue_ctxs (s : Blk) (q : Nat) (x : Queue) : (s.setQueue q x).ctxs = s.ctxs := rfl
@[simp] theorem Blk.setQueue_biasWait (s : Blk) (q : Nat) (x : Queue) : (s.setQueue q x).biasWait = s.biasWait := rfl
@[simp] theorem Blk.setQueue_power (s : Blk) (q : Nat) (x : Queue) : (s.setQueue q x).power = s.power := rfl
@[simp] theorem Blk.setQueue_boot (s : Blk) (q : Nat) (x : Queue) : (s.setQueue q x).boot = s.boot := rfl
@[simp] theorem Blk.setQueue_emu (s : Blk) (q : Nat) (x : Queue) : (s.setQueue q x).emu = s.emu := rfl
@[simp] theorem Blk.setQueue_smbAlert (s : Blk) (q : Nat) (x : Queue) : (s.setQueue q x).smbAlert = s.smbAlert := rfl
@[simp] theorem Blk.setQueue_out (s : Blk) (q : Nat) (x : Queue) : (s.setQueue q x).out = s.out := rfl
@[simp] theorem Blk.setQueue_fresh (s : Blk) (q : Nat) (x : Queue) : (s.setQueue q x).fresh = s.fresh := rfl

/-! ## modQueue changes queues -/

@[simp] theorem Blk.modQueue_cores (s : Blk) (q : Nat) (f : Queue → Queue) : (s.modQueue q f).cores = s.cores := rfl
@[simp] theorem Blk.modQueue_mem (s : Blk) (q : Nat) (f : Queue → Queue) : (s.modQueue q f).mem = s.mem := rfl
@[simp] theorem Blk.modQueue_regs (s : Blk) (q : Nat) (f : Queue → Queue) : (s.modQueue q f).regs = s.regs := rfl
@[simp] theorem Blk.modQueue_mbox (s : Blk) (q : Nat) (f : Queue → Queue) : (s.modQueue q f).mbox = s.mbox := rfl
@[simp] theorem Blk.modQueue_parked (s : Blk) (q : Nat) (f : Queue → Queue) : (s.modQueue q f).parked = s.parked := rfl
@[simp] theorem Blk.modQueue_flights (s : Blk) (q : Nat) (f : Queue → Queue) : (s.modQueue q f).flights = s.flights := rfl
@[simp] theorem Blk.modQueue_rr (s : Blk) (q : Nat) (f : Queue → Queue) : (s.modQueue q f).rr = s.rr := rfl
@[simp] theorem Blk.modQueue_placedOf (s : Blk) (q : Nat) (f : Queue → Queue) : (s.modQueue q f).placedOf = s.placedOf := rfl
@[simp] theorem Blk.modQueue_hmbox (s : Blk) (q : Nat) (f : Queue → Queue) : (s.modQueue q f).hmbox = s.hmbox := rfl
@[simp] theorem Blk.modQueue_replies (s : Blk) (q : Nat) (f : Queue → Queue) : (s.modQueue q f).replies = s.replies := rfl
@[simp] theorem Blk.modQueue_accepted (s : Blk) (q : Nat) (f : Queue → Queue) : (s.modQueue q f).accepted = s.accepted := rfl
@[simp] theorem Blk.modQueue_cmdq (s : Blk) (q : Nat) (f : Queue → Queue) : (s.modQueue q f).cmdq = s.cmdq := rfl
@[simp] theorem Blk.modQueue_cmdTurn (s : Blk) (q : Nat) (f : Queue → Queue) : (s.modQueue q f).cmdTurn = s.cmdTurn := rfl
@[simp] theorem Blk.modQueue_fns (s : Blk) (q : Nat) (f : Queue → Queue) : (s.modQueue q f).fns = s.fns := rfl
@[simp] theorem Blk.modQueue_vecs (s : Blk) (q : Nat) (f : Queue → Queue) : (s.modQueue q f).vecs = s.vecs := rfl
@[simp] theorem Blk.modQueue_link (s : Blk) (q : Nat) (f : Queue → Queue) : (s.modQueue q f).link = s.link := rfl
@[simp] theorem Blk.modQueue_hreads (s : Blk) (q : Nat) (f : Queue → Queue) : (s.modQueue q f).hreads = s.hreads := rfl
@[simp] theorem Blk.modQueue_hnext (s : Blk) (q : Nat) (f : Queue → Queue) : (s.modQueue q f).hnext = s.hnext := rfl
@[simp] theorem Blk.modQueue_owner (s : Blk) (q : Nat) (f : Queue → Queue) : (s.modQueue q f).owner = s.owner := rfl
@[simp] theorem Blk.modQueue_ins (s : Blk) (q : Nat) (f : Queue → Queue) : (s.modQueue q f).ins = s.ins := rfl
@[simp] theorem Blk.modQueue_bias (s : Blk) (q : Nat) (f : Queue → Queue) : (s.modQueue q f).bias = s.bias := rfl
@[simp] theorem Blk.modQueue_place (s : Blk) (q : Nat) (f : Queue → Queue) : (s.modQueue q f).place = s.place := rfl
@[simp] theorem Blk.modQueue_clus (s : Blk) (q : Nat) (f : Queue → Queue) : (s.modQueue q f).clus = s.clus := rfl
@[simp] theorem Blk.modQueue_rel (s : Blk) (q : Nat) (f : Queue → Queue) : (s.modQueue q f).rel = s.rel := rfl
@[simp] theorem Blk.modQueue_time (s : Blk) (q : Nat) (f : Queue → Queue) : (s.modQueue q f).time = s.time := rfl
@[simp] theorem Blk.modQueue_tts (s : Blk) (q : Nat) (f : Queue → Queue) : (s.modQueue q f).tts = s.tts := rfl
@[simp] theorem Blk.modQueue_steps (s : Blk) (q : Nat) (f : Queue → Queue) : (s.modQueue q f).steps = s.steps := rfl
@[simp] theorem Blk.modQueue_stepNext (s : Blk) (q : Nat) (f : Queue → Queue) : (s.modQueue q f).stepNext = s.stepNext := rfl
@[simp] theorem Blk.modQueue_moves (s : Blk) (q : Nat) (f : Queue → Queue) : (s.modQueue q f).moves = s.moves := rfl
@[simp] theorem Blk.modQueue_moveNext (s : Blk) (q : Nat) (f : Queue → Queue) : (s.modQueue q f).moveNext = s.moveNext := rfl
@[simp] theorem Blk.modQueue_reqs (s : Blk) (q : Nat) (f : Queue → Queue) : (s.modQueue q f).reqs = s.reqs := rfl
@[simp] theorem Blk.modQueue_links (s : Blk) (q : Nat) (f : Queue → Queue) : (s.modQueue q f).links = s.links := rfl
@[simp] theorem Blk.modQueue_sendAcc (s : Blk) (q : Nat) (f : Queue → Queue) : (s.modQueue q f).sendAcc = s.sendAcc := rfl
@[simp] theorem Blk.modQueue_ctrlIn (s : Blk) (q : Nat) (f : Queue → Queue) : (s.modQueue q f).ctrlIn = s.ctrlIn := rfl
@[simp] theorem Blk.modQueue_waitPkts (s : Blk) (q : Nat) (f : Queue → Queue) : (s.modQueue q f).waitPkts = s.waitPkts := rfl
@[simp] theorem Blk.modQueue_flows (s : Blk) (q : Nat) (f : Queue → Queue) : (s.modQueue q f).flows = s.flows := rfl
@[simp] theorem Blk.modQueue_disc (s : Blk) (q : Nat) (f : Queue → Queue) : (s.modQueue q f).disc = s.disc := rfl
@[simp] theorem Blk.modQueue_ports (s : Blk) (q : Nat) (f : Queue → Queue) : (s.modQueue q f).ports = s.ports := rfl
@[simp] theorem Blk.modQueue_lports (s : Blk) (q : Nat) (f : Queue → Queue) : (s.modQueue q f).lports = s.lports := rfl
@[simp] theorem Blk.modQueue_hutch (s : Blk) (q : Nat) (f : Queue → Queue) : (s.modQueue q f).hutch = s.hutch := rfl
@[simp] theorem Blk.modQueue_ft (s : Blk) (q : Nat) (f : Queue → Queue) : (s.modQueue q f).ft = s.ft := rfl
@[simp] theorem Blk.modQueue_ctxs (s : Blk) (q : Nat) (f : Queue → Queue) : (s.modQueue q f).ctxs = s.ctxs := rfl
@[simp] theorem Blk.modQueue_biasWait (s : Blk) (q : Nat) (f : Queue → Queue) : (s.modQueue q f).biasWait = s.biasWait := rfl
@[simp] theorem Blk.modQueue_power (s : Blk) (q : Nat) (f : Queue → Queue) : (s.modQueue q f).power = s.power := rfl
@[simp] theorem Blk.modQueue_boot (s : Blk) (q : Nat) (f : Queue → Queue) : (s.modQueue q f).boot = s.boot := rfl
@[simp] theorem Blk.modQueue_emu (s : Blk) (q : Nat) (f : Queue → Queue) : (s.modQueue q f).emu = s.emu := rfl
@[simp] theorem Blk.modQueue_smbAlert (s : Blk) (q : Nat) (f : Queue → Queue) : (s.modQueue q f).smbAlert = s.smbAlert := rfl
@[simp] theorem Blk.modQueue_out (s : Blk) (q : Nat) (f : Queue → Queue) : (s.modQueue q f).out = s.out := rfl
@[simp] theorem Blk.modQueue_fresh (s : Blk) (q : Nat) (f : Queue → Queue) : (s.modQueue q f).fresh = s.fresh := rfl

/-! ## setPl changes place -/

@[simp] theorem Blk.setPl_cores (s : Blk) (g : Nat) (p : Placement) : (s.setPl g p).cores = s.cores := rfl
@[simp] theorem Blk.setPl_mem (s : Blk) (g : Nat) (p : Placement) : (s.setPl g p).mem = s.mem := rfl
@[simp] theorem Blk.setPl_regs (s : Blk) (g : Nat) (p : Placement) : (s.setPl g p).regs = s.regs := rfl
@[simp] theorem Blk.setPl_mbox (s : Blk) (g : Nat) (p : Placement) : (s.setPl g p).mbox = s.mbox := rfl
@[simp] theorem Blk.setPl_parked (s : Blk) (g : Nat) (p : Placement) : (s.setPl g p).parked = s.parked := rfl
@[simp] theorem Blk.setPl_flights (s : Blk) (g : Nat) (p : Placement) : (s.setPl g p).flights = s.flights := rfl
@[simp] theorem Blk.setPl_rr (s : Blk) (g : Nat) (p : Placement) : (s.setPl g p).rr = s.rr := rfl
@[simp] theorem Blk.setPl_placedOf (s : Blk) (g : Nat) (p : Placement) : (s.setPl g p).placedOf = s.placedOf := rfl
@[simp] theorem Blk.setPl_hmbox (s : Blk) (g : Nat) (p : Placement) : (s.setPl g p).hmbox = s.hmbox := rfl
@[simp] theorem Blk.setPl_replies (s : Blk) (g : Nat) (p : Placement) : (s.setPl g p).replies = s.replies := rfl
@[simp] theorem Blk.setPl_accepted (s : Blk) (g : Nat) (p : Placement) : (s.setPl g p).accepted = s.accepted := rfl
@[simp] theorem Blk.setPl_cmdq (s : Blk) (g : Nat) (p : Placement) : (s.setPl g p).cmdq = s.cmdq := rfl
@[simp] theorem Blk.setPl_cmdTurn (s : Blk) (g : Nat) (p : Placement) : (s.setPl g p).cmdTurn = s.cmdTurn := rfl
@[simp] theorem Blk.setPl_queues (s : Blk) (g : Nat) (p : Placement) : (s.setPl g p).queues = s.queues := rfl
@[simp] theorem Blk.setPl_fns (s : Blk) (g : Nat) (p : Placement) : (s.setPl g p).fns = s.fns := rfl
@[simp] theorem Blk.setPl_vecs (s : Blk) (g : Nat) (p : Placement) : (s.setPl g p).vecs = s.vecs := rfl
@[simp] theorem Blk.setPl_link (s : Blk) (g : Nat) (p : Placement) : (s.setPl g p).link = s.link := rfl
@[simp] theorem Blk.setPl_hreads (s : Blk) (g : Nat) (p : Placement) : (s.setPl g p).hreads = s.hreads := rfl
@[simp] theorem Blk.setPl_hnext (s : Blk) (g : Nat) (p : Placement) : (s.setPl g p).hnext = s.hnext := rfl
@[simp] theorem Blk.setPl_owner (s : Blk) (g : Nat) (p : Placement) : (s.setPl g p).owner = s.owner := rfl
@[simp] theorem Blk.setPl_ins (s : Blk) (g : Nat) (p : Placement) : (s.setPl g p).ins = s.ins := rfl
@[simp] theorem Blk.setPl_bias (s : Blk) (g : Nat) (p : Placement) : (s.setPl g p).bias = s.bias := rfl
@[simp] theorem Blk.setPl_clus (s : Blk) (g : Nat) (p : Placement) : (s.setPl g p).clus = s.clus := rfl
@[simp] theorem Blk.setPl_rel (s : Blk) (g : Nat) (p : Placement) : (s.setPl g p).rel = s.rel := rfl
@[simp] theorem Blk.setPl_time (s : Blk) (g : Nat) (p : Placement) : (s.setPl g p).time = s.time := rfl
@[simp] theorem Blk.setPl_tts (s : Blk) (g : Nat) (p : Placement) : (s.setPl g p).tts = s.tts := rfl
@[simp] theorem Blk.setPl_steps (s : Blk) (g : Nat) (p : Placement) : (s.setPl g p).steps = s.steps := rfl
@[simp] theorem Blk.setPl_stepNext (s : Blk) (g : Nat) (p : Placement) : (s.setPl g p).stepNext = s.stepNext := rfl
@[simp] theorem Blk.setPl_moves (s : Blk) (g : Nat) (p : Placement) : (s.setPl g p).moves = s.moves := rfl
@[simp] theorem Blk.setPl_moveNext (s : Blk) (g : Nat) (p : Placement) : (s.setPl g p).moveNext = s.moveNext := rfl
@[simp] theorem Blk.setPl_reqs (s : Blk) (g : Nat) (p : Placement) : (s.setPl g p).reqs = s.reqs := rfl
@[simp] theorem Blk.setPl_links (s : Blk) (g : Nat) (p : Placement) : (s.setPl g p).links = s.links := rfl
@[simp] theorem Blk.setPl_sendAcc (s : Blk) (g : Nat) (p : Placement) : (s.setPl g p).sendAcc = s.sendAcc := rfl
@[simp] theorem Blk.setPl_ctrlIn (s : Blk) (g : Nat) (p : Placement) : (s.setPl g p).ctrlIn = s.ctrlIn := rfl
@[simp] theorem Blk.setPl_waitPkts (s : Blk) (g : Nat) (p : Placement) : (s.setPl g p).waitPkts = s.waitPkts := rfl
@[simp] theorem Blk.setPl_flows (s : Blk) (g : Nat) (p : Placement) : (s.setPl g p).flows = s.flows := rfl
@[simp] theorem Blk.setPl_disc (s : Blk) (g : Nat) (p : Placement) : (s.setPl g p).disc = s.disc := rfl
@[simp] theorem Blk.setPl_ports (s : Blk) (g : Nat) (p : Placement) : (s.setPl g p).ports = s.ports := rfl
@[simp] theorem Blk.setPl_lports (s : Blk) (g : Nat) (p : Placement) : (s.setPl g p).lports = s.lports := rfl
@[simp] theorem Blk.setPl_hutch (s : Blk) (g : Nat) (p : Placement) : (s.setPl g p).hutch = s.hutch := rfl
@[simp] theorem Blk.setPl_ft (s : Blk) (g : Nat) (p : Placement) : (s.setPl g p).ft = s.ft := rfl
@[simp] theorem Blk.setPl_ctxs (s : Blk) (g : Nat) (p : Placement) : (s.setPl g p).ctxs = s.ctxs := rfl
@[simp] theorem Blk.setPl_biasWait (s : Blk) (g : Nat) (p : Placement) : (s.setPl g p).biasWait = s.biasWait := rfl
@[simp] theorem Blk.setPl_power (s : Blk) (g : Nat) (p : Placement) : (s.setPl g p).power = s.power := rfl
@[simp] theorem Blk.setPl_boot (s : Blk) (g : Nat) (p : Placement) : (s.setPl g p).boot = s.boot := rfl
@[simp] theorem Blk.setPl_emu (s : Blk) (g : Nat) (p : Placement) : (s.setPl g p).emu = s.emu := rfl
@[simp] theorem Blk.setPl_smbAlert (s : Blk) (g : Nat) (p : Placement) : (s.setPl g p).smbAlert = s.smbAlert := rfl
@[simp] theorem Blk.setPl_out (s : Blk) (g : Nat) (p : Placement) : (s.setPl g p).out = s.out := rfl
@[simp] theorem Blk.setPl_fresh (s : Blk) (g : Nat) (p : Placement) : (s.setPl g p).fresh = s.fresh := rfl

/-! ## modCl changes clus -/

@[simp] theorem Blk.modCl_cores (s : Blk) (g : Nat) (f : ClusterSt → ClusterSt) : (s.modCl g f).cores = s.cores := rfl
@[simp] theorem Blk.modCl_mem (s : Blk) (g : Nat) (f : ClusterSt → ClusterSt) : (s.modCl g f).mem = s.mem := rfl
@[simp] theorem Blk.modCl_regs (s : Blk) (g : Nat) (f : ClusterSt → ClusterSt) : (s.modCl g f).regs = s.regs := rfl
@[simp] theorem Blk.modCl_mbox (s : Blk) (g : Nat) (f : ClusterSt → ClusterSt) : (s.modCl g f).mbox = s.mbox := rfl
@[simp] theorem Blk.modCl_parked (s : Blk) (g : Nat) (f : ClusterSt → ClusterSt) : (s.modCl g f).parked = s.parked := rfl
@[simp] theorem Blk.modCl_flights (s : Blk) (g : Nat) (f : ClusterSt → ClusterSt) : (s.modCl g f).flights = s.flights := rfl
@[simp] theorem Blk.modCl_rr (s : Blk) (g : Nat) (f : ClusterSt → ClusterSt) : (s.modCl g f).rr = s.rr := rfl
@[simp] theorem Blk.modCl_placedOf (s : Blk) (g : Nat) (f : ClusterSt → ClusterSt) : (s.modCl g f).placedOf = s.placedOf := rfl
@[simp] theorem Blk.modCl_hmbox (s : Blk) (g : Nat) (f : ClusterSt → ClusterSt) : (s.modCl g f).hmbox = s.hmbox := rfl
@[simp] theorem Blk.modCl_replies (s : Blk) (g : Nat) (f : ClusterSt → ClusterSt) : (s.modCl g f).replies = s.replies := rfl
@[simp] theorem Blk.modCl_accepted (s : Blk) (g : Nat) (f : ClusterSt → ClusterSt) : (s.modCl g f).accepted = s.accepted := rfl
@[simp] theorem Blk.modCl_cmdq (s : Blk) (g : Nat) (f : ClusterSt → ClusterSt) : (s.modCl g f).cmdq = s.cmdq := rfl
@[simp] theorem Blk.modCl_cmdTurn (s : Blk) (g : Nat) (f : ClusterSt → ClusterSt) : (s.modCl g f).cmdTurn = s.cmdTurn := rfl
@[simp] theorem Blk.modCl_queues (s : Blk) (g : Nat) (f : ClusterSt → ClusterSt) : (s.modCl g f).queues = s.queues := rfl
@[simp] theorem Blk.modCl_fns (s : Blk) (g : Nat) (f : ClusterSt → ClusterSt) : (s.modCl g f).fns = s.fns := rfl
@[simp] theorem Blk.modCl_vecs (s : Blk) (g : Nat) (f : ClusterSt → ClusterSt) : (s.modCl g f).vecs = s.vecs := rfl
@[simp] theorem Blk.modCl_link (s : Blk) (g : Nat) (f : ClusterSt → ClusterSt) : (s.modCl g f).link = s.link := rfl
@[simp] theorem Blk.modCl_hreads (s : Blk) (g : Nat) (f : ClusterSt → ClusterSt) : (s.modCl g f).hreads = s.hreads := rfl
@[simp] theorem Blk.modCl_hnext (s : Blk) (g : Nat) (f : ClusterSt → ClusterSt) : (s.modCl g f).hnext = s.hnext := rfl
@[simp] theorem Blk.modCl_owner (s : Blk) (g : Nat) (f : ClusterSt → ClusterSt) : (s.modCl g f).owner = s.owner := rfl
@[simp] theorem Blk.modCl_ins (s : Blk) (g : Nat) (f : ClusterSt → ClusterSt) : (s.modCl g f).ins = s.ins := rfl
@[simp] theorem Blk.modCl_bias (s : Blk) (g : Nat) (f : ClusterSt → ClusterSt) : (s.modCl g f).bias = s.bias := rfl
@[simp] theorem Blk.modCl_place (s : Blk) (g : Nat) (f : ClusterSt → ClusterSt) : (s.modCl g f).place = s.place := rfl
@[simp] theorem Blk.modCl_rel (s : Blk) (g : Nat) (f : ClusterSt → ClusterSt) : (s.modCl g f).rel = s.rel := rfl
@[simp] theorem Blk.modCl_time (s : Blk) (g : Nat) (f : ClusterSt → ClusterSt) : (s.modCl g f).time = s.time := rfl
@[simp] theorem Blk.modCl_tts (s : Blk) (g : Nat) (f : ClusterSt → ClusterSt) : (s.modCl g f).tts = s.tts := rfl
@[simp] theorem Blk.modCl_steps (s : Blk) (g : Nat) (f : ClusterSt → ClusterSt) : (s.modCl g f).steps = s.steps := rfl
@[simp] theorem Blk.modCl_stepNext (s : Blk) (g : Nat) (f : ClusterSt → ClusterSt) : (s.modCl g f).stepNext = s.stepNext := rfl
@[simp] theorem Blk.modCl_moves (s : Blk) (g : Nat) (f : ClusterSt → ClusterSt) : (s.modCl g f).moves = s.moves := rfl
@[simp] theorem Blk.modCl_moveNext (s : Blk) (g : Nat) (f : ClusterSt → ClusterSt) : (s.modCl g f).moveNext = s.moveNext := rfl
@[simp] theorem Blk.modCl_reqs (s : Blk) (g : Nat) (f : ClusterSt → ClusterSt) : (s.modCl g f).reqs = s.reqs := rfl
@[simp] theorem Blk.modCl_links (s : Blk) (g : Nat) (f : ClusterSt → ClusterSt) : (s.modCl g f).links = s.links := rfl
@[simp] theorem Blk.modCl_sendAcc (s : Blk) (g : Nat) (f : ClusterSt → ClusterSt) : (s.modCl g f).sendAcc = s.sendAcc := rfl
@[simp] theorem Blk.modCl_ctrlIn (s : Blk) (g : Nat) (f : ClusterSt → ClusterSt) : (s.modCl g f).ctrlIn = s.ctrlIn := rfl
@[simp] theorem Blk.modCl_waitPkts (s : Blk) (g : Nat) (f : ClusterSt → ClusterSt) : (s.modCl g f).waitPkts = s.waitPkts := rfl
@[simp] theorem Blk.modCl_flows (s : Blk) (g : Nat) (f : ClusterSt → ClusterSt) : (s.modCl g f).flows = s.flows := rfl
@[simp] theorem Blk.modCl_disc (s : Blk) (g : Nat) (f : ClusterSt → ClusterSt) : (s.modCl g f).disc = s.disc := rfl
@[simp] theorem Blk.modCl_ports (s : Blk) (g : Nat) (f : ClusterSt → ClusterSt) : (s.modCl g f).ports = s.ports := rfl
@[simp] theorem Blk.modCl_lports (s : Blk) (g : Nat) (f : ClusterSt → ClusterSt) : (s.modCl g f).lports = s.lports := rfl
@[simp] theorem Blk.modCl_hutch (s : Blk) (g : Nat) (f : ClusterSt → ClusterSt) : (s.modCl g f).hutch = s.hutch := rfl
@[simp] theorem Blk.modCl_ft (s : Blk) (g : Nat) (f : ClusterSt → ClusterSt) : (s.modCl g f).ft = s.ft := rfl
@[simp] theorem Blk.modCl_ctxs (s : Blk) (g : Nat) (f : ClusterSt → ClusterSt) : (s.modCl g f).ctxs = s.ctxs := rfl
@[simp] theorem Blk.modCl_biasWait (s : Blk) (g : Nat) (f : ClusterSt → ClusterSt) : (s.modCl g f).biasWait = s.biasWait := rfl
@[simp] theorem Blk.modCl_power (s : Blk) (g : Nat) (f : ClusterSt → ClusterSt) : (s.modCl g f).power = s.power := rfl
@[simp] theorem Blk.modCl_boot (s : Blk) (g : Nat) (f : ClusterSt → ClusterSt) : (s.modCl g f).boot = s.boot := rfl
@[simp] theorem Blk.modCl_emu (s : Blk) (g : Nat) (f : ClusterSt → ClusterSt) : (s.modCl g f).emu = s.emu := rfl
@[simp] theorem Blk.modCl_smbAlert (s : Blk) (g : Nat) (f : ClusterSt → ClusterSt) : (s.modCl g f).smbAlert = s.smbAlert := rfl
@[simp] theorem Blk.modCl_out (s : Blk) (g : Nat) (f : ClusterSt → ClusterSt) : (s.modCl g f).out = s.out := rfl
@[simp] theorem Blk.modCl_fresh (s : Blk) (g : Nat) (f : ClusterSt → ClusterSt) : (s.modCl g f).fresh = s.fresh := rfl

/-! ## setMb changes mbox -/

@[simp] theorem Blk.setMb_cores (s : Blk) (p : Nat) (m : MBox) : (s.setMb p m).cores = s.cores := rfl
@[simp] theorem Blk.setMb_mem (s : Blk) (p : Nat) (m : MBox) : (s.setMb p m).mem = s.mem := rfl
@[simp] theorem Blk.setMb_parked (s : Blk) (p : Nat) (m : MBox) : (s.setMb p m).parked = s.parked := rfl
@[simp] theorem Blk.setMb_flights (s : Blk) (p : Nat) (m : MBox) : (s.setMb p m).flights = s.flights := rfl
@[simp] theorem Blk.setMb_rr (s : Blk) (p : Nat) (m : MBox) : (s.setMb p m).rr = s.rr := rfl
@[simp] theorem Blk.setMb_placedOf (s : Blk) (p : Nat) (m : MBox) : (s.setMb p m).placedOf = s.placedOf := rfl
@[simp] theorem Blk.setMb_regs (s : Blk) (p : Nat) (m : MBox) : (s.setMb p m).regs = s.regs := rfl
@[simp] theorem Blk.setMb_hmbox (s : Blk) (p : Nat) (m : MBox) : (s.setMb p m).hmbox = s.hmbox := rfl
@[simp] theorem Blk.setMb_replies (s : Blk) (p : Nat) (m : MBox) : (s.setMb p m).replies = s.replies := rfl
@[simp] theorem Blk.setMb_accepted (s : Blk) (p : Nat) (m : MBox) : (s.setMb p m).accepted = s.accepted := rfl
@[simp] theorem Blk.setMb_cmdq (s : Blk) (p : Nat) (m : MBox) : (s.setMb p m).cmdq = s.cmdq := rfl
@[simp] theorem Blk.setMb_cmdTurn (s : Blk) (p : Nat) (m : MBox) : (s.setMb p m).cmdTurn = s.cmdTurn := rfl
@[simp] theorem Blk.setMb_queues (s : Blk) (p : Nat) (m : MBox) : (s.setMb p m).queues = s.queues := rfl
@[simp] theorem Blk.setMb_fns (s : Blk) (p : Nat) (m : MBox) : (s.setMb p m).fns = s.fns := rfl
@[simp] theorem Blk.setMb_vecs (s : Blk) (p : Nat) (m : MBox) : (s.setMb p m).vecs = s.vecs := rfl
@[simp] theorem Blk.setMb_link (s : Blk) (p : Nat) (m : MBox) : (s.setMb p m).link = s.link := rfl
@[simp] theorem Blk.setMb_hreads (s : Blk) (p : Nat) (m : MBox) : (s.setMb p m).hreads = s.hreads := rfl
@[simp] theorem Blk.setMb_hnext (s : Blk) (p : Nat) (m : MBox) : (s.setMb p m).hnext = s.hnext := rfl
@[simp] theorem Blk.setMb_owner (s : Blk) (p : Nat) (m : MBox) : (s.setMb p m).owner = s.owner := rfl
@[simp] theorem Blk.setMb_ins (s : Blk) (p : Nat) (m : MBox) : (s.setMb p m).ins = s.ins := rfl
@[simp] theorem Blk.setMb_bias (s : Blk) (p : Nat) (m : MBox) : (s.setMb p m).bias = s.bias := rfl
@[simp] theorem Blk.setMb_place (s : Blk) (p : Nat) (m : MBox) : (s.setMb p m).place = s.place := rfl
@[simp] theorem Blk.setMb_clus (s : Blk) (p : Nat) (m : MBox) : (s.setMb p m).clus = s.clus := rfl
@[simp] theorem Blk.setMb_rel (s : Blk) (p : Nat) (m : MBox) : (s.setMb p m).rel = s.rel := rfl
@[simp] theorem Blk.setMb_time (s : Blk) (p : Nat) (m : MBox) : (s.setMb p m).time = s.time := rfl
@[simp] theorem Blk.setMb_tts (s : Blk) (p : Nat) (m : MBox) : (s.setMb p m).tts = s.tts := rfl
@[simp] theorem Blk.setMb_steps (s : Blk) (p : Nat) (m : MBox) : (s.setMb p m).steps = s.steps := rfl
@[simp] theorem Blk.setMb_stepNext (s : Blk) (p : Nat) (m : MBox) : (s.setMb p m).stepNext = s.stepNext := rfl
@[simp] theorem Blk.setMb_moves (s : Blk) (p : Nat) (m : MBox) : (s.setMb p m).moves = s.moves := rfl
@[simp] theorem Blk.setMb_moveNext (s : Blk) (p : Nat) (m : MBox) : (s.setMb p m).moveNext = s.moveNext := rfl
@[simp] theorem Blk.setMb_reqs (s : Blk) (p : Nat) (m : MBox) : (s.setMb p m).reqs = s.reqs := rfl
@[simp] theorem Blk.setMb_links (s : Blk) (p : Nat) (m : MBox) : (s.setMb p m).links = s.links := rfl
@[simp] theorem Blk.setMb_sendAcc (s : Blk) (p : Nat) (m : MBox) : (s.setMb p m).sendAcc = s.sendAcc := rfl
@[simp] theorem Blk.setMb_ctrlIn (s : Blk) (p : Nat) (m : MBox) : (s.setMb p m).ctrlIn = s.ctrlIn := rfl
@[simp] theorem Blk.setMb_waitPkts (s : Blk) (p : Nat) (m : MBox) : (s.setMb p m).waitPkts = s.waitPkts := rfl
@[simp] theorem Blk.setMb_flows (s : Blk) (p : Nat) (m : MBox) : (s.setMb p m).flows = s.flows := rfl
@[simp] theorem Blk.setMb_disc (s : Blk) (p : Nat) (m : MBox) : (s.setMb p m).disc = s.disc := rfl
@[simp] theorem Blk.setMb_ports (s : Blk) (p : Nat) (m : MBox) : (s.setMb p m).ports = s.ports := rfl
@[simp] theorem Blk.setMb_lports (s : Blk) (p : Nat) (m : MBox) : (s.setMb p m).lports = s.lports := rfl
@[simp] theorem Blk.setMb_hutch (s : Blk) (p : Nat) (m : MBox) : (s.setMb p m).hutch = s.hutch := rfl
@[simp] theorem Blk.setMb_ft (s : Blk) (p : Nat) (m : MBox) : (s.setMb p m).ft = s.ft := rfl
@[simp] theorem Blk.setMb_ctxs (s : Blk) (p : Nat) (m : MBox) : (s.setMb p m).ctxs = s.ctxs := rfl
@[simp] theorem Blk.setMb_biasWait (s : Blk) (p : Nat) (m : MBox) : (s.setMb p m).biasWait = s.biasWait := rfl
@[simp] theorem Blk.setMb_power (s : Blk) (p : Nat) (m : MBox) : (s.setMb p m).power = s.power := rfl
@[simp] theorem Blk.setMb_boot (s : Blk) (p : Nat) (m : MBox) : (s.setMb p m).boot = s.boot := rfl
@[simp] theorem Blk.setMb_emu (s : Blk) (p : Nat) (m : MBox) : (s.setMb p m).emu = s.emu := rfl
@[simp] theorem Blk.setMb_smbAlert (s : Blk) (p : Nat) (m : MBox) : (s.setMb p m).smbAlert = s.smbAlert := rfl
@[simp] theorem Blk.setMb_out (s : Blk) (p : Nat) (m : MBox) : (s.setMb p m).out = s.out := rfl
@[simp] theorem Blk.setMb_fresh (s : Blk) (p : Nat) (m : MBox) : (s.setMb p m).fresh = s.fresh := rfl

/-! ## setCtx changes ctxs -/

@[simp] theorem Blk.setCtx_cores (s : Blk) (c : Nat) (x : Ctx) : (s.setCtx c x).cores = s.cores := rfl
@[simp] theorem Blk.setCtx_mem (s : Blk) (c : Nat) (x : Ctx) : (s.setCtx c x).mem = s.mem := rfl
@[simp] theorem Blk.setCtx_regs (s : Blk) (c : Nat) (x : Ctx) : (s.setCtx c x).regs = s.regs := rfl
@[simp] theorem Blk.setCtx_mbox (s : Blk) (c : Nat) (x : Ctx) : (s.setCtx c x).mbox = s.mbox := rfl
@[simp] theorem Blk.setCtx_parked (s : Blk) (c : Nat) (x : Ctx) : (s.setCtx c x).parked = s.parked := rfl
@[simp] theorem Blk.setCtx_flights (s : Blk) (c : Nat) (x : Ctx) : (s.setCtx c x).flights = s.flights := rfl
@[simp] theorem Blk.setCtx_rr (s : Blk) (c : Nat) (x : Ctx) : (s.setCtx c x).rr = s.rr := rfl
@[simp] theorem Blk.setCtx_placedOf (s : Blk) (c : Nat) (x : Ctx) : (s.setCtx c x).placedOf = s.placedOf := rfl
@[simp] theorem Blk.setCtx_hmbox (s : Blk) (c : Nat) (x : Ctx) : (s.setCtx c x).hmbox = s.hmbox := rfl
@[simp] theorem Blk.setCtx_replies (s : Blk) (c : Nat) (x : Ctx) : (s.setCtx c x).replies = s.replies := rfl
@[simp] theorem Blk.setCtx_accepted (s : Blk) (c : Nat) (x : Ctx) : (s.setCtx c x).accepted = s.accepted := rfl
@[simp] theorem Blk.setCtx_cmdq (s : Blk) (c : Nat) (x : Ctx) : (s.setCtx c x).cmdq = s.cmdq := rfl
@[simp] theorem Blk.setCtx_cmdTurn (s : Blk) (c : Nat) (x : Ctx) : (s.setCtx c x).cmdTurn = s.cmdTurn := rfl
@[simp] theorem Blk.setCtx_queues (s : Blk) (c : Nat) (x : Ctx) : (s.setCtx c x).queues = s.queues := rfl
@[simp] theorem Blk.setCtx_fns (s : Blk) (c : Nat) (x : Ctx) : (s.setCtx c x).fns = s.fns := rfl
@[simp] theorem Blk.setCtx_vecs (s : Blk) (c : Nat) (x : Ctx) : (s.setCtx c x).vecs = s.vecs := rfl
@[simp] theorem Blk.setCtx_link (s : Blk) (c : Nat) (x : Ctx) : (s.setCtx c x).link = s.link := rfl
@[simp] theorem Blk.setCtx_hreads (s : Blk) (c : Nat) (x : Ctx) : (s.setCtx c x).hreads = s.hreads := rfl
@[simp] theorem Blk.setCtx_hnext (s : Blk) (c : Nat) (x : Ctx) : (s.setCtx c x).hnext = s.hnext := rfl
@[simp] theorem Blk.setCtx_owner (s : Blk) (c : Nat) (x : Ctx) : (s.setCtx c x).owner = s.owner := rfl
@[simp] theorem Blk.setCtx_ins (s : Blk) (c : Nat) (x : Ctx) : (s.setCtx c x).ins = s.ins := rfl
@[simp] theorem Blk.setCtx_bias (s : Blk) (c : Nat) (x : Ctx) : (s.setCtx c x).bias = s.bias := rfl
@[simp] theorem Blk.setCtx_place (s : Blk) (c : Nat) (x : Ctx) : (s.setCtx c x).place = s.place := rfl
@[simp] theorem Blk.setCtx_clus (s : Blk) (c : Nat) (x : Ctx) : (s.setCtx c x).clus = s.clus := rfl
@[simp] theorem Blk.setCtx_rel (s : Blk) (c : Nat) (x : Ctx) : (s.setCtx c x).rel = s.rel := rfl
@[simp] theorem Blk.setCtx_time (s : Blk) (c : Nat) (x : Ctx) : (s.setCtx c x).time = s.time := rfl
@[simp] theorem Blk.setCtx_tts (s : Blk) (c : Nat) (x : Ctx) : (s.setCtx c x).tts = s.tts := rfl
@[simp] theorem Blk.setCtx_steps (s : Blk) (c : Nat) (x : Ctx) : (s.setCtx c x).steps = s.steps := rfl
@[simp] theorem Blk.setCtx_stepNext (s : Blk) (c : Nat) (x : Ctx) : (s.setCtx c x).stepNext = s.stepNext := rfl
@[simp] theorem Blk.setCtx_moves (s : Blk) (c : Nat) (x : Ctx) : (s.setCtx c x).moves = s.moves := rfl
@[simp] theorem Blk.setCtx_moveNext (s : Blk) (c : Nat) (x : Ctx) : (s.setCtx c x).moveNext = s.moveNext := rfl
@[simp] theorem Blk.setCtx_reqs (s : Blk) (c : Nat) (x : Ctx) : (s.setCtx c x).reqs = s.reqs := rfl
@[simp] theorem Blk.setCtx_links (s : Blk) (c : Nat) (x : Ctx) : (s.setCtx c x).links = s.links := rfl
@[simp] theorem Blk.setCtx_sendAcc (s : Blk) (c : Nat) (x : Ctx) : (s.setCtx c x).sendAcc = s.sendAcc := rfl
@[simp] theorem Blk.setCtx_ctrlIn (s : Blk) (c : Nat) (x : Ctx) : (s.setCtx c x).ctrlIn = s.ctrlIn := rfl
@[simp] theorem Blk.setCtx_waitPkts (s : Blk) (c : Nat) (x : Ctx) : (s.setCtx c x).waitPkts = s.waitPkts := rfl
@[simp] theorem Blk.setCtx_flows (s : Blk) (c : Nat) (x : Ctx) : (s.setCtx c x).flows = s.flows := rfl
@[simp] theorem Blk.setCtx_disc (s : Blk) (c : Nat) (x : Ctx) : (s.setCtx c x).disc = s.disc := rfl
@[simp] theorem Blk.setCtx_ports (s : Blk) (c : Nat) (x : Ctx) : (s.setCtx c x).ports = s.ports := rfl
@[simp] theorem Blk.setCtx_lports (s : Blk) (c : Nat) (x : Ctx) : (s.setCtx c x).lports = s.lports := rfl
@[simp] theorem Blk.setCtx_hutch (s : Blk) (c : Nat) (x : Ctx) : (s.setCtx c x).hutch = s.hutch := rfl
@[simp] theorem Blk.setCtx_ft (s : Blk) (c : Nat) (x : Ctx) : (s.setCtx c x).ft = s.ft := rfl
@[simp] theorem Blk.setCtx_biasWait (s : Blk) (c : Nat) (x : Ctx) : (s.setCtx c x).biasWait = s.biasWait := rfl
@[simp] theorem Blk.setCtx_power (s : Blk) (c : Nat) (x : Ctx) : (s.setCtx c x).power = s.power := rfl
@[simp] theorem Blk.setCtx_boot (s : Blk) (c : Nat) (x : Ctx) : (s.setCtx c x).boot = s.boot := rfl
@[simp] theorem Blk.setCtx_emu (s : Blk) (c : Nat) (x : Ctx) : (s.setCtx c x).emu = s.emu := rfl
@[simp] theorem Blk.setCtx_smbAlert (s : Blk) (c : Nat) (x : Ctx) : (s.setCtx c x).smbAlert = s.smbAlert := rfl
@[simp] theorem Blk.setCtx_out (s : Blk) (c : Nat) (x : Ctx) : (s.setCtx c x).out = s.out := rfl
@[simp] theorem Blk.setCtx_fresh (s : Blk) (c : Nat) (x : Ctx) : (s.setCtx c x).fresh = s.fresh := rfl

/-! ## setTt changes tts -/

@[simp] theorem Blk.setTt_cores (s : Blk) (i : Nat) (t : Timetable) : (s.setTt i t).cores = s.cores := rfl
@[simp] theorem Blk.setTt_mem (s : Blk) (i : Nat) (t : Timetable) : (s.setTt i t).mem = s.mem := rfl
@[simp] theorem Blk.setTt_regs (s : Blk) (i : Nat) (t : Timetable) : (s.setTt i t).regs = s.regs := rfl
@[simp] theorem Blk.setTt_mbox (s : Blk) (i : Nat) (t : Timetable) : (s.setTt i t).mbox = s.mbox := rfl
@[simp] theorem Blk.setTt_parked (s : Blk) (i : Nat) (t : Timetable) : (s.setTt i t).parked = s.parked := rfl
@[simp] theorem Blk.setTt_flights (s : Blk) (i : Nat) (t : Timetable) : (s.setTt i t).flights = s.flights := rfl
@[simp] theorem Blk.setTt_rr (s : Blk) (i : Nat) (t : Timetable) : (s.setTt i t).rr = s.rr := rfl
@[simp] theorem Blk.setTt_placedOf (s : Blk) (i : Nat) (t : Timetable) : (s.setTt i t).placedOf = s.placedOf := rfl
@[simp] theorem Blk.setTt_hmbox (s : Blk) (i : Nat) (t : Timetable) : (s.setTt i t).hmbox = s.hmbox := rfl
@[simp] theorem Blk.setTt_replies (s : Blk) (i : Nat) (t : Timetable) : (s.setTt i t).replies = s.replies := rfl
@[simp] theorem Blk.setTt_accepted (s : Blk) (i : Nat) (t : Timetable) : (s.setTt i t).accepted = s.accepted := rfl
@[simp] theorem Blk.setTt_cmdq (s : Blk) (i : Nat) (t : Timetable) : (s.setTt i t).cmdq = s.cmdq := rfl
@[simp] theorem Blk.setTt_cmdTurn (s : Blk) (i : Nat) (t : Timetable) : (s.setTt i t).cmdTurn = s.cmdTurn := rfl
@[simp] theorem Blk.setTt_queues (s : Blk) (i : Nat) (t : Timetable) : (s.setTt i t).queues = s.queues := rfl
@[simp] theorem Blk.setTt_fns (s : Blk) (i : Nat) (t : Timetable) : (s.setTt i t).fns = s.fns := rfl
@[simp] theorem Blk.setTt_vecs (s : Blk) (i : Nat) (t : Timetable) : (s.setTt i t).vecs = s.vecs := rfl
@[simp] theorem Blk.setTt_link (s : Blk) (i : Nat) (t : Timetable) : (s.setTt i t).link = s.link := rfl
@[simp] theorem Blk.setTt_hreads (s : Blk) (i : Nat) (t : Timetable) : (s.setTt i t).hreads = s.hreads := rfl
@[simp] theorem Blk.setTt_hnext (s : Blk) (i : Nat) (t : Timetable) : (s.setTt i t).hnext = s.hnext := rfl
@[simp] theorem Blk.setTt_owner (s : Blk) (i : Nat) (t : Timetable) : (s.setTt i t).owner = s.owner := rfl
@[simp] theorem Blk.setTt_ins (s : Blk) (i : Nat) (t : Timetable) : (s.setTt i t).ins = s.ins := rfl
@[simp] theorem Blk.setTt_bias (s : Blk) (i : Nat) (t : Timetable) : (s.setTt i t).bias = s.bias := rfl
@[simp] theorem Blk.setTt_place (s : Blk) (i : Nat) (t : Timetable) : (s.setTt i t).place = s.place := rfl
@[simp] theorem Blk.setTt_clus (s : Blk) (i : Nat) (t : Timetable) : (s.setTt i t).clus = s.clus := rfl
@[simp] theorem Blk.setTt_rel (s : Blk) (i : Nat) (t : Timetable) : (s.setTt i t).rel = s.rel := rfl
@[simp] theorem Blk.setTt_time (s : Blk) (i : Nat) (t : Timetable) : (s.setTt i t).time = s.time := rfl
@[simp] theorem Blk.setTt_steps (s : Blk) (i : Nat) (t : Timetable) : (s.setTt i t).steps = s.steps := rfl
@[simp] theorem Blk.setTt_stepNext (s : Blk) (i : Nat) (t : Timetable) : (s.setTt i t).stepNext = s.stepNext := rfl
@[simp] theorem Blk.setTt_moves (s : Blk) (i : Nat) (t : Timetable) : (s.setTt i t).moves = s.moves := rfl
@[simp] theorem Blk.setTt_moveNext (s : Blk) (i : Nat) (t : Timetable) : (s.setTt i t).moveNext = s.moveNext := rfl
@[simp] theorem Blk.setTt_reqs (s : Blk) (i : Nat) (t : Timetable) : (s.setTt i t).reqs = s.reqs := rfl
@[simp] theorem Blk.setTt_links (s : Blk) (i : Nat) (t : Timetable) : (s.setTt i t).links = s.links := rfl
@[simp] theorem Blk.setTt_sendAcc (s : Blk) (i : Nat) (t : Timetable) : (s.setTt i t).sendAcc = s.sendAcc := rfl
@[simp] theorem Blk.setTt_ctrlIn (s : Blk) (i : Nat) (t : Timetable) : (s.setTt i t).ctrlIn = s.ctrlIn := rfl
@[simp] theorem Blk.setTt_waitPkts (s : Blk) (i : Nat) (t : Timetable) : (s.setTt i t).waitPkts = s.waitPkts := rfl
@[simp] theorem Blk.setTt_flows (s : Blk) (i : Nat) (t : Timetable) : (s.setTt i t).flows = s.flows := rfl
@[simp] theorem Blk.setTt_disc (s : Blk) (i : Nat) (t : Timetable) : (s.setTt i t).disc = s.disc := rfl
@[simp] theorem Blk.setTt_ports (s : Blk) (i : Nat) (t : Timetable) : (s.setTt i t).ports = s.ports := rfl
@[simp] theorem Blk.setTt_lports (s : Blk) (i : Nat) (t : Timetable) : (s.setTt i t).lports = s.lports := rfl
@[simp] theorem Blk.setTt_hutch (s : Blk) (i : Nat) (t : Timetable) : (s.setTt i t).hutch = s.hutch := rfl
@[simp] theorem Blk.setTt_ft (s : Blk) (i : Nat) (t : Timetable) : (s.setTt i t).ft = s.ft := rfl
@[simp] theorem Blk.setTt_ctxs (s : Blk) (i : Nat) (t : Timetable) : (s.setTt i t).ctxs = s.ctxs := rfl
@[simp] theorem Blk.setTt_biasWait (s : Blk) (i : Nat) (t : Timetable) : (s.setTt i t).biasWait = s.biasWait := rfl
@[simp] theorem Blk.setTt_power (s : Blk) (i : Nat) (t : Timetable) : (s.setTt i t).power = s.power := rfl
@[simp] theorem Blk.setTt_boot (s : Blk) (i : Nat) (t : Timetable) : (s.setTt i t).boot = s.boot := rfl
@[simp] theorem Blk.setTt_emu (s : Blk) (i : Nat) (t : Timetable) : (s.setTt i t).emu = s.emu := rfl
@[simp] theorem Blk.setTt_smbAlert (s : Blk) (i : Nat) (t : Timetable) : (s.setTt i t).smbAlert = s.smbAlert := rfl
@[simp] theorem Blk.setTt_out (s : Blk) (i : Nat) (t : Timetable) : (s.setTt i t).out = s.out := rfl
@[simp] theorem Blk.setTt_fresh (s : Blk) (i : Nat) (t : Timetable) : (s.setTt i t).fresh = s.fresh := rfl

/-! ## modFn changes fns -/

@[simp] theorem Blk.modFn_cores (s : Blk) (f : Nat) (g : Fn → Fn) : (s.modFn f g).cores = s.cores := rfl
@[simp] theorem Blk.modFn_mem (s : Blk) (f : Nat) (g : Fn → Fn) : (s.modFn f g).mem = s.mem := rfl
@[simp] theorem Blk.modFn_regs (s : Blk) (f : Nat) (g : Fn → Fn) : (s.modFn f g).regs = s.regs := rfl
@[simp] theorem Blk.modFn_mbox (s : Blk) (f : Nat) (g : Fn → Fn) : (s.modFn f g).mbox = s.mbox := rfl
@[simp] theorem Blk.modFn_parked (s : Blk) (f : Nat) (g : Fn → Fn) : (s.modFn f g).parked = s.parked := rfl
@[simp] theorem Blk.modFn_flights (s : Blk) (f : Nat) (g : Fn → Fn) : (s.modFn f g).flights = s.flights := rfl
@[simp] theorem Blk.modFn_rr (s : Blk) (f : Nat) (g : Fn → Fn) : (s.modFn f g).rr = s.rr := rfl
@[simp] theorem Blk.modFn_placedOf (s : Blk) (f : Nat) (g : Fn → Fn) : (s.modFn f g).placedOf = s.placedOf := rfl
@[simp] theorem Blk.modFn_hmbox (s : Blk) (f : Nat) (g : Fn → Fn) : (s.modFn f g).hmbox = s.hmbox := rfl
@[simp] theorem Blk.modFn_replies (s : Blk) (f : Nat) (g : Fn → Fn) : (s.modFn f g).replies = s.replies := rfl
@[simp] theorem Blk.modFn_accepted (s : Blk) (f : Nat) (g : Fn → Fn) : (s.modFn f g).accepted = s.accepted := rfl
@[simp] theorem Blk.modFn_cmdq (s : Blk) (f : Nat) (g : Fn → Fn) : (s.modFn f g).cmdq = s.cmdq := rfl
@[simp] theorem Blk.modFn_cmdTurn (s : Blk) (f : Nat) (g : Fn → Fn) : (s.modFn f g).cmdTurn = s.cmdTurn := rfl
@[simp] theorem Blk.modFn_queues (s : Blk) (f : Nat) (g : Fn → Fn) : (s.modFn f g).queues = s.queues := rfl
@[simp] theorem Blk.modFn_vecs (s : Blk) (f : Nat) (g : Fn → Fn) : (s.modFn f g).vecs = s.vecs := rfl
@[simp] theorem Blk.modFn_link (s : Blk) (f : Nat) (g : Fn → Fn) : (s.modFn f g).link = s.link := rfl
@[simp] theorem Blk.modFn_hreads (s : Blk) (f : Nat) (g : Fn → Fn) : (s.modFn f g).hreads = s.hreads := rfl
@[simp] theorem Blk.modFn_hnext (s : Blk) (f : Nat) (g : Fn → Fn) : (s.modFn f g).hnext = s.hnext := rfl
@[simp] theorem Blk.modFn_owner (s : Blk) (f : Nat) (g : Fn → Fn) : (s.modFn f g).owner = s.owner := rfl
@[simp] theorem Blk.modFn_ins (s : Blk) (f : Nat) (g : Fn → Fn) : (s.modFn f g).ins = s.ins := rfl
@[simp] theorem Blk.modFn_bias (s : Blk) (f : Nat) (g : Fn → Fn) : (s.modFn f g).bias = s.bias := rfl
@[simp] theorem Blk.modFn_place (s : Blk) (f : Nat) (g : Fn → Fn) : (s.modFn f g).place = s.place := rfl
@[simp] theorem Blk.modFn_clus (s : Blk) (f : Nat) (g : Fn → Fn) : (s.modFn f g).clus = s.clus := rfl
@[simp] theorem Blk.modFn_rel (s : Blk) (f : Nat) (g : Fn → Fn) : (s.modFn f g).rel = s.rel := rfl
@[simp] theorem Blk.modFn_time (s : Blk) (f : Nat) (g : Fn → Fn) : (s.modFn f g).time = s.time := rfl
@[simp] theorem Blk.modFn_tts (s : Blk) (f : Nat) (g : Fn → Fn) : (s.modFn f g).tts = s.tts := rfl
@[simp] theorem Blk.modFn_steps (s : Blk) (f : Nat) (g : Fn → Fn) : (s.modFn f g).steps = s.steps := rfl
@[simp] theorem Blk.modFn_stepNext (s : Blk) (f : Nat) (g : Fn → Fn) : (s.modFn f g).stepNext = s.stepNext := rfl
@[simp] theorem Blk.modFn_moves (s : Blk) (f : Nat) (g : Fn → Fn) : (s.modFn f g).moves = s.moves := rfl
@[simp] theorem Blk.modFn_moveNext (s : Blk) (f : Nat) (g : Fn → Fn) : (s.modFn f g).moveNext = s.moveNext := rfl
@[simp] theorem Blk.modFn_reqs (s : Blk) (f : Nat) (g : Fn → Fn) : (s.modFn f g).reqs = s.reqs := rfl
@[simp] theorem Blk.modFn_links (s : Blk) (f : Nat) (g : Fn → Fn) : (s.modFn f g).links = s.links := rfl
@[simp] theorem Blk.modFn_sendAcc (s : Blk) (f : Nat) (g : Fn → Fn) : (s.modFn f g).sendAcc = s.sendAcc := rfl
@[simp] theorem Blk.modFn_ctrlIn (s : Blk) (f : Nat) (g : Fn → Fn) : (s.modFn f g).ctrlIn = s.ctrlIn := rfl
@[simp] theorem Blk.modFn_waitPkts (s : Blk) (f : Nat) (g : Fn → Fn) : (s.modFn f g).waitPkts = s.waitPkts := rfl
@[simp] theorem Blk.modFn_flows (s : Blk) (f : Nat) (g : Fn → Fn) : (s.modFn f g).flows = s.flows := rfl
@[simp] theorem Blk.modFn_disc (s : Blk) (f : Nat) (g : Fn → Fn) : (s.modFn f g).disc = s.disc := rfl
@[simp] theorem Blk.modFn_ports (s : Blk) (f : Nat) (g : Fn → Fn) : (s.modFn f g).ports = s.ports := rfl
@[simp] theorem Blk.modFn_lports (s : Blk) (f : Nat) (g : Fn → Fn) : (s.modFn f g).lports = s.lports := rfl
@[simp] theorem Blk.modFn_hutch (s : Blk) (f : Nat) (g : Fn → Fn) : (s.modFn f g).hutch = s.hutch := rfl
@[simp] theorem Blk.modFn_ft (s : Blk) (f : Nat) (g : Fn → Fn) : (s.modFn f g).ft = s.ft := rfl
@[simp] theorem Blk.modFn_ctxs (s : Blk) (f : Nat) (g : Fn → Fn) : (s.modFn f g).ctxs = s.ctxs := rfl
@[simp] theorem Blk.modFn_biasWait (s : Blk) (f : Nat) (g : Fn → Fn) : (s.modFn f g).biasWait = s.biasWait := rfl
@[simp] theorem Blk.modFn_power (s : Blk) (f : Nat) (g : Fn → Fn) : (s.modFn f g).power = s.power := rfl
@[simp] theorem Blk.modFn_boot (s : Blk) (f : Nat) (g : Fn → Fn) : (s.modFn f g).boot = s.boot := rfl
@[simp] theorem Blk.modFn_emu (s : Blk) (f : Nat) (g : Fn → Fn) : (s.modFn f g).emu = s.emu := rfl
@[simp] theorem Blk.modFn_smbAlert (s : Blk) (f : Nat) (g : Fn → Fn) : (s.modFn f g).smbAlert = s.smbAlert := rfl
@[simp] theorem Blk.modFn_out (s : Blk) (f : Nat) (g : Fn → Fn) : (s.modFn f g).out = s.out := rfl
@[simp] theorem Blk.modFn_fresh (s : Blk) (f : Nat) (g : Fn → Fn) : (s.modFn f g).fresh = s.fresh := rfl

/-! ## modVec changes vecs -/

@[simp] theorem Blk.modVec_cores (s : Blk) (f v : Nat) (g : Vec → Vec) : (s.modVec f v g).cores = s.cores := rfl
@[simp] theorem Blk.modVec_mem (s : Blk) (f v : Nat) (g : Vec → Vec) : (s.modVec f v g).mem = s.mem := rfl
@[simp] theorem Blk.modVec_regs (s : Blk) (f v : Nat) (g : Vec → Vec) : (s.modVec f v g).regs = s.regs := rfl
@[simp] theorem Blk.modVec_mbox (s : Blk) (f v : Nat) (g : Vec → Vec) : (s.modVec f v g).mbox = s.mbox := rfl
@[simp] theorem Blk.modVec_parked (s : Blk) (f v : Nat) (g : Vec → Vec) : (s.modVec f v g).parked = s.parked := rfl
@[simp] theorem Blk.modVec_flights (s : Blk) (f v : Nat) (g : Vec → Vec) : (s.modVec f v g).flights = s.flights := rfl
@[simp] theorem Blk.modVec_rr (s : Blk) (f v : Nat) (g : Vec → Vec) : (s.modVec f v g).rr = s.rr := rfl
@[simp] theorem Blk.modVec_placedOf (s : Blk) (f v : Nat) (g : Vec → Vec) : (s.modVec f v g).placedOf = s.placedOf := rfl
@[simp] theorem Blk.modVec_hmbox (s : Blk) (f v : Nat) (g : Vec → Vec) : (s.modVec f v g).hmbox = s.hmbox := rfl
@[simp] theorem Blk.modVec_replies (s : Blk) (f v : Nat) (g : Vec → Vec) : (s.modVec f v g).replies = s.replies := rfl
@[simp] theorem Blk.modVec_accepted (s : Blk) (f v : Nat) (g : Vec → Vec) : (s.modVec f v g).accepted = s.accepted := rfl
@[simp] theorem Blk.modVec_cmdq (s : Blk) (f v : Nat) (g : Vec → Vec) : (s.modVec f v g).cmdq = s.cmdq := rfl
@[simp] theorem Blk.modVec_cmdTurn (s : Blk) (f v : Nat) (g : Vec → Vec) : (s.modVec f v g).cmdTurn = s.cmdTurn := rfl
@[simp] theorem Blk.modVec_queues (s : Blk) (f v : Nat) (g : Vec → Vec) : (s.modVec f v g).queues = s.queues := rfl
@[simp] theorem Blk.modVec_fns (s : Blk) (f v : Nat) (g : Vec → Vec) : (s.modVec f v g).fns = s.fns := rfl
@[simp] theorem Blk.modVec_link (s : Blk) (f v : Nat) (g : Vec → Vec) : (s.modVec f v g).link = s.link := rfl
@[simp] theorem Blk.modVec_hreads (s : Blk) (f v : Nat) (g : Vec → Vec) : (s.modVec f v g).hreads = s.hreads := rfl
@[simp] theorem Blk.modVec_hnext (s : Blk) (f v : Nat) (g : Vec → Vec) : (s.modVec f v g).hnext = s.hnext := rfl
@[simp] theorem Blk.modVec_owner (s : Blk) (f v : Nat) (g : Vec → Vec) : (s.modVec f v g).owner = s.owner := rfl
@[simp] theorem Blk.modVec_ins (s : Blk) (f v : Nat) (g : Vec → Vec) : (s.modVec f v g).ins = s.ins := rfl
@[simp] theorem Blk.modVec_bias (s : Blk) (f v : Nat) (g : Vec → Vec) : (s.modVec f v g).bias = s.bias := rfl
@[simp] theorem Blk.modVec_place (s : Blk) (f v : Nat) (g : Vec → Vec) : (s.modVec f v g).place = s.place := rfl
@[simp] theorem Blk.modVec_clus (s : Blk) (f v : Nat) (g : Vec → Vec) : (s.modVec f v g).clus = s.clus := rfl
@[simp] theorem Blk.modVec_rel (s : Blk) (f v : Nat) (g : Vec → Vec) : (s.modVec f v g).rel = s.rel := rfl
@[simp] theorem Blk.modVec_time (s : Blk) (f v : Nat) (g : Vec → Vec) : (s.modVec f v g).time = s.time := rfl
@[simp] theorem Blk.modVec_tts (s : Blk) (f v : Nat) (g : Vec → Vec) : (s.modVec f v g).tts = s.tts := rfl
@[simp] theorem Blk.modVec_steps (s : Blk) (f v : Nat) (g : Vec → Vec) : (s.modVec f v g).steps = s.steps := rfl
@[simp] theorem Blk.modVec_stepNext (s : Blk) (f v : Nat) (g : Vec → Vec) : (s.modVec f v g).stepNext = s.stepNext := rfl
@[simp] theorem Blk.modVec_moves (s : Blk) (f v : Nat) (g : Vec → Vec) : (s.modVec f v g).moves = s.moves := rfl
@[simp] theorem Blk.modVec_moveNext (s : Blk) (f v : Nat) (g : Vec → Vec) : (s.modVec f v g).moveNext = s.moveNext := rfl
@[simp] theorem Blk.modVec_reqs (s : Blk) (f v : Nat) (g : Vec → Vec) : (s.modVec f v g).reqs = s.reqs := rfl
@[simp] theorem Blk.modVec_links (s : Blk) (f v : Nat) (g : Vec → Vec) : (s.modVec f v g).links = s.links := rfl
@[simp] theorem Blk.modVec_sendAcc (s : Blk) (f v : Nat) (g : Vec → Vec) : (s.modVec f v g).sendAcc = s.sendAcc := rfl
@[simp] theorem Blk.modVec_ctrlIn (s : Blk) (f v : Nat) (g : Vec → Vec) : (s.modVec f v g).ctrlIn = s.ctrlIn := rfl
@[simp] theorem Blk.modVec_waitPkts (s : Blk) (f v : Nat) (g : Vec → Vec) : (s.modVec f v g).waitPkts = s.waitPkts := rfl
@[simp] theorem Blk.modVec_flows (s : Blk) (f v : Nat) (g : Vec → Vec) : (s.modVec f v g).flows = s.flows := rfl
@[simp] theorem Blk.modVec_disc (s : Blk) (f v : Nat) (g : Vec → Vec) : (s.modVec f v g).disc = s.disc := rfl
@[simp] theorem Blk.modVec_ports (s : Blk) (f v : Nat) (g : Vec → Vec) : (s.modVec f v g).ports = s.ports := rfl
@[simp] theorem Blk.modVec_lports (s : Blk) (f v : Nat) (g : Vec → Vec) : (s.modVec f v g).lports = s.lports := rfl
@[simp] theorem Blk.modVec_hutch (s : Blk) (f v : Nat) (g : Vec → Vec) : (s.modVec f v g).hutch = s.hutch := rfl
@[simp] theorem Blk.modVec_ft (s : Blk) (f v : Nat) (g : Vec → Vec) : (s.modVec f v g).ft = s.ft := rfl
@[simp] theorem Blk.modVec_ctxs (s : Blk) (f v : Nat) (g : Vec → Vec) : (s.modVec f v g).ctxs = s.ctxs := rfl
@[simp] theorem Blk.modVec_biasWait (s : Blk) (f v : Nat) (g : Vec → Vec) : (s.modVec f v g).biasWait = s.biasWait := rfl
@[simp] theorem Blk.modVec_power (s : Blk) (f v : Nat) (g : Vec → Vec) : (s.modVec f v g).power = s.power := rfl
@[simp] theorem Blk.modVec_boot (s : Blk) (f v : Nat) (g : Vec → Vec) : (s.modVec f v g).boot = s.boot := rfl
@[simp] theorem Blk.modVec_emu (s : Blk) (f v : Nat) (g : Vec → Vec) : (s.modVec f v g).emu = s.emu := rfl
@[simp] theorem Blk.modVec_smbAlert (s : Blk) (f v : Nat) (g : Vec → Vec) : (s.modVec f v g).smbAlert = s.smbAlert := rfl
@[simp] theorem Blk.modVec_out (s : Blk) (f v : Nat) (g : Vec → Vec) : (s.modVec f v g).out = s.out := rfl
@[simp] theorem Blk.modVec_fresh (s : Blk) (f v : Nat) (g : Vec → Vec) : (s.modVec f v g).fresh = s.fresh := rfl

/-! ## The queue of waiting commands -/

@[simp] theorem State.withCommand_blk (s : State) (c : Instr) : (s.withCommand c).blk = s.blk := rfl
@[simp] theorem State.withCommand_pending (s : State) (c : Instr) : (s.withCommand c).pending = c :: s.pending := rfl

end Sys2Proof.Machine
end

