-- ==== Sys2Proof/Laws/Issue.lean ====
section
/-! SUPPORT. Everything the issue of an instruction can do (R68, R95, R124). -/

namespace Sys2Proof.Machine

/-- An instruction whose thread cannot issue it, or that waits, leaves the device as it is. -/
theorem issue_waits (s : Blk) (i : Issue) (two : Bool) (rs : List RegRef) (stall illegal dp : Bool) (body : Blk → Blk)
    (h : s.canIssue i.pos.toNat i.tid.toNat rs = false ∨ stall = true) : s.issue i two rs stall illegal dp body = s := by
  unfold Blk.issue
  rcases h with h | h <;> simp [h]

/-- A ready instruction without an error acts, on the device with its thread recorded as the last to issue. -/
theorem issue_ready (s : State) (i : Issue) (two : Bool) (rs : List RegRef) (stall illegal dp : Bool) (body : Blk → Blk)
    (h : s.ready i two rs) (hs : stall = false) (hi : illegal = false) :
    s.blk.issue i two rs stall illegal dp body = body (s.issued i) := by
  obtain ⟨h1, h2, h3⟩ := h
  subst hs hi
  simp [Blk.issue, h1, h2, h3, State.issued]

/-- A ready instruction with an illegal field raises ILLEGAL_OP. -/
theorem issue_illegal (s : State) (i : Issue) (two : Bool) (rs : List RegRef) (stall illegal dp : Bool) (body : Blk → Blk)
    (h : s.ready i two rs) (hs : stall = false) (hi : illegal = true) :
    s.blk.issue i two rs stall illegal dp body =
      (s.issued i).raiseExc i.pos.toNat i.tid.toNat .illegalOp (s.thread i).pc.toNat 0 := by
  obtain ⟨h1, h2, -⟩ := h
  subst hs hi
  simp [Blk.issue, h1, h2, State.issued, Blk.pcOf, State.thread]

/-- The outcomes of an issue: nothing, an exception, or the instruction's own effect. -/
theorem issue_cases (s : Blk) (i : Issue) (two : Bool) (rs : List RegRef) (stall illegal dp : Bool) (body : Blk → Blk) :
    let s1 := s.modCore i.pos.toNat (fun c => { c with lastTid := i.tid.toNat })
    let u := s.issue i two rs stall illegal dp body
    u = s ∨ (∃ c a d, u = s1.raiseExc i.pos.toNat i.tid.toNat c (s.pcOf i.pos.toNat i.tid.toNat) a d) ∨
      (∃ a x, u = (({ s1 with mem := s1.mem.setUncorr x }).readCheck x 8).raiseExc i.pos.toNat i.tid.toNat .eccUncorr
        (s.pcOf i.pos.toNat i.tid.toNat) a (some x)) ∨ u = body s1 := by
  intro s1 u
  have hu : u = s.issue i two rs stall illegal dp body := rfl
  unfold Blk.issue at hu
  dsimp only at hu
  split at hu
  · exact .inl hu
  · split at hu
    · rename_i c a d _
      split at hu
      · rename_i hc
        subst hc
        cases d with
        | some x => exact .inr (.inr (.inl ⟨a, x, hu⟩))
        | none => exact .inr (.inl ⟨_, a, none, hu⟩)
      · exact .inr (.inl ⟨c, a, d, hu⟩)
    · split at hu
      · exact .inr (.inl ⟨_, _, _, hu⟩)
      · split at hu
        · exact .inr (.inl ⟨_, _, _, hu⟩)
        · exact .inr (.inr (.inr hu))

end Sys2Proof.Machine
end

