-- ==== Sys2Proof/Laws/Table.lean ====
section
/-! SUPPORT. Laws of sparse tables, bit fields and folds. -/

namespace Sys2Proof.Machine

/-! ## Tables -/

@[simp] theorem tblFind_nil {κ α : Type} [DecidableEq κ] (k : κ) : tblFind k ([] : Tbl κ α) = none := rfl
@[simp] theorem tblGet_nil {κ α : Type} [DecidableEq κ] (d : α) (k : κ) : tblGet d k ([] : Tbl κ α) = d := rfl

@[simp] theorem tblFind_erase_same {κ α : Type} [DecidableEq κ] (k : κ) (t : Tbl κ α) : tblFind k (tblErase k t) = none := by
  induction t with
  | nil => rfl
  | cons x t ih =>
    obtain ⟨k', a⟩ := x
    by_cases h : k' = k <;> simp [tblErase, tblFind, h, ih]

theorem tblFind_erase_other {κ α : Type} [DecidableEq κ] {j k : κ} (h : j ≠ k) (t : Tbl κ α) :
    tblFind j (tblErase k t) = tblFind j t := by
  induction t with
  | nil => rfl
  | cons x t ih =>
    obtain ⟨k', a⟩ := x
    by_cases h1 : k' = k
    · have h2 : k' ≠ j := fun e => h (e ▸ h1)
      simp [tblErase, tblFind, h1, ih]
      intro e; exact absurd e.symm h
    · by_cases h2 : k' = j
      · rw [tblErase, if_neg h1, tblFind, tblFind, if_pos h2, if_pos h2]
      · rw [tblErase, if_neg h1, tblFind, tblFind, if_neg h2, if_neg h2, ih]

@[simp] theorem tblFind_set_same {κ α : Type} [DecidableEq κ] (k : κ) (a : α) (t : Tbl κ α) : tblFind k (tblSet k a t) = some a := by
  simp [tblSet, tblFind]

theorem tblFind_set_other {κ α : Type} [DecidableEq κ] {j k : κ} (h : j ≠ k) (a : α) (t : Tbl κ α) :
    tblFind j (tblSet k a t) = tblFind j t := by
  simp [tblSet, tblFind, Ne.symm h, tblFind_erase_other h]

@[simp] theorem tblGet_set_same {κ α : Type} [DecidableEq κ] (d : α) (k : κ) (a : α) (t : Tbl κ α) : tblGet d k (tblSet k a t) = a := by
  simp [tblGet]

theorem tblGet_set_other {κ α : Type} [DecidableEq κ] (d : α) {j k : κ} (h : j ≠ k) (a : α) (t : Tbl κ α) :
    tblGet d j (tblSet k a t) = tblGet d j t := by
  simp [tblGet, tblFind_set_other h]

/-- Reading a table after one binding has been set. -/
theorem tblGet_set {κ α : Type} [DecidableEq κ] (d : α) (j k : κ) (a : α) (t : Tbl κ α) :
    tblGet d j (tblSet k a t) = if j = k then a else tblGet d j t := by
  by_cases h : j = k
  · simp [h]
  · simp [h, tblGet_set_other d h]

theorem tblGet_erase {κ α : Type} [DecidableEq κ] (d : α) (j k : κ) (t : Tbl κ α) :
    tblGet d j (tblErase k t) = if j = k then d else tblGet d j t := by
  by_cases h : j = k
  · simp [h, tblGet]
  · simp [h, tblGet, tblFind_erase_other h]

/-- A filter that drops no binding of `k` is not seen at `k`. -/
theorem tblFind_filter_keep {κ α : Type} [DecidableEq κ] (p : κ × α → Bool) (k : κ) (hp : ∀ a, p (k, a) = true) (t : Tbl κ α) :
    tblFind k (t.filter p) = tblFind k t := by
  induction t with
  | nil => rfl
  | cons x t ih =>
    obtain ⟨k', a⟩ := x
    by_cases h1 : k' = k
    · subst h1; simp [List.filter, hp, tblFind]
    · by_cases h2 : p (k', a) = true <;> simp [List.filter, h2, tblFind, h1, ih]

/-! ## Bit fields -/

theorem bits_lt (n hi lo : Nat) : bits n hi lo < 2 ^ (hi + 1 - lo) := Nat.mod_lt _ (Nat.two_pow_pos _)

theorem testBit_bits (n hi lo i : Nat) : (bits n hi lo).testBit i = (decide (i < hi + 1 - lo) && n.testBit (lo + i)) := by
  simp [bits, Nat.testBit_mod_two_pow, Nat.testBit_shiftRight]

/-- The three parts of a number around one field. -/
theorem bits_split (n hi lo : Nat) :
    n = n % 2 ^ lo + bits n hi lo * 2 ^ lo + n / 2 ^ lo / 2 ^ (hi + 1 - lo) * (2 ^ (hi + 1 - lo) * 2 ^ lo) := by
  have h1 := Nat.div_add_mod n (2 ^ lo)
  have h2 := Nat.div_add_mod (n / 2 ^ lo) (2 ^ (hi + 1 - lo))
  have hb : bits n hi lo = n / 2 ^ lo % 2 ^ (hi + 1 - lo) := by rw [bits, Nat.shiftRight_eq_div_pow]
  generalize n / 2 ^ lo / 2 ^ (hi + 1 - lo) = q at *
  have h3 : n / 2 ^ lo * 2 ^ lo = q * (2 ^ (hi + 1 - lo) * 2 ^ lo) + bits n hi lo * 2 ^ lo := by
    rw [← hb] at h2
    calc n / 2 ^ lo * 2 ^ lo = (2 ^ (hi + 1 - lo) * q + bits n hi lo) * 2 ^ lo := by rw [h2]
      _ = _ := by rw [Nat.add_mul, Nat.mul_comm (2 ^ (hi + 1 - lo)) q, Nat.mul_assoc]
  rw [Nat.mul_comm] at h1
  omega

theorem putBits_eq (n hi lo v : Nat) :
    putBits n hi lo v =
      n % 2 ^ lo + v % 2 ^ (hi + 1 - lo) * 2 ^ lo + n / 2 ^ lo / 2 ^ (hi + 1 - lo) * (2 ^ (hi + 1 - lo) * 2 ^ lo) := by
  have h := bits_split n hi lo
  unfold putBits
  generalize n / 2 ^ lo / 2 ^ (hi + 1 - lo) * (2 ^ (hi + 1 - lo) * 2 ^ lo) = q at *
  generalize bits n hi lo * 2 ^ lo = b at *
  omega

theorem testBit_putBits (n hi lo v i : Nat) :
    (putBits n hi lo v).testBit i = if lo ≤ i ∧ i < lo + (hi + 1 - lo) then v.testBit (i - lo) else n.testBit i := by
  rw [putBits_eq]
  generalize hw : hi + 1 - lo = w
  have e : n % 2 ^ lo + v % 2 ^ w * 2 ^ lo + n / 2 ^ lo / 2 ^ w * (2 ^ w * 2 ^ lo) =
      2 ^ lo * (2 ^ w * (n / 2 ^ lo / 2 ^ w) + v % 2 ^ w) + n % 2 ^ lo := by
    rw [Nat.mul_add, Nat.mul_comm (2 ^ lo) (v % 2 ^ w), Nat.mul_comm (2 ^ w) (n / 2 ^ lo / 2 ^ w), ← Nat.mul_assoc, Nat.mul_comm (2 ^ lo),
      Nat.mul_assoc]
    omega
  rw [e, Nat.testBit_two_pow_mul_add _ (Nat.mod_lt _ (Nat.two_pow_pos _))]
  by_cases h1 : i < lo
  · simp [h1, Nat.testBit_mod_two_pow, Nat.not_le.mpr h1]
  · rw [if_neg h1, Nat.testBit_two_pow_mul_add _ (Nat.mod_lt _ (Nat.two_pow_pos _))]
    by_cases h2 : i - lo < w
    · simp only [h2, ↓reduceIte, Nat.testBit_mod_two_pow, decide_true, Bool.true_and]
      rw [if_pos (by omega)]
    · rw [if_neg h2, if_neg (by omega), Nat.testBit_div_two_pow, Nat.testBit_div_two_pow]
      congr 1; omega

/-- A field that has been put reads as what was put, cut to its width. -/
@[simp] theorem bits_putBits_same (n hi lo v : Nat) : bits (putBits n hi lo v) hi lo = v % 2 ^ (hi + 1 - lo) := by
  apply Nat.eq_of_testBit_eq
  intro i
  rw [testBit_bits, testBit_putBits, Nat.testBit_mod_two_pow]
  by_cases h : i < hi + 1 - lo
  · simp [h]
  · simp [h]

/-- A field beside the one that has been put reads as before. -/
theorem bits_putBits_other (n hi lo hi' lo' v : Nat) (h : hi' < lo ∨ hi < lo') : bits (putBits n hi lo v) hi' lo' = bits n hi' lo' := by
  apply Nat.eq_of_testBit_eq
  intro i
  rw [testBit_bits, testBit_bits, testBit_putBits]
  by_cases hi1 : i < hi' + 1 - lo'
  · rw [if_neg (by omega)]
  · simp [hi1]

theorem putBits_lt (n hi lo v w : Nat) (h1 : n < 2 ^ w) (h2 : hi < w) (h3 : lo ≤ hi) : putBits n hi lo v < 2 ^ w := by
  apply Nat.lt_pow_two_of_testBit
  intro i hi1
  rw [testBit_putBits, if_neg (by omega)]
  exact Nat.testBit_lt_two_pow (Nat.lt_of_lt_of_le h1 (Nat.pow_le_pow_right (by decide) hi1))

/-! ## Folds -/

/-- What every step of a fold keeps, the fold keeps. -/
theorem forL_ind {σ α : Type} (P : σ → Prop) (l : List α) (f : α → σ → σ) (s : σ) (h0 : P s) (h : ∀ x t, P t → P (f x t)) : P (forL l f s) := by
  unfold forL
  induction l generalizing s with
  | nil => exact h0
  | cons x l ih => exact ih _ (h x s h0)

theorem forN_ind {σ : Type} (P : σ → Prop) (n : Nat) (f : Nat → σ → σ) (s : σ) (h0 : P s) (h : ∀ i t, P t → P (f i t)) : P (forN n f s) :=
  forL_ind P (List.range n) f s h0 h

theorem foldl_ind {σ α : Type} (P : σ → Prop) (l : List α) (f : σ → α → σ) (s : σ) (h0 : P s) (h : ∀ x t, P t → P (f t x)) : P (l.foldl f s) :=
  forL_ind P l (fun x t => f t x) s h0 h

@[simp] theorem forL_nil {σ α : Type} (f : α → σ → σ) (s : σ) : forL [] f s = s := rfl
@[simp] theorem forL_cons {σ α : Type} (x : α) (l : List α) (f : α → σ → σ) (s : σ) : forL (x :: l) f s = forL l f (f x s) := rfl

/-! ## Byte strings -/

@[simp] theorem length_slice (l : List Byte) (o k : Nat) : (slice l o k).length = k := by simp [slice]
@[simp] theorem length_toLe (k n : Nat) : (toLe k n).length = k := by
  induction k generalizing n with
  | zero => rfl
  | succ k ih => simp [toLe, ih]

theorem leNat_toLe (k n : Nat) : leNat (toLe k n) = n % 2 ^ (8 * k) := by
  induction k generalizing n with
  | zero => simp [toLe, leNat, Nat.mod_one]
  | succ k ih =>
    have e : 2 ^ (8 * (k + 1)) = 256 * 2 ^ (8 * k) := by rw [Nat.mul_add, Nat.pow_add]; omega
    simp only [toLe, leNat, ih, BitVec.toNat_ofNat]
    rw [e, Nat.mod_mul]

end Sys2Proof.Machine
end

