-- ==== Sys2Proof/Laws/Memory.lean ====
section
/-! SUPPORT. Laws of memory: every operation on it keeps the canonical form, and a byte reads as it was last written. -/

namespace Sys2Proof.Machine

/-! ## The canonical form -/

/-- Every cell of the list lies above `a`. -/
def cellsAbove (a : Nat) (c : List Host.Cell) : Bool := c.all (fun x => decide (a < x.1))

theorem cellsAbove_mono {a b : Nat} (h : a ≤ b) {c : List Host.Cell} (hc : cellsAbove b c = true) : cellsAbove a c = true := by
  simp only [cellsAbove, List.all_eq_true, decide_eq_true_eq] at *
  exact fun x hx => Nat.lt_of_le_of_lt h (hc x hx)

/-- The canonical form, cell by cell. -/
theorem cellsWf_cons (a : Nat) (b : Byte) (t : List Host.Cell) :
    cellsWf ((a, b) :: t) = true ↔ b ≠ memDefault ∧ cellsAbove a t = true ∧ cellsWf t = true := by
  induction t generalizing a b with
  | nil => simp [cellsWf, cellsAbove]
  | cons x t ih =>
    obtain ⟨a', b'⟩ := x
    simp only [cellsWf, Bool.and_eq_true, bne_iff_ne, decide_eq_true_eq]
    constructor
    · rintro ⟨⟨h1, h2⟩, h3⟩
      refine ⟨h1, ?_, h3⟩
      have h4 := ((ih a' b').mp h3).2.1
      simp only [cellsAbove, List.all_cons, Bool.and_eq_true, decide_eq_true_eq]
      exact ⟨h2, cellsAbove_mono (Nat.le_of_lt h2) h4⟩
    · rintro ⟨h1, h2, h3⟩
      simp only [cellsAbove, List.all_cons, Bool.and_eq_true, decide_eq_true_eq] at h2
      exact ⟨⟨h1, h2.1⟩, h3⟩

theorem cellsAbove_write {x a : Nat} (h : x < a) (b : Byte) {c : List Host.Cell} (hc : cellsAbove x c = true) :
    cellsAbove x (cellWrite a b c) = true := by
  have hall : ∀ a b t, cellsAbove x ((a, b) :: t) = true ↔ x < a ∧ cellsAbove x t = true := by
    intro a b t; simp only [cellsAbove, List.all_cons, Bool.and_eq_true, decide_eq_true_eq]
  induction c with
  | nil =>
    simp only [cellWrite]
    split
    · exact hc
    · exact (hall _ _ _).mpr ⟨h, hc⟩
  | cons y t ih =>
    obtain ⟨a', b'⟩ := y
    have ht := (hall _ _ _).mp hc
    simp only [cellWrite]
    split
    · split
      · exact hc
      · exact (hall _ _ _).mpr ⟨h, hc⟩
    · split
      · split
        · exact ht.2
        · exact (hall _ _ _).mpr ⟨h, ht.2⟩
      · exact (hall _ _ _).mpr ⟨ht.1, ih ht.2⟩

/-- Writing one byte keeps the canonical form. -/
theorem cellWrite_wf (a : Nat) (b : Byte) (c : List Host.Cell) (h : cellsWf c = true) : cellsWf (cellWrite a b c) = true := by
  induction c with
  | nil =>
    simp only [cellWrite]
    split
    · rfl
    · rename_i hb; simpa [cellsWf] using hb
  | cons y t ih =>
    obtain ⟨a', b'⟩ := y
    have hy := (cellsWf_cons a' b' t).mp h
    simp only [cellWrite]
    split
    · rename_i hlt
      split
      · exact h
      · rename_i hb
        refine (cellsWf_cons _ _ _).mpr ⟨hb, ?_, h⟩
        simp only [cellsAbove, List.all_cons, Bool.and_eq_true, decide_eq_true_eq]
        exact ⟨hlt, cellsAbove_mono (Nat.le_of_lt hlt) hy.2.1⟩
    · split
      · rename_i heq
        split
        · exact hy.2.2
        · rename_i hb
          exact (cellsWf_cons _ _ _).mpr ⟨hb, heq ▸ hy.2.1, hy.2.2⟩
      · rename_i h1 h2
        exact (cellsWf_cons _ _ _).mpr ⟨hy.1, cellsAbove_write (by omega) b hy.2.1, ih hy.2.2⟩

theorem cellsWrite_wf (l : List Byte) (a : Nat) (c : List Host.Cell) (h : cellsWf c = true) : cellsWf (cellsWrite a l c) = true := by
  induction l generalizing a c with
  | nil => exact h
  | cons b t ih => exact ih _ _ (cellWrite_wf a b c h)

theorem cellsWf_filter (p : Host.Cell → Bool) (c : List Host.Cell) (h : cellsWf c = true) : cellsWf (c.filter p) = true := by
  induction c with
  | nil => rfl
  | cons y t ih =>
    obtain ⟨a, b⟩ := y
    have hy := (cellsWf_cons a b t).mp h
    by_cases hp : p (a, b) = true
    · rw [List.filter_cons_of_pos hp]
      refine (cellsWf_cons _ _ _).mpr ⟨hy.1, ?_, ih hy.2.2⟩
      simp only [cellsAbove, List.all_eq_true] at *
      exact fun x hx => hy.2.1 x ((List.mem_filter.mp hx).1)
    · rw [List.filter_cons_of_neg hp]; exact ih hy.2.2

/-! ## The operations on memory keep it -/

@[simp] theorem Mem.setPoison_cells (m : Mem) (a : Nat) : (m.setPoison a).cells = m.cells := by
  unfold Mem.setPoison; split <;> rfl
@[simp] theorem Mem.clearPoison_cells (m : Mem) (a : Nat) : (m.clearPoison a).cells = m.cells := rfl
@[simp] theorem Mem.setUncorr_cells (m : Mem) (a : Nat) : (m.setUncorr a).cells = m.cells := by
  unfold Mem.setUncorr; split <;> rfl

theorem Mem.foldl_setPoison_cells (l : List Nat) (m : Mem) (g : Nat → Nat) :
    (l.foldl (fun m w => m.setPoison (g w)) m).cells = m.cells :=
  foldl_ind (fun x : Mem => x.cells = m.cells) l _ m rfl (fun x t h => by simp [h])

@[simp] theorem Mem.readPoisons_cells (m : Mem) (a n : Nat) : (m.readPoisons a n).cells = m.cells := by
  unfold Mem.readPoisons; exact Mem.foldl_setPoison_cells _ m (fun w => w * 8)

@[simp] theorem Mem.put_cells (m : Mem) (a : Nat) (l : List Byte) : (m.put a l).cells = cellsWrite a l m.cells := rfl
@[simp] theorem Mem.writePart_cells (m : Mem) (a : Nat) (l : List Byte) : (m.writePart a l).cells = cellsWrite a l m.cells := by
  simp [Mem.writePart, Mem.foldl_setPoison_cells _ m (fun w => w * 8)]
@[simp] theorem Mem.writeBlock_cells (m : Mem) (a : Nat) (l : List Byte) (p : Bool) : (m.writeBlock a l p).cells = cellsWrite a l m.cells := by
  unfold Mem.writeBlock; split <;> simp

/-- The forms of a memory whose bytes are written keep the canonical form. -/
theorem Mem.put_wf (m : Mem) (a : Nat) (l : List Byte) (h : m.wf = true) : (m.put a l).wf = true := cellsWrite_wf l a m.cells h
theorem Mem.writePart_wf (m : Mem) (a : Nat) (l : List Byte) (h : m.wf = true) : (m.writePart a l).wf = true := by
  simpa [Mem.wf] using cellsWrite_wf l a m.cells h
theorem Mem.writeBlock_wf (m : Mem) (a : Nat) (l : List Byte) (p : Bool) (h : m.wf = true) : (m.writeBlock a l p).wf = true := by
  simpa [Mem.wf] using cellsWrite_wf l a m.cells h
theorem Mem.write_wf (m : Mem) (a : Nat) (l : List Byte) (h : m.wf = true) : (m.write a l).wf = true := by
  unfold Mem.write
  refine foldl_ind (fun x : Mem => x.wf = true) _ _ m h (fun pc t ht => ?_)
  dsimp only
  split
  · exact Mem.writeBlock_wf _ _ _ _ ht
  · exact Mem.writePart_wf _ _ _ ht
theorem Mem.writeChecked_wf (m t : Mem) (a : Nat) (l : List Byte) (k : BitVec 32) (h : m.wf = true) (ht : m.writeChecked a l k = some t) :
    t.wf = true := by
  unfold Mem.writeChecked at ht
  split at ht
  · cases ht; exact Mem.writeBlock_wf _ _ _ _ h
  · split at ht
    · cases ht; exact Mem.writeBlock_wf _ _ _ _ h
    · cases ht
theorem Mem.setPoison_wf (m : Mem) (a : Nat) (h : m.wf = true) : (m.setPoison a).wf = true := by simpa [Mem.wf] using h
theorem Mem.setUncorr_wf (m : Mem) (a : Nat) (h : m.wf = true) : (m.setUncorr a).wf = true := by simpa [Mem.wf] using h
theorem Mem.readPoisons_wf (m : Mem) (a n : Nat) (h : m.wf = true) : (m.readPoisons a n).wf = true := by simpa [Mem.wf] using h
theorem Mem.silentChange_wf (m : Mem) (a : Nat) (l : List Byte) (h : m.wf = true) : (m.silentChange a l).wf = true :=
  cellsWrite_wf l a m.cells h
theorem Mem.zeroise_wf (m : Mem) (a n : Nat) (h : m.wf = true) : (m.zeroise a n).wf = true := cellsWf_filter _ m.cells h

/-- The memory of the reset state is in canonical form. -/
theorem reset_mem_wf : State.reset.blk.mem.wf = true := rfl

/-! ## Reading after writing -/

theorem cellRead_above {a : Nat} {c : List Host.Cell} (h : cellsAbove a c = true) : cellRead c a = memDefault := by
  induction c with
  | nil => rfl
  | cons y t ih =>
    obtain ⟨a', b'⟩ := y
    simp only [cellsAbove, List.all_cons, Bool.and_eq_true, decide_eq_true_eq] at h
    rw [cellRead, if_neg (by omega)]
    exact ih h.2

/-- In a canonical list, the byte that has been written reads as it was written, and every other byte as before. -/
theorem cellRead_write (a x : Nat) (b : Byte) (c : List Host.Cell) (h : cellsWf c = true) :
    cellRead (cellWrite a b c) x = if x = a then b else cellRead c x := by
  induction c with
  | nil =>
    by_cases hb : b = memDefault <;> by_cases hx : x = a <;> simp [cellWrite, hb, cellRead, hx]
    exact fun e => absurd e.symm hx
  | cons y t ih =>
    obtain ⟨a', b'⟩ := y
    have hy := (cellsWf_cons a' b' t).mp h
    simp only [cellWrite]
    split
    · rename_i hlt
      have hab : cellRead ((a', b') :: t) a = memDefault := by
        rw [cellRead, if_neg (by omega)]
        exact cellRead_above (cellsAbove_mono (Nat.le_of_lt hlt) hy.2.1)
      split
      · rename_i hb
        split
        · rename_i hx; rw [hx, hab, hb]
        · rfl
      · rw [cellRead]
        by_cases hx : x = a
        · simp [hx]
        · rw [if_neg (fun e => hx e.symm), if_neg hx]
    · split
      · rename_i heq
        subst heq
        split
        · rename_i hb
          split
          · rename_i hx; rw [hx, cellRead_above hy.2.1, hb]
          · rename_i hx; rw [cellRead, if_neg (fun e => hx e.symm)]
        · rw [cellRead, cellRead]
          by_cases hx : x = a
          · simp [hx]
          · rw [if_neg (fun e => hx e.symm), if_neg hx, if_neg (fun e => hx e.symm)]
      · rename_i h1 h2
        rw [cellRead, cellRead, ih hy.2.2]
        by_cases hx : x = a
        · rw [if_neg (by omega), if_pos hx, if_pos hx]
        · rw [if_neg hx, if_neg hx]

theorem cellRead_writes (l : List Byte) (a x : Nat) (c : List Host.Cell) (h : cellsWf c = true) :
    cellRead (cellsWrite a l c) x = if a ≤ x ∧ x < a + l.length then l.getD (x - a) 0 else cellRead c x := by
  induction l generalizing a c with
  | nil => rw [cellsWrite, if_neg]; simp only [List.length_nil]; omega
  | cons b t ih =>
    rw [cellsWrite, ih _ _ (cellWrite_wf a b c h), cellRead_write a x b c h]
    simp only [List.length_cons]
    by_cases h1 : x = a
    · subst h1
      rw [if_neg (by omega), if_pos rfl, if_pos (by omega), Nat.sub_self]
      rfl
    · by_cases h2 : a + 1 ≤ x ∧ x < a + 1 + t.length
      · rw [if_pos h2, if_pos (by omega)]
        obtain ⟨k, hk⟩ : ∃ k, x - a = k + 1 := ⟨x - a - 1, by omega⟩
        rw [show x - (a + 1) = k by omega, hk]
        rfl
      · rw [if_neg h2, if_neg h1, if_neg (by omega)]

/-- A byte after bytes have been put: one of them inside the range, as before outside. -/
theorem Mem.byte_put (m : Mem) (a x : Nat) (l : List Byte) (h : m.wf = true) :
    (m.put a l).byte x = if a ≤ x ∧ x < a + l.length then l.getD (x - a) 0 else m.byte x := cellRead_writes l a x m.cells h
theorem Mem.byte_writePart (m : Mem) (a x : Nat) (l : List Byte) (h : m.wf = true) :
    (m.writePart a l).byte x = if a ≤ x ∧ x < a + l.length then l.getD (x - a) 0 else m.byte x := by
  simpa [Mem.byte] using cellRead_writes l a x m.cells h
theorem Mem.byte_writeBlock (m : Mem) (a x : Nat) (l : List Byte) (p : Bool) (h : m.wf = true) :
    (m.writeBlock a l p).byte x = if a ≤ x ∧ x < a + l.length then l.getD (x - a) 0 else m.byte x := by
  simpa [Mem.byte] using cellRead_writes l a x m.cells h
@[simp] theorem Mem.byte_setPoison (m : Mem) (a x : Nat) : (m.setPoison a).byte x = m.byte x := by simp [Mem.byte]
@[simp] theorem Mem.byte_setUncorr (m : Mem) (a x : Nat) : (m.setUncorr a).byte x = m.byte x := by simp [Mem.byte]
@[simp] theorem Mem.byte_readPoisons (m : Mem) (a n x : Nat) : (m.readPoisons a n).byte x = m.byte x := by simp [Mem.byte]

theorem cellRead_filter (p : Host.Cell → Bool) (c : List Host.Cell) (x : Nat) (q : Nat → Bool) (hq : ∀ y, p y = q y.1) :
    cellRead (c.filter p) x = if q x = true then cellRead c x else memDefault := by
  induction c with
  | nil => simp [cellRead]
  | cons y t ih =>
    obtain ⟨a, b⟩ := y
    by_cases hp : p (a, b) = true
    · rw [List.filter_cons_of_pos hp, cellRead, cellRead, ih]
      by_cases hx : a = x
      · have : q x = true := by rw [← hx, ← hq (a, b), hp]
        simp [hx, this]
      · simp [hx]
    · rw [List.filter_cons_of_neg hp, ih, cellRead]
      by_cases hx : a = x
      · have : ¬ q x = true := by rw [← hx, ← hq (a, b)]; exact hp
        simp [this]
      · simp [hx]

/-- A zeroised byte reads 0, every other as before. -/
theorem Mem.byte_zeroise (m : Mem) (a n x : Nat) : (m.zeroise a n).byte x = if a ≤ x ∧ x < a + n then 0 else m.byte x := by
  have h := cellRead_filter (fun c => !(decide (a ≤ c.1) && decide (c.1 < a + n))) m.cells x
    (fun k => !(decide (a ≤ k) && decide (k < a + n))) (fun y => rfl)
  show cellRead (m.cells.filter _) x = _
  rw [h]
  by_cases h1 : a ≤ x <;> by_cases h2 : x < a + n <;> simp [h1, h2, memDefault, Mem.byte]

/-- The check of a block that is not poisoned and whose contents no error has changed is that of its contents, and is not the POISON value. -/
theorem Mem.check_plain (m : Mem) (a : Nat) (hp : m.poisoned a = false) (hc : m.crcDiff = []) (ha : a % 4096 = 0) :
    m.check a = checkOfCrc (crc32c (m.bytes a 4096)) ∧ m.check a ≠ poisonVal := by
  have h : m.check a = checkOfCrc (crc32c (m.bytes a 4096)) := by
    have e : a / 4096 * 4096 = a := by omega
    simp [Mem.check, Mem.storedCrc, hp, hc, e]
  refine ⟨h, ?_⟩
  rw [h, checkOfCrc]
  split
  · decide
  · assumption

/-- A slice of zeros is zeros. -/
theorem slice_zeros (n o k : Nat) : slice (List.replicate n 0) o k = List.replicate k 0 := by
  apply List.ext_getElem
  · simp
  · intro i h1 h2
    simp only [slice, List.getElem_map, List.getElem_range, List.getElem_replicate, List.getD_eq_getElem?_getD, List.getElem?_replicate]
    split <;> rfl

/-! ## The pieces of a range -/

theorem blockPieces_end (f a n : Nat) (pc : Nat × Nat) (h : pc ∈ blockPieces f a n) : a ≤ pc.1 ∧ pc.1 + pc.2 ≤ a + n := by
  induction f generalizing a n with
  | zero => simp [blockPieces] at h
  | succ f ih =>
    simp only [blockPieces] at h
    split at h
    · simp at h
    · simp only [List.mem_cons] at h
      rcases h with h | h
      · subst h; simp only; omega
      · have := ih _ _ h; omega

/-- What a fold of writes over pieces leaves at a byte: the byte of the piece that covers it. -/
theorem Mem.write_pieces (f a n : Nat) (hf : n = 0 ∨ n + a % 4096 ≤ f * 4096) (l : List Byte) (o : Nat) (ho : o ≤ a)
    (hl : a + n ≤ o + l.length) (m : Mem) (h : m.wf = true) (x : Nat) :
    ((blockPieces f a n).foldl (fun m pc =>
      let part := slice l (pc.1 - o) pc.2
      if pc.2 = 4096 then m.writeBlock pc.1 part false else m.writePart pc.1 part) m).byte x =
      if a ≤ x ∧ x < a + n then l.getD (x - o) 0 else m.byte x := by
  induction f generalizing a n m with
  | zero =>
    have hn : n = 0 := by omega
    subst hn
    rw [blockPieces, List.foldl_nil, if_neg (by omega)]
  | succ f ih =>
    simp only [blockPieces]
    split
    · rename_i hn
      subst hn
      rw [List.foldl_nil, if_neg (by omega)]
    · rename_i hn
      rw [List.foldl_cons]
      generalize hk : min n (4096 - a % 4096) = k
      have hk1 : 0 < k := by omega
      have hk2 : k ≤ n := by omega
      have hk3 : a % 4096 + k ≤ 4096 := by omega
      generalize hm : (if k = 4096 then m.writeBlock a (slice l (a - o) k) false else m.writePart a (slice l (a - o) k)) = m'
      have hw : m'.wf = true := by
        rw [← hm]; split
        · exact Mem.writeBlock_wf _ _ _ _ h
        · exact Mem.writePart_wf _ _ _ h
      have hb : ∀ y, m'.byte y = if a ≤ y ∧ y < a + k then l.getD (y - o) 0 else m.byte y := by
        intro y
        have hs : ∀ y, a ≤ y → y < a + k → (slice l (a - o) k).getD (y - a) 0 = l.getD (y - o) 0 := by
          intro y h1 h2
          rw [slice, List.getD_eq_getElem?_getD, List.getElem?_map, List.getElem?_range (by omega)]
          simp only [Option.map_some, Option.getD_some]
          congr 1; omega
        rw [← hm]
        split
        · rw [Mem.byte_writeBlock _ _ _ _ _ h, length_slice]
          split
          · rename_i hy; exact hs y hy.1 hy.2
          · rfl
        · rw [Mem.byte_writePart _ _ _ _ h, length_slice]
          split
          · rename_i hy; exact hs y hy.1 hy.2
          · rfl
      have hrest : n - k = 0 ∨ n - k + (a + k) % 4096 ≤ f * 4096 := by
        by_cases hkn : k = n
        · left; omega
        · right
          have h0 : (a + k) % 4096 = 0 := by omega
          rw [h0]
          omega
      rw [ih (a + k) (n - k) hrest (by omega) (by omega) m' hw, hb x]
      by_cases h1 : a + k ≤ x ∧ x < a + k + (n - k)
      · rw [if_pos h1, if_pos (by omega)]
      · rw [if_neg h1]
        by_cases h2 : a ≤ x ∧ x < a + k
        · rw [if_pos h2, if_pos (by omega)]
        · rw [if_neg h2, if_neg (by omega)]

/-- A byte after a write of any length: a byte of the data inside the range, as before outside. -/
theorem Mem.byte_write (m : Mem) (a x : Nat) (l : List Byte) (h : m.wf = true) :
    (m.write a l).byte x = if a ≤ x ∧ x < a + l.length then l.getD (x - a) 0 else m.byte x := by
  have := Mem.write_pieces (l.length / 4096 + 2) a l.length (Or.inr (by omega)) l a (Nat.le_refl a) (by omega) m h x
  simpa [Mem.write, piecesOf] using this

end Sys2Proof.Machine
end

