-- ==== Sys2Proof/Laws/Quiet.lean ====
section
/-! SUPPORT. What signalling can change: an event, a cause, an interrupt request and a log entry change registers, vectors, functions,
the host link, the error log and what the device sends, and nothing else. -/

namespace Sys2Proof.Machine

/-- `t` is `s` but for what signalling changes. -/
def quiet (s t : Blk) : Prop :=
  t = { s with regs := t.regs, vecs := t.vecs, fns := t.fns, link := t.link, rel := t.rel, out := t.out }

theorem quiet_refl (s : Blk) : quiet s s := rfl
theorem quiet_trans {s t u : Blk} (h1 : quiet s t) (h2 : quiet t u) : quiet s u := by
  unfold quiet at *
  rw [h2, h1]

/-! ## What a quiet change keeps -/

theorem quiet.cores {s t : Blk} (h : quiet s t) : t.cores = s.cores := by rw [h]
theorem quiet.mem {s t : Blk} (h : quiet s t) : t.mem = s.mem := by rw [h]
theorem quiet.place {s t : Blk} (h : quiet s t) : t.place = s.place := by rw [h]
theorem quiet.clus {s t : Blk} (h : quiet s t) : t.clus = s.clus := by rw [h]
theorem quiet.steps {s t : Blk} (h : quiet s t) : t.steps = s.steps := by rw [h]
theorem quiet.tts {s t : Blk} (h : quiet s t) : t.tts = s.tts := by rw [h]
theorem quiet.ins {s t : Blk} (h : quiet s t) : t.ins = s.ins := by rw [h]
theorem quiet.owner {s t : Blk} (h : quiet s t) : t.owner = s.owner := by rw [h]
theorem quiet.queues {s t : Blk} (h : quiet s t) : t.queues = s.queues := by rw [h]
theorem quiet.parked {s t : Blk} (h : quiet s t) : t.parked = s.parked := by rw [h]
theorem quiet.flights {s t : Blk} (h : quiet s t) : t.flights = s.flights := by rw [h]
theorem quiet.waitPkts {s t : Blk} (h : quiet s t) : t.waitPkts = s.waitPkts := by rw [h]
theorem quiet.power {s t : Blk} (h : quiet s t) : t.power = s.power := by rw [h]
theorem quiet.bias {s t : Blk} (h : quiet s t) : t.bias = s.bias := by rw [h]

/-! ## The operations that signal -/

theorem quiet_setReg (s : Blk) (r : Reg) (i : Nat) (v : Word) : quiet s (s.setReg r i v) := rfl
theorem quiet_setF (s : Blk) (f : Fld) (i v : Nat) : quiet s (s.setF f i v) := rfl
theorem quiet_setBit (s : Blk) (r : Reg) (i b : Nat) : quiet s (s.setBit r i b) := rfl
theorem quiet_count (s : Blk) (f : Fld) (i : Nat) : quiet s (s.count f i) := rfl
theorem quiet_emit (s : Blk) (o : Out) : quiet s (s.emit o) := rfl
theorem quiet_modFn (s : Blk) (f : Nat) (g : Fn → Fn) : quiet s (s.modFn f g) := rfl
theorem quiet_modVec (s : Blk) (f v : Nat) (g : Vec → Vec) : quiet s (s.modVec f v g) := rfl
theorem quiet_rel (s : Blk) (r : RelSt) : quiet s { s with rel := r } := rfl

theorem quiet_signalPme (s : Blk) (f : Nat) : quiet s (s.signalPme f) := by
  unfold Blk.signalPme; dsimp only; split <;> rfl

theorem quiet_sendMsi (s : Blk) (f v : Nat) : quiet s (s.sendMsi f v) := by
  unfold Blk.sendMsi
  split
  · exact quiet_trans (quiet_modVec s f v _) (quiet_signalPme _ f)
  · split
    · rfl
    · split
      · rfl
      · split <;> rfl

theorem quiet_request (s : Blk) (f v : Nat) : quiet s (s.request f v) := by
  unfold Blk.request; dsimp only
  split
  · exact quiet_trans (quiet_modVec s f v _) (quiet_trans (quiet_modVec _ f v _) (quiet_sendMsi _ f v))
  · rfl

theorem quiet_latch (s : Blk) (c : Nat) : quiet s (s.latch c) := by
  unfold Blk.latch; dsimp only
  split
  · exact quiet_trans (quiet_setBit s _ _ _) (quiet_request _ _ _)
  · rfl

theorem quiet_latchVf (s : Blk) (v c : Nat) : quiet s (s.latchVf v c) := by
  unfold Blk.latchVf; dsimp only
  split
  · exact quiet_trans (quiet_setBit s _ _ _) (quiet_request _ _ _)
  · rfl

theorem quiet_report (s : Blk) (e : Option ErrItem) : quiet s (s.report e) := by
  unfold Blk.report
  dsimp only
  have h : ∀ (b : Bool) (r : RelSt) (o : Out), quiet s (if b then { s with rel := r }.emit o else { s with rel := r }) := by
    intro b r o
    split
    · exact quiet_trans (quiet_rel s r) (quiet_emit _ _)
    · exact quiet_rel s r
  cases e with
  | none => exact h _ _ _
  | some x =>
    dsimp only
    split
    · exact foldl_ind (fun t => quiet s t) _ _ _ (h _ _ _) (fun x t h => quiet_trans h (quiet_emit t _))
    · exact h _ _ _

theorem quiet_toSideboard (s : Blk) (e : ErrItem) : quiet s (s.toSideboard e) := by
  unfold Blk.toSideboard; split
  · exact quiet_report s _
  · rfl

theorem quiet_capture (s : Blk) (sev : Nat) (src : Src) (bit : Nat) (i : Info) : quiet s (s.capture sev src bit i) := by
  unfold Blk.capture; dsimp only
  split
  · exact quiet_trans (quiet_rel s _) (quiet_toSideboard _ _)
  · split
    · rfl
    · rfl

theorem quiet_event (s : Blk) (src : Src) (idx bit : Nat) (i : Info) : quiet s (s.event src idx bit i) := by
  unfold Blk.event
  generalize src.regs = r
  obtain ⟨evt, en, cause⟩ := r
  dsimp only
  have h1 : ∀ c : Option Nat, quiet s (match c with
      | some c => if s.bitR en idx bit && !s.bitR evt idx bit then (s.setBit evt idx bit).latch c else s.setBit evt idx bit
      | none => s.setBit evt idx bit) := by
    intro c
    cases c with
    | none => rfl
    | some c =>
      dsimp only
      split
      · exact quiet_trans (quiet_setBit s _ _ _) (quiet_latch _ _)
      · rfl
  split
  · exact quiet_trans (h1 cause) (quiet_capture _ _ _ _ _)
  · exact h1 cause

theorem quiet_lpEvent (s : Blk) (idx bit : Nat) : quiet s (s.lpEvent idx bit) := by
  unfold Blk.lpEvent
  dsimp only
  have h1 : quiet s (if s.bitR .LP_EVT_EN idx bit && !s.bitR .LP_EVT idx bit then (s.setBit .LP_EVT idx bit).latch 6
      else s.setBit .LP_EVT idx bit) := by
    split
    · exact quiet_trans (quiet_setBit s _ _ _) (quiet_latch _ _)
    · rfl
  split
  · exact quiet_trans h1 (quiet_capture _ _ _ _ _)
  · exact h1

theorem quiet_relEvent (s : Blk) (bit : Nat) (i : Info) : quiet s (s.relEvent bit i) := by
  unfold Blk.relEvent; dsimp only
  split
  · exact quiet_trans (quiet_setBit s _ _ _) (quiet_capture _ _ _ _ _)
  · exact quiet_trans (quiet_setBit s _ _ _) (quiet_toSideboard _ _)

theorem quiet_insEvent (s : Blk) (inst bit : Nat) : quiet s (s.insEvent inst bit) := by
  unfold Blk.insEvent; dsimp only
  split
  · exact quiet_trans (quiet_event s _ _ _ _) (quiet_latchVf _ _ _)
  · exact quiet_event s _ _ _ _

theorem quiet_fatal (s : Blk) (cause : Nat) (i : Info) : quiet s (s.fatal cause i) := by
  unfold Blk.fatal
  dsimp only
  split
  · rfl
  · refine quiet_trans ?_ (quiet_emit _ _)
    refine quiet_trans ?_ (quiet_toSideboard _ _)
    refine foldl_ind (fun t => quiet s t) _ _ _ ?_ (fun x t h => quiet_trans h (quiet_toSideboard t _))
    refine quiet_trans ?_ (quiet_rel _ _)
    split
    · rfl
    · refine quiet_trans ?_ (quiet_latch _ _)
      rfl

end Sys2Proof.Machine
end

