-- ==== Sys2Proof/Laws/Regs.lean ====
section
/-! SUPPORT. Laws of the stored registers. -/

namespace Sys2Proof.Machine

/-- A register reads as it was last stored; every other register, and every other element of the array, reads as before. -/
theorem reg_setReg (s : Blk) (r q : Reg) (i j : Nat) (v : Word) :
    (s.setReg r i v).reg q j = if q = r ∧ j = i then v else s.reg q j := by
  simp only [Blk.reg, Blk.setReg, tblGet_set, Prod.mk.injEq]
@[simp] theorem reg_setReg_same (s : Blk) (r : Reg) (i : Nat) (v : Word) : (s.setReg r i v).reg r i = v := by
  simp [reg_setReg]

theorem reg_setReg_other (s : Blk) {r q : Reg} {i j : Nat} (h : q ≠ r ∨ j ≠ i) (v : Word) : (s.setReg r i v).reg q j = s.reg q j := by
  rw [reg_setReg, if_neg]
  rintro ⟨h1, h2⟩
  rcases h with h | h
  · exact h h1
  · exact h h2

/-- A field that has been stored reads as what was stored, cut to its width. -/
theorem getF_setF_same (s : Blk) (f : Fld) (i v : Nat) (h : f.hi < 64) (hl : f.lo ≤ f.hi) :
    (s.setF f i v).getF f i = v % 2 ^ (f.hi + 1 - f.lo) := by
  have hlt := putBits_lt (s.reg f.reg i).toNat f.hi f.lo v 64 (s.reg f.reg i).isLt h hl
  simp only [Blk.getF, Blk.setF, reg_setReg_same, BitVec.toNat_ofNat]
  rw [Nat.mod_eq_of_lt hlt, bits_putBits_same]

/-- A field of another register, or another element, reads as before. -/
theorem getF_setF_other (s : Blk) (f g : Fld) (i j v : Nat) (h : g.reg ≠ f.reg ∨ j ≠ i) : (s.setF f i v).getF g j = s.getF g j := by
  simp only [Blk.getF, Blk.setF, reg_setReg_other s h]

/-- A field beside the stored one in the same register reads as before. -/
theorem getF_setF_beside (s : Blk) (f g : Fld) (i v : Nat) (hr : g.reg = f.reg) (h : f.hi < 64) (hl : f.lo ≤ f.hi)
    (hd : g.hi < f.lo ∨ f.hi < g.lo) : (s.setF f i v).getF g i = s.getF g i := by
  have hlt := putBits_lt (s.reg f.reg i).toNat f.hi f.lo v 64 (s.reg f.reg i).isLt h hl
  simp only [Blk.getF, Blk.setF, hr, reg_setReg_same, BitVec.toNat_ofNat]
  rw [Nat.mod_eq_of_lt hlt, bits_putBits_other _ _ _ _ _ _ hd]

end Sys2Proof.Machine
end

