-- ==== Sys2Proof/WellFormed.lean ====
section
/-! DEFINITION. Well-formed commands: operands within what the spec gives each of them. The fields of an instruction word are bit vectors of
the encoding's widths, so every instruction of a core is well-formed; a word with nonzero reserved bits is one that the core answers
with ILLEGAL_OP (R94). -/

namespace Sys2Proof

/-- A stream packet of a kind on its channel, with fields of the header's widths (R170 to R175) and a payload in 8-byte units; a block
kind carries 4,096 bytes and no mask. -/
def pktOk (kind vc : Nat) (p : StreamPkt) : Bool :=
  decide (p.fmt = 0) && decide (p.kind = kind) && decide (p.vc = vc) && decide (p.dst < 2 ^ 19) && decide (p.src < 2 ^ 15) &&
  decide (p.inst < 64) && decide (p.age < 2 ^ 14) && decide (p.tag < 256) && decide (p.len ≤ 512) && decide (p.off < 2 ^ 21) &&
  decide (p.mc < 4) && decide (p.mlo < 8) && decide (p.mhi < 8) && decide (p.pep < 256) && decide (p.arg < 512) &&
  decide (p.payload.length ≤ 4096) && decide (p.payload.length % 8 = 0) &&
  (decide (kind ≠ 7 ∧ kind ≠ 8) || (decide (p.payload.length = 4096) && decide (p.mc ≠ 3)))

/-- A basic packet of a kind and format (R170, R176). -/
def basicOk (kind fmt : Nat) (p : BasicPkt) : Bool :=
  decide (p.fmt = fmt) && decide (p.kind = kind) && decide (p.vc = (if fmt = 1 then 3 else 2)) && decide (p.dst < 2 ^ 19) &&
  decide (p.src < 2 ^ 15) && decide (p.seq < 256) && decide (p.hops < 64) && decide (p.payload.length = (if fmt = 1 then 24 else 256))

/-- The size of a register access: one to eight bytes. Sizes other than 4 and 8 are answered under R28. -/
def sizeOk (n : Nat) : Bool := decide (0 < n) && decide (n ≤ 8)

/-- The operands of a command lie within the ranges that the spec gives. -/
def wellFormed : Instr → Bool
  | .linkPacketRx e l _ => decide (e < 264) && decide (8 ≤ l.length) && decide (l.length ≤ 4112)
  | .linkTrained e => decide (e < 264)
  | .linkTestTimeout e => decide (e < 264)
  | .rd p _ => pktOk 0 0 p
  | .wr p => pktOk 1 0 p
  | .amo p _ => pktOk 2 0 p
  | .rdblk p _ => pktOk 3 0 p
  | .rsp p => pktOk 4 1 p
  | .ack p => pktOk 5 1 p
  | .data p => pktOk 6 2 p
  | .wblk p => pktOk 7 2 p
  | .rblk p => pktOk 8 1 p
  | .mbx p => pktOk 9 3 p
  | .note p => pktOk 10 3 p
  | .ctrl p => pktOk 11 3 p
  | .lkprobe p => pktOk 12 3 p
  | .lkreply p => pktOk 13 3 p
  | .hello l => decide (l < 64)
  | .lsa l => decide (l < 64)
  | .ltest e p => basicOk 3 2 p && decide (e < 264)
  | .ltestEnd e p => basicOk 4 1 p && decide (e < 264)
  | .recover e => decide (e < 264)
  | .ctrlmsg e p => basicOk 6 1 p && decide (e < 264)
  | .rlPeriodUpdate conn => conn.all (fun c => decide (c < 65536))
  | .qdepthSample hub port _ => decide (port < (if hub then 4 else 1344))
  | .collModeWrite i _ => decide (i < 64)
  | .collRoundStart n _ => decide (n < 1024)
  | .collLocalCloseTimeout n _ _ => decide (n < 1024)
  | .collRoundTimeout n _ => decide (n < 1024)
  | .collSegmentData h _ _ => decide (h.length = 16)
  | .collSegmentEnd h _ => decide (h.length = 16)
  | .collSegmentArrive h => decide (h.length = 16)
  | .ftConnAlloc n => decide (n < 65536)
  | .ftWinOpen n => decide (n < 1048576)
  | .ftWinRevokeDone n => decide (n < 1048576)
  | .ftSend q => decide (q < 16384)
  | .ftRecv q => decide (q < 16384)
  | .ftArmedFire q _ => decide (q < 16384)
  | .ftCtxFetchDone c evict => decide (c < 65536) && decide (evict < 65536)
  | .ftSendPacket l _ _ => decide (l < 64)
  | .write l _ _ => decide (l < 64)
  | .writeImm l _ _ => decide (l < 64)
  | .readReq l _ _ => decide (l < 64)
  | .readResp l _ => decide (l < 64)
  | .atomic l _ _ => decide (l < 64)
  | .atomicResp l _ => decide (l < 64)
  | .ftAck l _ => decide (l < 64)
  | .nakSeq l _ => decide (l < 64)
  | .nakBusy l _ => decide (l < 64)
  | .nakAccess l _ => decide (l < 64)
  | .nakExpired l _ => decide (l < 64)
  | .nakInvalid l _ => decide (l < 64)
  | .nakCheck l _ => decide (l < 64)
  | .ftRtoExpiry c => decide (c < 65536)
  | .ftRnrDelayExpiry c => decide (c < 65536)
  | .ftAckDelayExpiry c => decide (c < 65536)
  | .ftDrainTimeout n => decide (n < 65536)
  | .ethFrameRx l frame _ _ _ => decide (l < 64) && decide (4 ≤ frame.length)
  | .pauseRx l quanta => decide (l < 64) && decide (quanta < 65536)
  | .pfcRx l vec times => decide (l < 64) && decide (vec < 256) && decide (times.length = 8) && times.all (fun t => decide (t < 65536))
  | .pauseTimeEnd l p => decide (l < 64) && decide (p < 8)
  | .pauseWatchdogExpiry l p => decide (l < 64) && decide (p < 8)
  | .pwdRecoverExpiry l p => decide (l < 64) && decide (p < 8)
  | .pauseRepeat l p => decide (l < 64) && decide (p < 8)
  | .laneCalDone l => decide (l < 64)
  | .linkUp l => decide (l < 64)
  | .linkDown l => decide (l < 64)
  | .portCfgWrite n _ => decide (n < 8)
  | .lpEnWrite l _ => decide (l < 64)
  | .portHoldExpiry l q => decide (l < 64) && decide (q < 65)
  | .egressVisit l => decide (l < 64)
  | .mtrCtlWrite n m _ => decide (n < 8) && decide (m < 512)
  | .ptpTxtsPop l => decide (l < 64)
  | .fecRateCheck l _ => decide (l < 64)
  | .hlTrained speed width _ => decide (speed < 8) && decide (width ≤ 16)
  | .hdmHostRead _ len _ _ => decide (0 < len)
  | .hdmHostWrite _ data _ _ => decide (0 < data.length)
  | .emuWrite _ size _ => sizeOk size
  | .doorbell fn slot => decide (fn < 64) && decide (slot < 16384)
  | .queueEntryFetched q _ => decide (q < 16384)
  | .queueEnable q => decide (q < 16384)
  | .queueDisable q => decide (q < 16384)
  | .queueClrErr q => decide (q < 16384)
  | .cqConsWrite q _ => decide (q < 16384)
  | .headPublish q => decide (q < 16384)
  | .jobStep q => decide (q < 16384)
  | .jobStepStart q => decide (q < 16384)
  | .jobMove q => decide (q < 16384)
  | .jobHcopy q => decide (q < 16384)
  | .cmdAccept q _ => decide (q < 16384)
  | .cmdReply fn => decide (fn < 64)
  | .hrmDataRead fn _ => decide (fn < 64)
  | .iftDone unit _ => decide (unit < 17408)
  | .thermalSample temps => decide (temps.length = 68)
  | .qpeakRead hub port => decide (port < (if hub then 4 else 1344))
  | .regLowHalfRead _ _ _ size => sizeOk size
  | .regWrite _ _ _ size _ => sizeOk size
  | .pllUnlock d => decide (d < 301)
  | .ptpEventMessageTx l _ => decide (l < 64)
  | .add _ _ | .sub _ _ | .mul _ _ | .mulh _ _ | .div _ _ | .rem _ _ | .and _ _ | .or _ _ | .xor _ _ | .shl _ _ | .shr _ _ |
  .cmp _ _ | .sel _ _ | .lih _ _ | .addi _ _ | .muli _ _ | .andi _ _ | .ori _ _ | .xori _ _ | .shli _ _ | .shri _ _ | .cmpi _ _ |
  .br _ _ | .jal _ _ | .vadd _ _ | .vsub _ _ | .vmul _ _ | .vfma _ _ | .vdiv _ _ | .vsqrt _ _ | .vmin _ _ | .vmax _ _ | .vcmp _ _
  | .vrcp _ _ | .vrsq _ _ | .vexp2 _ _ | .vlog2 _ _ | .vtanh _ _ | .vcvt _ _ | .viadd _ _ | .visub _ _ | .vimul _ _ | .vand _ _ |
  .vor _ _ | .vxor _ _ | .vshl _ _ | .vshr _ _ | .vsel _ _ | .vbc _ _ | .vget _ _ | .vwadd _ _ | .vcvtw _ _ | .vcvtf _ _ |
  .vicmp _ _ | .ld _ _ | .st _ _ | .vld _ _ | .vst _ _ | .ldb _ _ | .stb _ _ | .mxm _ _ | .mxms _ _ | .mxmr _ _ | .mxst _ _ |
  .mxaw _ _ | .aclr _ _ | .asave _ _ | .arst _ _ | .astat _ _ | .malloc _ _ | .mfree _ _ | .send _ _ | .mbrd _ _ | .afadd _ _ |
  .aswap _ _ | .acas _ _ | .lkacq _ _ | .lkrel _ _ | .fence _ _ | .waitb _ _ | .commit _ _ | .srr _ _ | .srw _ _ | .tstart _ _ |
  .nop _ _ | .transferDone _ _ _ | .matrixOpDone _ _ | .readoutDone _ _ | .mxmsDelivered _ | .mxmrStaged _ _ | .sendAccepted _ _ |
  .threadCommit _ _ | .lockReevaluate _ _ _ | .replayRestart _ | .streamEnWrite _ | .helloTimer _ | .discStart _ |
  .discQuietExpiry | .devIdWrite _ | .timeUpdate _ _ _ | .ppsEdge _ | .timeSourceTimeout | .holdoverExpiry | .srcWrite _ |
  .ttSetWrite _ _ | .ttBeatCfgWrite _ | .ttBeatEpochWrite _ | .ttTimeRead | .ppsOutPulse | .beatBoundary | .stepInputMet _ |
  .ttLoad _ | .ttStart | .ttStop | .ttUnload | .collOpen _ _ | .collRun | .collClose | .ftConnConnect | .ftConnClose |
  .ftConnReset | .ftWinRevoke | .ftCancel _ | .ftCntSet | .ftTxSlice _ | .hutchKekLoad | .hutchKekClear | .hutchKeyLoad |
  .hutchKeyClear | .cipEnWrite _ | .hdmBiasSet | .biasFlushDone _ | .d3hotEnter _ _ | .d0Return _ | .flrPf | .flrVf _ |
  .ltrWrite _ _ _ | .apertureReadCompletion _ _ | .completionTimeout _ | .msixModTimer _ _ | .msixUnmask _ _ _ _ | .linkL0Reached
  | .emuAct | .emuHeartbeat | .fwWatchdog | .moveFragmentDone _ _ _ _ | .quePfWrite _ | .cmdNop | .createInstance |
  .destroyInstance | .resetInstance | .freezeInstance | .saveInstance _ | .restoreInstance _ | .resumeInstance | .dirtyLogStart |
  .dirtyLogEpoch | .dirtyLogStop | .move | .hcopy | .resetDrainDone _ | .zeroiseDone _ | .freezeDone _ | .freezeCut _ |
  .scrub _ _ | .coreAgeTick | .errorHandle | .sideboardHeartbeat | .histFlashWrite _ | .relForceTest _ | .relForceRetire _ |
  .relForceReturn _ | .hqUnitWrite _ | .hqAnswer | .regionWakeDone _ | .pl3Exit | .freqStep _ | .freqTgtWrite _ _ |
  .powerSample _ _ | .refLost | .refRestored | .pcieRefclkLost | .vinSample _ | .powerOnReset | .perstNAssert | .perstNDeassert |
  .pwrEnAssert | .pwrEnDeassert | .pwrEnHoldEnd | .positionReset _ | .posResetDone | .bootGo | .bootVerify _ _ | .startupPortsDone
  | .startupFabricReady | .vbatLow | .rtcTick | .rtcWrite _ | .pwrPeakRead | .pwrGoodAssert | .railFault | .pcieRefclkRestored |
  .hostLinkDown | .linkPowerStateEntry _ | .pmeStatusClear _ | .mctpMessage _ | .redfishRequest _ | .aonParity _ => true

end Sys2Proof
end

