-- ==== Sys2Proof/Tests/Slice0.lean ====
section
/-! SUPPORT. The package's own tests: ill-formed commands are refused by each check of WellFormed, small effects of one command on a small
state, and for every statement of Obligations.lean the hypotheses of its clauses met by concrete states and operands. -/

open Sys2Proof Sys2Proof.Machine

namespace Sys2Proof.Tests

set_option Elab.async false

/-! ## States for the tests -/

/-- A thread that runs, with a few registers. -/
def tTh : Thread :=
  { st := .running,
    g := [(1, 0x1000), (2, 5), (3, 0), (4, BitVec.intMin 64), (5, -1), (6, 3), (7, 0x10000), (8, 0x2000)],
    v := [(1, 0x3F800000), (2, 0x40000000), (3, 7)], p := [(1, 0xFF), (2, 0xF0)] }

/-- A position of an instance that owns region 0, in PL0, with every right on its first 512 MiB; a listed code stands at the thread's PC. -/
def tBlk : Blk :=
  { mem := { cells := [(0, 1)] }
    cores := [(0, { threads := [(0, tTh)] })], owner := [(0, 0)], ins := [(0, { st := .active, gen := 1, map := [(0, 0xF00)] })],
    regs := [((.REG_PWR, 0), 0)] }

def tS : State := { blk := tBlk }
def tI : Issue := { pos := 0, tid := 0 }

def tR (m : BitVec 4) (t : BitVec 4 := 0) : FmtR := { d := 9, a := 1, b := 2, c := 0, p := 0, t := t, m := m }
def tF (m : BitVec 4) (imm : BitVec 32 := 0) : FmtI := { d := 9, a := 1, b := 0, t := 0, m := m, imm := imm }

/-! ## The machine -/

theorem witness_StepRunsFront : tS.pending = [] := rfl

theorem witness_StepKeepsMemory : State.reset.memOk ∧ ∃ t, step (State.reset.withCommand .cmdNop) = .next t := ⟨rfl, _, rfl⟩

theorem witness_PlacementChangesAtBoundaries :
    changesPlacement (.add tI (tR 0)) = false ∧ ∃ t, exec (.add tI (tR 0)) tS = .next t := ⟨rfl, _, rfl⟩

/-! ## Scalar instructions -/

theorem tS_ready : tS.ready tI false [.g 9, .g 1, .g 2] := by unfold State.ready; decide

theorem witness_ScalarResults :
    (tS.ready tI false [.g 9, .g 1, .g 2] ∧ scalarForm (tR 0) ∧ scalarForm (tR 1) ∧ (tS.thread tI).gr 2 ≠ 0) ∧
    (tS.ready tI false [.g 9, .g 1] ∧ immForm (tF 0) ∧ immForm (tF 1)) ∧ tS.ready tI false [.g 9, .g 1, .g 2, .g 0] := by
  unfold State.ready scalarForm immForm; decide

theorem witness_Conditions :
    (tS.ready tI false [.g 9, .g 1, .g 2] ∧ scalarForm (tR 5) ∧ scalarForm (tR 6)) ∧
    (tS.ready tI false [.g 9, .g 1] ∧ immForm (tF 5) ∧ immForm (tF 6)) ∧
    (tS.ready tI false [.g 1, .g 2] ∧ condition 0 0x1000 5 = false ∧ condition 1 0x1000 5 = true) := by
  unfold State.ready scalarForm immForm; decide

theorem witness_DivisionAndJumps :
    (tS.ready tI false [.g 9, .g 1, .g 2] ∧ scalarForm (tR 0)) ∧
    (tS.ready tI false [.g 9, .g 1] ∧ immForm (tF 0) ∧ ((tS.thread tI).gr 1).toNat % 8 = 0 ∧
      ((tS.thread tI).gr 1 + (4 : BitVec 32).signExtend 64).toNat % 8 ≠ 0) ∧
    (tS.ready tI false [.g 9, .g 1, .g 3] ∧ (tS.thread tI).gr 3 = 0) ∧
    (tS.ready tI false [.g 9, .g 4, .g 5] ∧ (tS.thread tI).gr 4 = BitVec.intMin 64 ∧ (tS.thread tI).gr 5 = -1) := by
  unfold State.ready scalarForm immForm; decide

theorem witness_ExceptionLatchesRecord : Cause.align.isH = false ∧ tblFind (tBlk.th 0 0).step tBlk.steps = none := by decide

theorem witness_IssueChecks :
    (tS.ready tI false [.g 9, .g 1, .g 2] ∧ ({ tR 0 with z31 := 1 } : FmtR).z31 ≠ 0 ∧ ({ tR 0 with zhi := 1 } : FmtR).zhi ≠ 0) ∧
    State.reset.blk.canIssue 0 0 [] = false := by unfold State.ready; decide

/-- R100: the quotient of a division by zero is all ones. -/
theorem test_div_by_zero : (match exec (.div tI { tR 0 with b := 3 }) tS with
    | .next t => (t.blk.th 0 0).gr 9
    | _ => 0) = 0xFFFFFFFFFFFFFFFF := by decide

/-- R98: ADD writes the sum, and the PC goes on by 8. -/
theorem test_add : (match exec (.add tI (tR 0)) tS with
    | .next t => ((t.blk.th 0 0).gr 9, (t.blk.th 0 0).pc)
    | _ => (0, 0)) = (0x1005, 8) := by decide

/-- R71: a write of g0 is discarded. -/
theorem test_g0 : (match exec (.add tI { tR 0 with d := 0 }) tS with
    | .next t => (t.blk.th 0 0).gr 0
    | _ => 1) = 0 := by decide

/-- R99: M = 2 compares signed numbers. -/
theorem test_cmp_signed : (match exec (.cmp tI { tR 2 with a := 4, b := 2 }) tS with
    | .next t => (t.blk.th 0 0).gr 9
    | _ => 0) = 1 := by decide

/-- R98: SHR with M = 1 shifts in copies of the sign. -/
theorem test_shr_sign : (match exec (.shr tI { tR 1 with a := 4, b := 6 }) tS with
    | .next t => (t.blk.th 0 0).gr 9
    | _ => 0) = 0xF000000000000000 := by decide

/-! ## Vector instructions -/

theorem witness_PredicateGovernsLanes : (128 ∈ [8, 16, 32, 64, 128] ∧ 128 * 4 ≤ 512 ∧ 3 < 4) ∧ (8 ∈ [8, 16, 32, 64, 128] ∧ 8 * 64 ≤ 512 ∧ 63 < 64) := by
  decide

theorem witness_VectorFloats :
    (vecForm (tR 0 14) ∧ (tR 0 14).m = 0 ∧ floatOf 14 fmtF32 ∧ floatOf 0 fmtBF16 ∧ floatOf 1 fmtF16 ∧
      tS.ready tI false [.v 9, .v 1, .p 0, .v 2] ∧ tS.ready tI false [.v 9, .v 1, .p 0, .v 2, .v 0] ∧ tS.ready tI false [.v 9, .v 1, .p 0]) ∧
    (vecForm (tR 0 2) ∧ (tR 0 2).t ≠ 14 ∧ (tR 0 2).t ≠ 0 ∧ (tR 0 2).t ≠ 1) := by
  refine ⟨⟨?_, rfl, .inl ⟨rfl, rfl⟩, .inr (.inl ⟨rfl, rfl⟩), .inr (.inr ⟨rfl, rfl⟩), ?_, ?_, ?_⟩, ?_⟩ <;>
    (first | unfold State.ready | unfold vecForm) <;> decide

theorem witness_VectorIntegers :
    (vecForm (tR 3) ∧ (tR 3).m.toNat < 4 ∧ 4 ≤ (tR 4).m.toNat ∧ (tR 7).m.toNat < 8 ∧ tS.ready tI false [.v 9, .v 1, .v 2, .p 0]) ∧
    (tS.ready tI false [.v 9, .v 1, .v 2, .p 1, .p 0] ∧ tS.ready tI false [.v 9, .g 1, .p 0] ∧ tS.ready tI false [.g 9, .v 1, .g 2, .p 0]) ∧
    (tS.ready tI false [.p 7, .v 1, .v 2, .p 0] ∧ (tR 4 14).m.toNat < 5 ∧ (tR 3 5).t.toNat < 6) := by
  unfold State.ready vecForm; decide

theorem witness_VectorConversions :
    (vecForm (tR 0 14) ∧ cvtPair 14 0 = some (.fp32, .bf16) ∧ tS.ready tI false [.v 9, .v 1, .p 0]) ∧
    (tS.ready tI false [.v 9, .v 1, .v 2, .p 0] ∧ tS.ready tI false [.v 9, .v 1, .g 2, .p 0] ∧ cvtParams ((tS.thread tI).gr 2) = some (5, 0)) := by
  unfold State.ready vecForm; decide

/-- R101: 1.0 + 2.0 in binary32, in lane 0. -/
theorem test_vadd : (match exec (.vadd tI (tR 0 14)) tS with
    | .next t => lane 32 0 ((t.blk.th 0 0).vr 9)
    | _ => 0) = 0x40400000 := by decide +kernel

/-- R72: with predicate p2 = F0h the lane of 32 bits 0 stays and lane 1 is written. -/
theorem test_predicate : (match exec (.viadd tI { tR 2 with d := 3, a := 1, b := 1, p := 2 }) tS with
    | .next t => (lane 32 0 ((t.blk.th 0 0).vr 3), lane 32 1 ((t.blk.th 0 0).vr 3))
    | _ => (0, 1)) = (7, 0) := by decide +kernel

/-! ## Loads, stores and transfers -/

/-- The drawer word at 1000h. -/
def tMem : State := { blk := { tBlk with mem := { cells := [(0, 1), (0x1000, 0x80), (0x1001, 0x01)] } } }
def tSt (m : BitVec 4) (imm : BitVec 32 := 0) : FmtI := { d := 0, a := 1, b := 2, t := 0, m := m, imm := imm }

theorem witness_LoadsAndStores :
    (tS.ready tI false [.g 9, .g 1] ∧ tS.leads tI 0x1000 .rd = .drawer 0x1000 ∧ tS.localAccess tI 0x1000 8 false ∧
      tS.ready tI false [.v 9, .g 1] ∧ tS.localAccess tI 0x1000 64 false) ∧
    (tS.ready tI false [.g 1, .g 2] ∧ tS.leads tI 0x1000 .wr = .drawer 0x1000 ∧ tS.localAccess tI 0x1000 8 true ∧
      tS.ready tI false [.g 1, .v 2, .p 7] ∧ tS.localAccess tI 0x1000 64 true) ∧
    ((tS.thread tI).gr 1 + (0 : BitVec 32).signExtend 64 = 0x1000 ∧ ((tS.thread tI).gr 1 + (1 : BitVec 32).signExtend 64).toNat % 2 ≠ 0) := by
  unfold State.ready State.localAccess; decide

/-- R104: LD of one byte with sign extension. -/
theorem test_ld_sign : (match exec (.ld tI (tF 4)) tMem with
    | .next t => (t.blk.th 0 0).gr 9
    | _ => 0) = 0xFFFFFFFFFFFFFF80 := by decide

/-- R104: ST writes the low bytes, least significant first; the byte behind them stays. -/
theorem test_st : (match exec (.st tI (tSt 0)) tMem with
    | .next t => [t.blk.mem.byte 0x1000, t.blk.mem.byte 0x1001]
    | _ => []) = [5, 1] := by decide

/-- R87, R104: a misaligned load raises ALIGN with its address. -/
theorem test_ld_align : (match exec (.ld tI (tF 1 1)) tMem with
    | .next t => (t.blk.th 0 0).fault
    | _ => none) = some { cause := .align, pc := 0, addr := 0x1001 } := by decide

/-- The thread owns tile buffers 0 and 1 and accumulator 0. -/
def tOwnCore : CoreSt :=
  { threads := [(0, { tTh with g := [(1, 0x10000), (2, 0x20000), (3, 0x0000100000030000)] })]
    tiles := [(0, { owner := some 0, valid := true }), (1, { owner := some 0, valid := true }), (2, { owner := some 0, valid := true })]
    accs := [(0, { owner := some 0 })] }
def tOwn : State := { blk := { tBlk with cores := [(0, tOwnCore)] } }

theorem witness_TransfersQueue :
    (tOwn.ready tI false [.g 1, .g 0] ∧ tOwn.ready tI false [.g 1, .g 3] ∧ ((tOwn.blk.core 0).tile 0).owner = some 0 ∧ tOwn.slotFree tI false ∧
      tOwn.slotFree tI true) ∧
    (tOwn.blk.blockAt 0 0x10000 4096 4096 .rd = .ok 0x10000 ∧ tOwn.blk.blockAt 0 0x10000 4096 4096 .wr = .ok 0x10000 ∧
      tOwn.blk.blockAt 0 0x10000 4096 1024 .wr = .ok 0x10000) ∧
    ((4 : Nat) ∈ [4, 5, 6, 7, 8, 9, 12] ∧ bits 0x0000100000030000 63 61 = 0 ∧ bits 0x0000100000030000 63 56 = 0 ∧
      32 * (bits 0x0000100000030000 60 56 + 1) = 32 ∧ 16 * 32 * 8 / 8 ≤ 4096) ∧
    (∃ sd, tOwn.blk.sideRanges 0 0x0000100000030000 16 (sideBytes ((Fmt.ofCode 4).getD .fp32) 32) .rd = some sd) ∧
    (∃ sd, tOwn.blk.sideRanges 0 0x0000100000030000 (16 * 1024 / 512) 1 .wr = some sd) ∧
    (tOwn.ready tI true [.g 1] ∧ ((tOwn.blk.core 0).acc 0).owner = some 0 ∧ tOwn.blk.blockAt 0 0x10000 16384 16384 .wr = .ok 0x10000 ∧
      tOwn.blk.blockAt 0 0x10000 16384 16384 .rd = .ok 0x10000) := by
  refine ⟨?_, ⟨rfl, rfl, rfl⟩, by decide, ⟨_, rfl⟩, ⟨_, rfl⟩, ?_, rfl, rfl, rfl⟩ <;> (unfold State.ready; first | decide | (unfold State.slotFree; decide))

/-! ## Matrix instructions -/

def tMx : FmtM := { acc := 0, ta := 2, tb := 0, fa := 2, fb := 2, kx := 32 }
/-- The same, its instance in IMPLICIT mode with an open collective context 0. -/
def tCtx : State := { blk := { tOwn.blk with ctxs := [(0, { st := 1, ntile := 1 })], regs := [((.REG_PWR, 0), 0), ((.COLI_CFG, 0), 1)] } }

theorem witness_MatrixIssue_queues :
    (tCtx.blk.mqFull 0 = false ∧ tCtx.ready tI true [] ∧ tMx.bad { acc := true, ta := true, tb := true, mx := true, we := true } = false ∧
      mxmCause (tCtx.blk.core 0) 0 tMx true = none) ∧
    (({ acc := 0, tb := 0 } : FmtM).bad { acc := true, tb := true, we := true } = false ∧ ((tCtx.blk.core 0).tile 1).owner = some 0) ∧
    (tCtx.ready tI true [.g 1, .g 0] ∧ (tCtx.blk.core 0).fenced 0 true = false ∧ (tCtx.blk.core 0).fenced 0 false = false ∧
      ({ tMx with gt := 1 } : FmtM).bad { acc := true, ta := true, tb := true, mx := true, we := true, gt := true, gx := true } = false ∧
      mxPartBad { tMx with gt := 1 } = false ∧ destBad 0 = false ∧ tCtx.blk.tdCause 0 0x10000 = none ∧ tCtx.blk.destUnmapped 0 0 = false) ∧
    tCtx.blk.mxmrRefused 0 0 0 = false ∧
    (tCtx.ready tI true [.g 1] ∧ ({ gt := 1 } : FmtM).bad { acc := true, tb := true, tout := true, gt := true } = false) := by
  unfold State.ready; decide

theorem witness_MatrixIssue_resources :
    tOwn.ready tI true [] ∧ (tOwn.blk.core 0).busy 8 = false ∧ ((tOwn.blk.core 0).acc 0).owner = some 0 ∧ tOwn.ready tI true [.g 9] ∧
    (List.range 12).filter (fun r => (0x09 + 256 * 2 : Nat).testBit r) = [0, 3, 9] ∧ (tOwn.blk.core 0).refuses 0 3 = false := by
  unfold State.ready; decide

/-- R76, R117: MALLOC by another thread is refused the buffer that thread 0 owns, and grants nothing. -/
theorem test_malloc : (match exec (.malloc { pos := 0, tid := 0 } { tbm := 0x18, d := 9 }) { blk := { tOwn.blk with cores := [(0,
      { tOwnCore with tiles := [(3, { owner := some 1 })] })] } } with
    | .next t => ((t.blk.th 0 0).gr 9, ((t.blk.core 0).tile 4).owner)
    | _ => (0, none)) = (8, none) := by decide

/-! ## Threads -/

theorem witness_MailboxMessages :
    (tS.ready tI true [.v 1, .g 0] ∧ tS.ready tI true [.g 0] ∧ (tS.blk.core 0).fenced 0 true = false ∧ tS.blk.ownerOf (bits 0 17 12) = some 0) ∧
    (tS.ready tI true [.g 9, .g 3] ∧ (tS.blk.mb 0).waiting = []) := by
  unfold State.ready; decide

def tC (d a b c : BitVec 5) (n : BitVec 3) (m : BitVec 4) (k : BitVec 64 := 0) : FmtC := { d := d, a := a, b := b, c := c, n := n, m := m, imm64 := k }

/-- R118, R385: MBRD of a word that ends its packet gives the word, and VALID and END. -/
theorem test_mbrd : (match exec (.mbrd tI (tC 9 0 0 3 0 0)) { blk := { tBlk with mbox := [(0, { drain := [⟨0x55, true⟩], pkts := 1 })] } } with
    | .next t => ((t.blk.th 0 0).gr 9, (t.blk.th 0 0).gr 3)
    | _ => (0, 0)) = (0x55, 3) := by decide

/-- Lock words: one free, one held by thread 0 of position 0. -/
def tLock : State := { blk := { tBlk with mem := { cells := [(0, 1), (0x2000, 1)] } } }
def tLk (a : BitVec 5) : FmtI := { d := 9, a := a, b := 0, t := 0, m := 0, imm := 0 }

theorem witness_AtomicsAndLocks :
    (tLock.ready tI false [.g 9, .g 1, .g 2] ∧ tLock.localWord tI (tLk 1) 0x1000) ∧
    (tLock.ready tI false [.g 9, .g 1] ∧ tLock.wordAt 0x1000 = 0) ∧
    (tLock.ready tI false [.g 9, .g 8] ∧ tLock.localWord tI (tLk 8) 0x2000 ∧ tLock.wordAt 0x2000 = 1 ∧
      bits 1 35 2 = bits (tLock.blk.holderOf 0 0) 35 2 ∧ (tLock.blk.core 0).relSet 0 (tLock.seq tI) = []) := by
  unfold State.ready State.localWord State.localAccess; decide

/-- R145: LKACQ of a lock word that the thread itself holds returns LOCK_SELF. -/
theorem test_lkacq_self : (match exec (.lkacq tI (tLk 8)) tLock with
    | .next t => ((t.blk.th 0 0).gr 9, t.blk.mem.byte 0x2000)
    | _ => (0, 0)) = (0x0201, 1) := by decide

/-- R146: LKREL by the holder clears HELD and returns OK. -/
theorem test_lkrel : (match exec (.lkrel tI (tLk 8)) tLock with
    | .next t => ((t.blk.th 0 0).gr 9, t.blk.mem.byte 0x2000)
    | _ => (1, 1)) = (0, 0) := by decide

theorem witness_ThreadInstructions :
    tS.ready tI false [] ∧ tS.ready tI false [.g 9] ∧ tS.blk.ownerOf (regionOfPos 0) = some 0 ∧ tS.ready tI false [.g 1] ∧
    ((0 : Word) + (0 : BitVec 32).signExtend 64).toNat ≤ tS.blk.time.beat ∧
    tS.blk.time.beat < ((tS.thread tI).gr 1 + (0 : BitVec 32).signExtend 64).toNat := by
  unfold State.ready; decide

theorem witness_ThreadStarts :
    (tS.ready tI false [.g 1, .g 2] ∧ ((tS.thread tI).gr 1).toNat % 8 = 0 ∧ (tS.blk.th 0 15).st = .idle ∧ (tS.blk.th 0 0).st ≠ .idle) ∧
    (tS.ready tI false [.g 2, .g 2] ∧ ((tS.thread tI).gr 2).toNat % 8 ≠ 0) := by
  unfold State.ready; decide

/-- R83: a started thread finds the argument in g1. -/
theorem test_tstart : (match exec (.tstart tI { d := 0, a := 1, b := 2, t := 0, m := 0, imm := 15 }) tS with
    | .next t => ((t.blk.th 0 15).pc, (t.blk.th 0 15).gr 1, (t.blk.th 0 15).st)
    | _ => (0, 0, .idle)) = (0x1000, 5, .running) := by decide

/-! ## What the units of a core finish -/

def tQ (k : MqKind) (f : FmtM) (td : Option (List Byte)) : MqEntry :=
  { id := 3, tid := 0, pc := 0, step := 0, kind := k, f := f, td := 0x10000, x := 0, tdRead := td }

/-- A descriptor of a BF16 tile and one of a W128 tile. -/
def tTd : List Byte := List.replicate 32 0

theorem witness_MatrixOpsEnd_products :
    (∃ a, mxmResult { tOwnCore with mq := [tQ .mxm tMx none] } tMx = .ok a) ∧ (∃ a, mxawResult { tOwnCore with mq := [tQ .mxaw {} none] } {} = .ok a) ∧
    (tQ .mxm tMx none).readout = false ∧ (tQ .mxm tMx none).kind ≠ .mxst ∧ tOwnCore.xfer = [] := ⟨⟨_, rfl⟩, ⟨_, rfl⟩, rfl, by decide, rfl⟩

theorem witness_MatrixOpsEnd_readout :
    ∃ d, tdParse tTd = .ok d ∧ d.fmt ≠ .w128 ∧ 512 * (0 : BitVec 3).toNat + tileSize d.fmt ≤ 4096 ∧
      bits 0 58 38 + (((tOwnCore.acc 0).readTile d).data ++ ((tOwnCore.acc 0).readTile d).scales).length ≤ 2 ^ 21 ∧
      (mxmsPackets 0 0 3 (((tOwnCore.acc 0).readTile d).data ++ ((tOwnCore.acc 0).readTile d).scales)).length ≤ tOwn.blk.tagRoom 0 ∧
      tOwn.blk.flowOpen 0 (bits 0 29 0) 2 = true := by
  refine ⟨_, rfl, ?_⟩
  decide +kernel

/-- The descriptor of a queued read-out, read already, and as it stands in memory; the destination tile is owned. -/
theorem witness_MatrixOpsEnd_descriptor :
    tOwn.blk.tdIs 0 (tQ .mxst { acc := 0, tb := 0 } (some tTd)) tTd ∧ tOwn.blk.tdIs 0 (tQ .mxst { acc := 0, tb := 0 } none) tTd ∧
    (tQ .mxm tMx none).saved = none ∧ (tOwnCore.tile 0).owner.isSome = true :=
  ⟨.inl rfl, .inr ⟨rfl, 0x10000, by decide +kernel, rfl, by decide +kernel⟩, rfl, rfl⟩

theorem witness_MatrixOpsEnd_staged :
    let d : Deliv := { id := 3, tid := 0, step := 0, acks := 0, coll := some (0, 0, []) }
    (State.reset.blk.ctx 0).st ≠ 1 ∧ (tCtx.blk.ctx 0).st = 1 ∧ tCtx.blk.instOfPos 0 = some (tCtx.blk.ctx 0).inst ∧
    (tCtx.blk.ctx 0).st ≠ 0 ∧ (tCtx.blk.ctx 0).rnd ≤ tCtx.blk.delivRound d ∧ tCtx.blk.delivRound d < (tCtx.blk.ctx 0).rnd + (tCtx.blk.ctx 0).nbufR ∧
    ((tCtx.blk.ctx 0).round 0).closed = false ∧ (tCtx.blk.ctx 0).op ≠ opBarrier ∧ ((tCtx.blk.ctx 0).round 0).contribs = [] ∧ 0 < (tCtx.blk.ctx 0).ncont := by
  decide

def tX (k : XferKind) : Xfer := { id := 3, tid := 0, pc := 0, step := 0, kind := k, iaddr := 0x10000, dpa := 0x10000, len := 4096 }
def tXs (k : XferKind) : State := { blk := { tOwn.blk with cores := [(0, { tOwnCore with xfer := [tX k] })] } }

theorem witness_CoreWorkEnds_transfers :
    ((tXs (.asave 0)).transfers 0 0 (tX (.asave 0)) ∧ (tXs (.stb 0 1024 none)).transfers 0 0 (tX (.stb 0 1024 none)) ∧
      (tXs (.ldb 0 0 16 0)).transfers 0 0 (tX (.ldb 0 0 16 0)) ∧ (tXs (.arst 0)).transfers 0 0 (tX (.arst 0))) ∧
    ((tOwnCore.tile 0).valid = true ∧ (tOwnCore.tile 5).valid = false ∧ remoteDpa 0 0x10000 = false) := by
  unfold State.transfers; decide

/-- A block that is poisoned, and one that is not. -/
theorem witness_CoreWorkEnds_checks :
    ({ poison := [16] } : Mem).check 0x10000 = poisonVal ∧ accOfImage (List.replicate 16384 1) none = none := by
  decide +kernel

def tOp (k : OpKind) : Blk := { tBlk with cores := [(0, { threads := [(0, { tTh with ops := [{ id := 3, kind := k, addr := 0x1000 }] })] })] }

theorem witness_CoreWorkEnds_threads :
    ((tOp .send).th 0 0).ops = [{ id := 3, kind := .send, addr := 0x1000 }] ∧ ({ tOp .send with sendAcc := [(0, 3)] } : Blk).sendAcc.contains (0, 3) = true ∧
    (tOp .send).sendAcc.contains (0, 3) = false ∧ ((tOp .send).core 0).quiet 0 = false ∧
    (tBlk.core 0).quiet 0 = true ∧ ((tOp (.lock 9 0x1000 true false)).th 0 0).ops = [{ id := 3, kind := .lock 9 0x1000 true false, addr := 0x1000 }] ∧
    (tBlk.th 0 0).ops = [] := by decide

/-- A block that no error has touched has its own check, which is not the poison value. -/
theorem witness_CoreWorkEnds_good :
    tOwn.blk.mem.check 0x10000 = checkOfCrc (crc32c (tOwn.blk.mem.bytes 0x10000 4096)) ∧ tOwn.blk.mem.check 0x10000 ≠ poisonVal :=
  Mem.check_plain _ _ rfl rfl rfl

/-- An image of zeros is a valid one. -/
theorem image_valid (l : List Byte) (o : Option Nat) (h : (List.range 512).all (fun k => imageElemOk (slice l (32 * k) 32) k) = true) :
    ∃ b, accOfImage l o = some b := by
  unfold accOfImage
  rw [if_pos h]
  exact ⟨_, rfl⟩
theorem witness_CoreWorkEnds_image : ∃ b, accOfImage (List.replicate 16384 0) none = some b := by
  refine image_valid _ _ ?_
  simp only [slice_zeros]
  decide +kernel

/-! ## The package fabric -/

/-- A transfer that writes the drawer of another cluster has packets to send; one in its own cluster has none. -/
theorem witness_CoreWorkEnds_local : (tX (.asave 0)).putPkts 0 tOwnCore = [] ∧ (tX (.arst 0)).putPkts 0 tOwnCore = [] := by decide +kernel

/-- A packet to the drawer of position 0, from position 1. -/
def tPkt (kind vc : Nat) (payload : List Byte) (arg : Nat := 0) : StreamPkt := { vc := vc, kind := kind, dst := 0, src := 1, len := 8, arg := arg, payload := payload }

theorem witness_RequestsAndAnswers_requests :
    (tS.admits (tPkt 0 0 []) ∧ tS.admits (tPkt 1 0 (List.replicate 64 1) 255) ∧ tS.admits (tPkt 2 0 (List.replicate 16 1) 2) ∧
      tS.admits (tPkt 7 2 [])) ∧ atMemory (tPkt 0 0 []) = true ∧ atMemory (tPkt 7 2 []) = true ∧ tS.blk.mem.uncorr = [] := by
  unfold State.admits State.fromOutside; decide +kernel

/-- Packets that carry data to the engines of the hub: to the move engine and, from another engine, to the Dresser. -/
def tEngPkt (kind eng : Nat) : StreamPkt := { tPkt kind (if kind = 1 then 0 else 2) [1] with dst := 2 ^ 18 + eng, sys := true }

theorem witness_RequestsAndAnswers_engines :
    (∀ k ∈ [1, 6, 7], tS.admits (tEngPkt k engMove) ∧ atMemory (tEngPkt k engMove) = false ∧ ((tEngPkt k engMove).kind = kWr ∨ (tEngPkt k engMove).vc = 2)) ∧
    [engDresser, engMove, engHcopy, engTt, 8, 9, 10, 11].contains (dstEngine (tEngPkt 6 engMove).dst) = true ∧
    [engDresser, engMove, engHcopy, engTt, 8, 9, 10, 11].contains (dstEngine (tEngPkt 6 11).dst) = true := by
  unfold State.admits State.fromOutside; decide +kernel

def tReq (k : ReqKind) (o : OpKind) : State :=
  { blk := { tOp o with reqs := [((0, 0), { kind := k })] } }

theorem witness_RequestsAndAnswers_answers :
    (tS.admits (tPkt 4 1 []) ∧ tblFind (0, 0) tS.blk.reqs = none) ∧
    ((tReq (.op 0 3) (.load 9 3 false 0)).admits (tPkt 4 1 []) ∧ tblFind (0, 0) (tReq (.op 0 3) (.load 9 3 false 0)).blk.reqs = some { kind := .op 0 3, answers := 1 } ∧
      ((tReq (.op 0 3) (.load 9 3 false 0)).blk.th 0 0).ops = [{ id := 3, kind := .load 9 3 false 0, addr := 0x1000 }]) ∧
    ((tReq (.op 0 3) .store).blk.reqs.filter (fun r => r.1 != (0, 0)) = []) ∧
    (let s : Blk := { tBlk with reqs := [((0, 0), { kind := .deliv 3, answers := 2 })], cores := [(0, { deliv := [{ id := 3, tid := 0, step := 0, acks := 2 }] })] }
     tblFind (0, 0) s.reqs = some { kind := .deliv 3, answers := 2 } ∧ (s.core 0).deliv = [{ id := 3, tid := 0, step := 0, acks := 2 }]) ∧
    (let s : Blk := { (tXs (.ldb 0 0 16 0)).blk with reqs := [((0, 0), { kind := .xfer 0 3 })] }
     tblFind (0, 0) s.reqs = some { kind := .xfer 0 3 } ∧ (s.core 0).xfer = [tX (.ldb 0 0 16 0)]) := by
  unfold State.admits State.fromOutside; decide +kernel

/-- R173: RD is answered with the drawer's bytes. -/
theorem test_rd : (match exec (.rd { tPkt 0 0 [] with dst := 0, off := 0x1000, len := 1, src := 1 } .none) tMem with
    | .next t => t.blk.out
    | _ => []) = [.pkt { vc := 1, kind := 4, dst := 16, src := 0, len := 1, payload := [0x80, 1, 0, 0, 0, 0, 0, 0] }] := by decide +kernel

/-- A lock word at 1000h held by thread 1 of position 0, and the probe that an LKACQ waits for. -/
def tProbe : State :=
  { blk := { tOp (.lock 9 0x1000 true false) with
    reqs := [((0, 0), { kind := .probe 0x1000 0x10001 0 0 3 true none })], mem := { cells := [(0x1000, 1), (0x1002, 1)] } } }

theorem witness_MessagesArrive :
    (tS.admits (tPkt 9 3 (List.replicate 8 1)) ∧ dstHub 0 = false ∧ (tS.blk.mb 0).waiting = [] ∧
      (tS.blk.mb 0).fits coreBank (mbxWords (List.replicate 8 1)) = true ∧ (tS.blk.mb 0).fits coreBank (mbxWords (List.replicate 512 1)) = false) ∧
    (tPkt 11 3 (List.replicate 8 1)).mc ≠ 3 ∧
    (tProbe.admits (tPkt 13 3 []) ∧ tblFind (0, 0) tProbe.blk.reqs = some { kind := .probe 0x1000 0x10001 0 0 3 true none } ∧
      tProbe.wordAt 0x1000 = 0x10001 ∧ (tProbe.blk.th 0 0).ops = [{ id := 3, kind := .lock 9 0x1000 true false, addr := 0x1000 }] ∧
      0x10001 % 4 = 1 ∧ bits 0x10001 35 2 ≠ bits (tProbe.blk.holderOf 0 0) 35 2) ∧
    State.reset.blk.ownerOf (regionOfPos (dstPos 0)) = none := by
  unfold State.admits State.fromOutside; decide +kernel

/-- A packet that the fabric holds, within cluster 0 (where it is at the head of its last place), or still at its source. -/
def tHeld (q : HopAt) (p : StreamPkt) : State := { blk := { tBlk with flights := [{ pkt := p, place := q, dsts := [0] }] } }

theorem witness_MessagesArrive_held :
    (let p := tPkt 9 3 (List.replicate 8 1)
     let s := tHeld .loc p
     let x : Flight := { pkt := p, place := .loc, dsts := [0] }
     s.blk.heads.find? (fun x => x.place.final && x.carries p) = some x ∧ ({ s with blk := s.blk.unqueue x } : State).fromOutside (copyTo 0 p) ∧
     ¬ s.fromOutside p) ∧
    (let p := tPkt 9 3 (List.replicate 8 1)
     ¬ (tHeld (.src 0) p).fromOutside p ∧ (tHeld (.src 0) p).blk.heads.find? (fun x => x.place.final && x.carries p) = none) ∧
    (14 ≤ (tPkt 15 2 []).kind ∧ tS.fromOutside (tPkt 15 2 []) ∧ tS.fromOutside { tPkt 11 3 (List.replicate 8 0) with mc := 3 } ∧
      fieldAt (List.replicate 8 (0 : Byte)) 0 8 = 0) := by
  unfold State.fromOutside; decide +kernel

def tLnk (l : LinkEnd) (fab : Nat := 1) : State := { blk := { links := [(1, l)], regs := [((.REG_PWR, 0), 0), ((.REG_PWR, 1), 0), ((.FAB_CTRL, 0), fab)] } }

theorem witness_FabricManaged_links :
    ((tLnk {}).linkAt 1 ∧ endPresent 1 = true ∧ ((tLnk {}).blk.lnk 1).st = .down) ∧
    (((tLnk { st := .basic, good := 64 }).blk.lnk 1).st = .basic ∧ ((tLnk { st := .basic, good := 64 }).blk.lnk 1).good = 64 ∧
      (tLnk { st := .basic, good := 64 }).blk.flag F.FAB_CTRL_STREAM_EN = true ∧ (tLnk { st := .basic, good := 64 } 0).blk.flag F.FAB_CTRL_STREAM_EN = false ∧
      fieldAt (List.replicate 24 64) 0 1 = 64) ∧
    (((tLnk { st := .basic, bad := true, fails := 2 }).blk.lnk 1).fails = 2 ∧ ((tLnk { st := .basic, froze := true }).blk.lnk 1).passed = false ∧
      ((tLnk { st := .stream, resends := 3 }).blk.lnk 1).resends = 3) := by
  unfold State.linkAt; decide +kernel

/-- A stream packet that the hub has sent on its link to region 3, and its bytes. -/
def tWirePkt : StreamPkt := { tPkt 6 2 (List.replicate 8 1) with src := 2 ^ 14, dst := 3 * 256 * 16 }
def tWire : State := { blk := { (tLnk { st := .stream }).blk with links := [(260, { st := .stream })], flights := [{ pkt := tWirePkt, place := .wire 256, dsts := [3] }] } }

theorem witness_FabricManaged_packets :
    endPresent 260 = true ∧ (tWire.blk.lnk 260).st = .stream ∧ (tWire.blk.onWire 260 (StreamPktWire tWirePkt)).isSome = true ∧
    tWire.blk.onWire 260 [1] = none ∧ ((StreamPktWire tWirePkt).getD 0 0).toNat % 4 ≠ 3 ∧ ([(3 : Byte)].getD 0 0).toNat % 4 = 3 ∧
    crc32c [1] ≠ 0 ∧ (tWire.blk.lnk 260).resends < 3 := by decide +kernel

theorem witness_FabricManaged_tests :
    (let l : LinkEnd := { st := .basic, good := 63 }
     ((tLnk l).blk.lnk 1).good = 63 ∧ ((tLnk l).blk.lnk 1).bad = false ∧ ({ fmt := 1, vc := 3, kind := 3, seq := 63 } : BasicPkt).seq = 63) ∧
    (basicNext 256 { fmt := 1, vc := 3, kind := 6, dst := 2 ^ 18 } = none ∧
      basicNext 5 { fmt := 1, vc := 3, kind := 6, dst := 0 } = some 7 ∧
      (({ links := [(5, { st := .basic }), (7, { st := .basic })] } : Blk).lnk 7).st ≠ .down) ∧
    ((5 : Nat) < 64 ∧ (cutOff 1).contains 5 = true ∧ (cutOff 0).contains 5 = false) := by decide +kernel

theorem witness_FabricManaged_basic :
    let q : BasicPkt := { fmt := 1, vc := 3, kind := 1, payload := List.replicate 24 1 }
    let r : BasicPkt := { q with kind := 2, payload := List.replicate 256 1 }
    let b : Blk := { disc := { busy := true, rx := [(3, q), (4, r)] } }
    (b.takeBasic 3 1).isSome = true ∧ (b.takeBasic 4 2).isSome = true ∧ b.takeBasic 5 1 = none ∧ (lsaOf r.payload).isSome = true ∧ b.disc.busy = true ∧
    b.disc.lsas = [] := by decide +kernel

theorem witness_FabricManaged_discovery :
    State.reset.noHold 0 ∧ State.reset.blk.disc.busy = false ∧ (bits 0x6000 14 13 = 3 ∧ (0x6000 : BitVec 32).toNat < 2 ^ 15) ∧
    (({ lports := [(0, { st := .up })], regs := [((.NBR_INFO, 0), 0)] } : Blk).lp 0).st = .up ∧
    ({ lports := [(0, { st := .up })], regs := [((.NBR_INFO, 0), 0)] } : Blk).flag F.NBR_INFO_PRESENT 0 = false ∧
    (State.reset.blk.lp 0).st ≠ .up ∧ (lsaOf (List.replicate 256 1)).isSome = true ∧
    ({ regs := [((.DEV_ID, 0), 0)] } : Blk).flag F.DEV_ID_VALID = false := by
  unfold State.noHold; decide +kernel

theorem witness_FabricManaged_lsa : ∃ a : Lsa, lsaOf (List.replicate 256 1) = some a := ⟨_, rfl⟩

/-! ## Fabric time and timetables -/

def tTime (st : TimeState) (inRow outRow src : Nat) : State :=
  { blk := { time := { st := st, inRow := inRow, outRow := outRow, ns := 1000000 }, regs := [((.TT_SRC_CFG, 0), BitVec.ofNat 64 src), ((.TT_BEAT_CFG, 0), 4)] } }

theorem witness_TimeKept_sources :
    ((tTime .acquiring 7 0 1).blk.timeSrc = 1 ∧ (tTime .acquiring 7 0 2).blk.timeSrc = 2) ∧
    ((0 : BitVec 64).toInt.natAbs ≤ (tTime .acquiring 7 0 1).blk.getF F.TT_SERVO_LOCK_THR ∧
      (0 : BitVec 64).toInt.natAbs ≤ (tTime .acquiring 7 0 1).blk.getF F.TT_SERVO_STEP_THR) ∧
    ((tTime .acquiring 7 0 1).blk.getF F.TT_SERVO_LOCK_THR < (500 : BitVec 64).toInt.natAbs ∧
      (500 : BitVec 64).toInt.natAbs ≤ (tTime .acquiring 7 0 1).blk.getF F.TT_SERVO_STEP_THR) ∧
    ((tTime .acquiring 7 0 1).blk.getF F.TT_SERVO_STEP_THR < (0x7FFFFFFFFFFFFFFF : BitVec 64).toInt.natAbs ∧ (tTime .acquiring 7 0 1).blk.tts = []) ∧
    (tTime .locked 0 7 1).noHold 0 := by
  unfold State.noHold; decide +kernel

theorem witness_TimeKept_registers :
    (State.reset.noHold 0 ∧ State.reset.blk.time.st = .free ∧ State.reset.blk.activeTts = []) ∧
    (1 ≤ (tTime .free 0 0 0).blk.beatQ ∧ (tTime .free 0 0 0).blk.beatQ ≤ 262140) ∧
    ({ tts := [(0, { st := .armed })] } : Blk).activeTts ≠ [] ∧
    ({ regs := [((.TT_PPS_CFG, 0), 1)] } : Blk).flag F.TT_PPS_CFG_OUT_EN = true ∧ ({ regs := [((.TT_PPS_CFG, 0), 0)] } : Blk).flag F.TT_PPS_CFG_OUT_EN = false := by
  unfold State.noHold; decide +kernel

/-- A measurement of the chosen port and domain, and one of another port. -/
theorem witness_TimeKept_port :
    ((0 : BitVec 6).toNat = (tTime .locked 0 0 1).blk.getF F.TT_SRC_CFG_PTP_LPORT ∧ (0 : BitVec 8).toNat = (tTime .locked 0 0 1).blk.getF F.TT_SRC_CFG_DOMAIN) ∧
    (5 : BitVec 6).toNat ≠ (tTime .locked 0 0 1).blk.getF F.TT_SRC_CFG_PTP_LPORT := by decide +kernel

/-- An instance with queues, counters, slots, contexts and connections, and a command of it that Tutoby has accepted. -/
def tSys : Blk :=
  { tBlk with
    mem := {}
    ins := [(0, { st := .active, gen := 1, map := [(0, 0xF00)], qCount := 4, cCount := 4, sCount := 2, nColl := 2, nConn := 2, nWin := 2, nTte := 16 })]
    regs := [((.REG_PWR, 0), 0), ((.TT_BEAT_CFG, 0), 4), ((.QCFG, 0), 0x80), ((.QCFG, 1), 0x40), ((.QCFG, 2), 0x60), ((.COLI_CFG, 0), 0), ((.REGION_OK, 0), 1)] }
def tRef (op : Nat) : CmdRef := { fn := 0, q := 0, idx := 0, seq := 0, opcode := op, inst := 0, gen := 1 }
def tCmd (op : Nat) (p : List Byte) (b : Blk) : State := { blk := { b with cmdq := [(tRef op, p)] } }

/-- The command of `tCmd` is the oldest wherever instance 0 is of generation 1. -/
theorem tCmd_oldest (op : Nat) (p : List Byte) (b : Blk) (h : b.genOf 0 = 1) : (tCmd op p b).oldest (tRef op) p op := ⟨⟨[], rfl⟩, rfl, .inr h⟩

theorem witness_commands : (tCmd 0x20 [] tSys).oldest (tRef 0x20) [] 0x20 := tCmd_oldest _ _ _ rfl

/-- An image of one group, with its START_STEP and its COMMIT in a period of 4 beats. -/
def tImg : List Byte :=
  toLe 4 0x54544231 ++ toLe 2 1 ++ toLe 2 1 ++ toLe 4 2 ++ toLe 2 4 ++ toLe 4 4 ++ List.replicate 46 0 ++
  (toLe 8 1 ++ List.replicate 56 0) ++ (toLe 2 0 ++ toLe 2 1 ++ List.replicate 12 0) ++ (toLe 2 1 ++ toLe 2 4 ++ List.replicate 12 0)

theorem witness_TimetablesRun_commands :
    ((tSys.ttImage 0 tImg).ok = true ∧ (tSys.ttImage 0 tImg).entries.length ≤ (tSys.inst 0).nTte ∧ (tSys.ttImage 0 []).ok = false ∧ (tSys.tt 0).st = .empty) ∧
    slice (tImg ++ [0]) 0 (fieldAt (List.replicate 8 0 ++ toLe 4 160) 8 4) = tImg ∧
    (let b : Blk := { tSys with tts := [(0, { st := .loaded })] }
     (b.tt 0).st = .loaded ∧ b.time.st = .free ∧ b.time.beat + 2 < fieldAt (toLe 8 9 ++ toLe 8 1) 0 8 ∧ b.genOf 0 = 1) ∧
    (let b : Blk := { tSys with tts := [(0, { st := .armed })] }
     (b.tt 0).st = .armed ∧ b.time.beat < fieldAt (toLe 8 9) 0 8 ∧ b.genOf 0 = 1) := by decide +kernel

theorem witness_TimetablesRun_unload :
    (let b : Blk := { tSys with tts := [(0, { st := .halted })], steps := [(4, { inst := 0, gen := 1, deadline := 9, st := .running })] }
     (b.tt 0).st = .halted ∧ b.ttSteps 0 ≠ [] ∧ b.genOf 0 = 1) ∧
    (let x : Step := { inst := 0, gen := 1, deadline := 9, st := .waitInput }
     let b : Blk := { tSys with tts := [(0, { st := .running })], steps := [(4, x)] }
     tblFind 4 b.steps = some x ∧ x.st = .waitInput ∧ x.job = none ∧ b.time.beat < x.deadline ∧ (b.tt x.inst).st = .running ∧ b.time.st ≠ .lost ∧
     ((b.tt x.inst).expects x.group).all (fun e => b.expectOk x.inst x.k e) = true) := by decide +kernel

theorem witness_TimetablesRun_beats :
    (State.reset.blk.tts = [] ∧ State.reset.blk.steps = [] ∧ State.reset.blk.ins = [] ∧ State.reset.blk.clus = [] ∧ State.reset.blk.ft.wins = [] ∧
      (State.reset.blk.fn 0).d3 = false) ∧
    (({ cores := [(0, { threads := [(0, { st := .waiting 1 })] })] } : Blk).th 0 0).st = .waiting 1 := by decide

/-- R85: a thread that waits for the next beat runs again when it comes. -/
theorem test_waitb : (match exec .beatBoundary { blk := { cores := [(0, { threads := [(0, { st := .waiting 1 })] })], regs := [((.TT_BEAT_CFG, 0), 4), ((.TT_BEAT_EPOCH, 0), 0)] } } with
    | .next t => ((t.blk.th 0 0).st, t.blk.time.beat)
    | _ => (.idle, 0)) = (.running, 1) := by decide +kernel

/-! ## Collectives -/

/-- A descriptor of a BARRIER of one device with context slot 0 and completion queue 0. -/
def tDesc : List Byte :=
  toLe 2 0 ++ [5, 0] ++ toLe 2 0 ++ [0, 0] ++ toLe 4 7 ++ toLe 2 1 ++ toLe 2 0 ++ toLe 2 0 ++ [0, 0, 1, 1] ++ toLe 2 0 ++ List.replicate 104 0

theorem witness_CollectiveCommands_open :
    (∃ x, tSys.parseCtx 0 (slice tDesc 0 128) [] = some x) ∧ tSys.parseCtx 0 [] [] = none ∧ fieldAt tDesc 0 2 < 1024 := by
  refine ⟨?_, by decide +kernel, by decide +kernel⟩
  have h : (tSys.parseCtx 0 (slice tDesc 0 128) []).isSome = true := by decide +kernel
  exact Option.isSome_iff_exists.mp h

theorem witness_CollectiveCommands_slots :
    (tSys.ctx 0).st = 0 ∧ (tSys.ctxsOf 0).length < (tSys.inst 0).nColl ∧ tSys.collImplicit 0 = false ∧ tSys.openFor 0 0 = false ∧
    (let b : Blk := { tSys with ctxs := [(0, { st := 1, op := 5 })] }
     b.openFor 0 0 = true ∧ (b.ctx 0).rounds = [] ∧ b.collImplicit 0 = false ∧ b.ctxsOf 0 ≠ [] ∧ b.genOf 0 = 1) ∧
    (let b : Blk := { tSys with ctxs := [(0, { st := 1, op := 5, rounds := [(0, { asked := true })] })] }
     (b.ctx 0).rounds.any (fun q => (b.ctx 0).busy q.2) = true) := by decide +kernel

theorem witness_CollectiveRounds_rounds :
    (let b : Blk := { tSys with ctxs := [(0, { st := 1, op := 5, rounds := [(0, { asked := true })] })] }
     let x := b.ctx 0
     x.st = 1 ∧ x.nbufR = 1 ∧ (x.round x.rnd).asked = true ∧ (x.round x.rnd).closed = false ∧ x.op = opBarrier ∧ x.ndev = 1 ∧ x.alg ≠ 3 ∧ x.flags = 0 ∧
     x.nrtile = 0 ∧ x.rounds = [(x.rnd, { asked := true })] ∧ b.collImplicit x.inst = false) ∧
    (let x : Ctx := { st := 1, ntile := 1 }
     x.nlocal = 1 ∧ x.op ≠ opBarrier ∧ (x.round x.rnd).asked = false) ∧
    (let b : Blk := { tSys with ctxs := [(0, { st := 1, ntile := 1, rounds := [(0, { begun := true })] })], regs := [((.COLI_CFG, 0), 1)] }
     let x := b.ctx 0
     x.st ≠ 0 ∧ b.collImplicit x.inst = true ∧ x.cgroup = 0 ∧ x.isOpen 0 = true ∧ (x.round 0).closed = false ∧ (x.round 0).begun = true) ∧
    (let q : CRound := { closed := true }
     let x : Ctx := { st := 1, op := 5, rounds := [(0, q)] }
     x.rounds = [(0, q)] ∧ x.rnd = 0 ∧ q.finished = false ∧ q.lost = [] ∧ q.waitTiles = []) := by decide +kernel

/-- A HOST round of one source tile: its drawer awake and reachable, not reachable, and below PL0. -/
def tSource (regs : Tbl (Reg × Nat) Word) (f : Flow := { rate := 0 }) : Blk :=
  { tSys with ctxs := [(0, { st := 1, ntile := 1, stab := 0x8000, rounds := [(0, { asked := true })] })], regs := regs ++ tSys.regs
              flows := [((1024, 0, 0), f)] }

theorem witness_CollectiveRounds_sources :
    (let b := tSource []
     let x := b.ctx 0
     x.nlocal = 1 ∧ x.op ≠ opBarrier ∧ (x.round x.rnd).asked = true ∧ (x.round x.rnd).unread = false ∧ b.power.dev ≠ 3 ∧ b.tilePieces x 0 ≠ [] ∧
     b.engineTokens 0 (b.tilePieces x 0) = true ∧ b.awake (b.tilePieces x 0) = true ∧ (b.engineReads x.inst (b.tilePieces x 0)).2 = true) ∧
    (let b := tSource [((.REGION_OK, 0), 0)]
     (b.engineReads 0 (b.tilePieces (b.ctx 0) 0)).2 = false) ∧
    (let b := tSource [((.REG_PWR, 0), 1)]
     b.engineTokens 0 (b.tilePieces (b.ctx 0) 0) = true ∧ b.awake (b.tilePieces (b.ctx 0) 0) = false) ∧
    (let b := tSource [] { rate := 0, tokens := -1 }
     b.engineTokens 0 (b.tilePieces (b.ctx 0) 0) = false) := by decide +kernel

/-- A segment header for the context with GCTX 7: its round, step, kind and sender. -/
def tSeg (r step kind src : Nat) : List Byte := toLe 4 7 ++ toLe 4 r ++ toLe 1 step ++ toLe 1 kind ++ toLe 2 src ++ toLe 4 0
def tColl (x : Ctx) : Blk := { tSys with ctxs := [(0, { x with st := 1, gctx := 7, ndev := 2 })], regs := [((.COL_CFG, 0), 0)] }

theorem witness_CollectiveRounds_segments :
    (tSys.segCtx (tSeg 0 0 0 1) = none ∧ (tColl {}).segCtx (tSeg 0 0 0 1) = some 0) ∧
    (2 ^ 31 ≤ (fieldAt (tSeg 0xFFFFFFFF 0 0 1) 4 4 + 2 ^ 32 - 0) % 2 ^ 32 ∧ (fieldAt (tSeg 0 0 0 1) 4 4 + 2 ^ 32 - 0) % 2 ^ 32 < 1) ∧
    (((tColl { op := 4 }).ctx 0).op = opAlltoall ∧ 1 < ((tColl { op := 4 }).ctx 0).ndev ∧ 1 ≠ ((tColl { op := 4 }).ctx 0).rank ∧
      fieldAt (tSeg 0 0 1 1) 9 1 = 1 ∧ fieldAt (tSeg 0 0 0 1) 9 1 = 0) ∧
    (((tColl { op := 0, ntile := 2 }).ctx 0).steps (tColl { op := 0, ntile := 2 }).ringMin).any (fun st => decide (st.step % 256 = 0) && (match st.recv with
      | some (q, _, _) => q == 1
      | none => false)) = true := by decide +kernel

/-! ## Fyrrarel Transport -/

def tFt (x : Conn) : Blk := { tSys with ft := { conns := [(0, x)] } }
theorem tFt_gen (x : Conn) : (tFt x).genOf 0 = 1 := rfl

theorem witness_ConnectionCommands_alloc :
    let p := toLe 2 1 ++ toLe 2 3 ++ toLe 2 0 ++ toLe 2 0
    let b : Blk := { tSys with regs := ((.QCFG, 3), 0x60) :: tSys.regs }
    (tSys.conn 0).st = .free ∧ (fieldAt p 0 2 < 4 ∧ b.getF F.QCFG_TYPE 1 = qtFtSend) ∧ (b.getF F.QCFG_TYPE 3 = qtFtRecv ∧ b.getF F.QCFG_TYPE 0 = qtCpl) ∧
    b.connOfSq 1 = none ∧ b.connOfRq 3 = none ∧ (b.connsOf 0).length < (b.inst 0).nConn ∧ b.getF F.QCFG_TYPE 0 ≠ qtFtSend ∧
    (b.ft.conns.filter (fun y => y.2.st != .free)).length < 65536 ∧
    (let c : Blk := { b with ft := { conns := [(4, { st := .init }), (5, { st := .rts })] } }
     (c.inst 0).nConn ≤ (c.connsOf 0).length) := by decide +kernel

theorem witness_ConnectionCommands_connect :
    let p := toLe 2 0 ++ toLe 2 5 ++ toLe 2 9 ++ [0, 0, 1, 0] ++ toLe 2 0 ++ List.replicate 18 0 ++ toLe 2 0xFFFF
    let b : Blk := { tFt { st := .init } with regs := [((.DEVRT, 5), 0xFFFFFFFF)] }
    (b.conn 0).st = .init ∧ (b.conn 0).inst = 0 ∧ fieldAt p 2 2 < 4096 ∧ b.flag F.DEVRT_V (fieldAt p 2 2) = true ∧ fieldAt p 6 1 ≤ 2 ∧ fieldAt p 7 1 < 16 ∧
    fieldAt p 8 1 < 64 ∧ fieldAt p 9 1 = 0 ∧ fieldAt p 30 2 = 0xFFFF ∧ (fieldAt p 7 1).testBit 3 = false ∧
    (b.ft.conns.filter (fun k => k.2.pin && k.2.st != .free)).length < min 8192 (b.getF F.FT_CFG_PIN_MAX) ∧
    ((16 : Nat).testBit 4 = true ∧ (16 : Nat) < 32 ∧ min 8192 (({ b with regs := ((.FT_CFG, 0), 0) :: b.regs } : Blk).getF F.FT_CFG_PIN_MAX) ≤ 0) ∧
    (let h : Hutch := { slots := [(0, { st := .loaded })] }
     h.selfFail = false) := by decide +kernel

theorem witness_ConnectionCommands_end :
    ((tFt { st := .rts }).conn 0).st = .rts ∧ (tFt { st := .rts }).ft.reqs.any (fun r => r.conn == 0) = false ∧
    ((tFt { st := .rts }).queue 0).unchecked = 0 ∧ ((tFt { st := .rts }).conn 0).ackDsn = ((tFt { st := .rts }).conn 0).txDsn ∧ ((tFt { st := .rts, txDsn := 3 }).conn 0).ackDsn ≠ 3 ∧
    ((tFt { st := .error }).conn 0).st = .error ∧ ((tFt { st := .error }).conn 0).closing = [] ∧ ((tFt { st := .drain }).conn 0).st = .drain := by decide

theorem witness_WindowCommands :
    (let p := toLe 8 0x1000 ++ toLe 8 0x1000 ++ [7, 0] ++ toLe 2 0 ++ toLe 2 0 ++ toLe 2 0 ++ toLe 8 0
     (tSys.win 0).v = false ∧ fieldAt p 16 1 < 32 ∧ fieldAt p 17 1 = 0 ∧ fieldAt p 22 2 = 0 ∧ 0 < fieldAt p 8 8 ∧
     tSys.drawersOk 0 0x1000 0x1000 none = true ∧ tSys.drawersOk 0 0x1000 0x1000 (some .rd) = true ∧ tSys.drawersOk 0 0x1000 0x1000 (some .wr) = true ∧
     tSys.drawersOk 0 0x1000 0x1000 (some .rw) = true ∧ (tSys.winsOf 0).length < (tSys.inst 0).nWin ∧ fieldAt p 18 2 < (tSys.inst 0).cCount ∧
     (tSys.ft.wins.filter (fun w => w.2.v)).length < 2 ^ 20 ∧ (tSys.inst 0).cCount ≤ fieldAt (List.replicate 18 0 ++ toLe 2 9) 18 2 ∧
     (let c : Blk := { tSys with ft := { wins := [(0, { v := true }), (1, { v := true })] } }
      (c.inst 0).nWin ≤ (c.winsOf 0).length)) ∧
    (let b : Blk := { tSys with ft := { wins := [(0, { v := true, key := 1 })] } }
     (b.win 0).v = true ∧ (b.win 0).key = fieldAt (toLe 4 0x100000) 0 4 / 2 ^ 20 ∧ (b.win 0).revoked = none ∧ b.winHeld 0 = false ∧ b.genOf 0 = 1) ∧
    (let r : WReq := { q := 1, idx := 2, conn := 0, gen := 1, wrt := .write, len := 8, laddr := 0 }
     let b : Blk := { tFt { st := .rts } with ft := { conns := [(0, { st := .rts })], reqs := [r] } }
     (b.conn 0).st = .rts ∧ b.ft.reqs = [r] ∧ r.idx = fieldAt (toLe 2 0 ++ toLe 2 2) 2 2 ∧ r.started = false) ∧
    (fieldAt (toLe 2 1 ++ toLe 2 0 ++ toLe 4 9) 2 2 = 0 ∧ 1 < (tSys.inst 0).cCount) := by decide

/-- FT_CANCEL of a request fetched and not checked, of one queued in the ring, and of none. -/
theorem witness_WindowCommands_cancel :
    (let e : QEntry := { idx := 2, data := List.replicate 64 0 }
     let b : Blk := { tFt { st := .rts, sq := 1 } with queues := [(1, { st := .active, entries := [e] })] }
     (b.conn 0).inst = 0 ∧ (b.queue (b.conn 0).sq).entries = [e] ∧ e.checked = false ∧ e.completed = false ∧ fieldAt e.data 8 2 = 0 ∧ b.ft.reqs = []) ∧
    (let b : Blk := { tFt { st := .rts, sq := 1 } with queues := [(1, { st := .active })] }
     (b.queue 1).entries = [] ∧ b.ringHolds 1 0 0 (some ([1, 4] ++ List.replicate 62 0)) = true ∧ b.ringHolds 1 0 0 none = false) := by decide +kernel

def tReqW : WReq := { q := 1, idx := 2, conn := 0, gen := 1, wrt := .write, len := 8, laddr := 0x1000 }
def tEnt (d : List Byte) : QEntry := { idx := 2, data := d, started := true }

theorem witness_SenderWorks_entries :
    (let d := List.replicate 8 0 ++ toLe 2 0 ++ [1, 0] ++ toLe 4 8 ++ toLe 8 0x1000 ++ List.replicate 40 0
     let b : Blk := { tFt { st := .rts, sq := 1 } with queues := [(1, { st := .active, entries := [tEnt d] })] }
     b.getF F.QCFG_TYPE 1 = qtFtSend ∧ b.nextUnchecked 1 = some (tEnt d) ∧ (b.parseSend 1 (tEnt d)).isSome = true ∧ (b.parseSend 1 (tEnt [])) = none ∧
     (b.conn 0).st ≠ .error) ∧
    (let d := List.replicate 12 0 ++ toLe 4 64 ++ toLe 8 0x1000 ++ List.replicate 40 0
     let b : Blk := { tFt { st := .rts, rq := 2 } with queues := [(2, { st := .active, entries := [tEnt d] })] }
     b.getF F.QCFG_TYPE 2 = qtFtRecv ∧ b.nextUnchecked 2 = some (tEnt d) ∧ b.connOfRq 2 = some 0 ∧ allZero (slice d 8 4) = true ∧
     allZero (slice d 24 40) = true ∧ b.drawersOk 0 (fieldAt d 16 8) (fieldAt d 12 4) (some .wr) = true ∧ b.drawersOk 0 0x700000000 64 (some .wr) = false) := by
  decide +kernel

def tSend : Blk :=
  { tSys with
    ft := { conns := [(0, { st := .rts, sq := 1 })], reqs := [tReqW], cache := [0] }
    regs := tSys.regs ++ [((.LP_CFG, 0), 1), ((.FT_CTRL, 0), 1), ((.FT_RETRY_CFG, 0), 0x00FF0007), ((.QCFG, 1), 0x40), ((.FTI_CFG, 0), 1)]
    lports := [(0, { st := .up })] }

theorem witness_SenderWorks_slices :
    (tSend.ft.conns = [(0, tSend.conn 0)] ∧ tSend.txReady 0 = true ∧ tSend.ft.cache.contains 0 = true ∧ (tSend.conn 0).inst < 64 ∧
      tSend.flag F.LP_CFG_LP_EN (tSend.conn 0).lport = true ∧ tSend.mem.uncorr = []) ∧
    (∀ c ∈ State.reset.blk.ft.conns, State.reset.blk.txReady c.1 = false) ∧
    (let r : WReq := { tReqW with armed := some (0, 0) }
     let b : Blk := { tSend with ft := { tSend.ft with reqs := [r] } }
     b.armedMet r = true) ∧ tSend.armedMet tReqW = false := by decide +kernel

/-- A response that waits, and a packet's source that waits for its region; a cancelled entry; a full cache. -/
theorem witness_SenderWorks_waits :
    (let e : RCache := { dsn := 0, atomic := true, old := 5 }
     let x : Conn := { st := .rts, sq := 1, rcache := [e], out := [.resp 0 0] }
     let b : Blk := { tSend with ft := { conns := [(0, x)], cache := [0] } }
     b.nextOut 0 = some (.resp e.dsn 0) ∧ (e.packet 0).isSome = true ∧ b.srcWaits 0 = []) ∧
    (tSend.nextOut 0 = none ∧ tSend.nextNew 0 = some tReqW ∧ (tSend.engineReads 0 (tSend.srcPieces tReqW 0)).2 = true ∧ tSend.mayTx 0 = true) ∧
    (let b : Blk := { tSend with regs := ((.REG_PWR, 0), 1) :: tSend.regs }
     b.txReady 0 = false ∧ b.srcWaits 0 ≠ []) ∧
    (({ cancels := [2] } : Queue).cancels.contains 2 = true ∧ ({} : Queue).cancels.contains 2 = false) ∧
    ((List.range 8192).length = 8192 ∧ (List.range 8192).contains 7 = true) := by
  refine ⟨by decide +kernel, by decide +kernel, by decide +kernel, by decide, List.length_range, ?_⟩
  simp

theorem witness_SenderWorks_timers :
    (({ fetching := [0] } : Dresser).fetching.contains 0 = true) ∧
    (let b : Blk := tFt { st := .rts, txDsn := 1 }
     (b.conn 0).rnrWait = false ∧ b.oldestDsn 0 = some 0 ∧ (b.conn 0).timeouts + 1 < max 1 (b.getF F.FT_RETRY_CFG_RETRY_LIM)) ∧
    (max 1 ((tFt { st := .rts, txDsn := 1, timeouts := 20 }).getF F.FT_RETRY_CFG_RETRY_LIM) ≤ 20 + 1) ∧
    (tFt { st := .rts }).oldestDsn 0 = none ∧ ((tFt { st := .rts, rnrWait := true, rnr := some (0, 1) }).conn 0).rnr = some (0, 1) ∧
    0 < ((tFt { st := .rts, placed := 1 }).conn 0).placed ∧ (tFt { st := .rts, placed := 1 }).mayTx 0 = false := by decide +kernel

/-- An FT frame of connection 0 with an opcode and the bytes after its header; F and L are 1. -/
def tFrame (opc : Nat) (body : List Byte) : FtRx :=
  let fth := [0x10, BitVec.ofNat 8 opc, 0x60, 0] ++ toBe 2 0 ++ toBe 2 0 ++ toBe 2 0 ++ toBe 2 0 ++ toBe 8 0 ++ toBe 4 0 ++ toBe 4 0 ++ toBe 4 0
  { len := 100, tc := 0, src := 0, ce := false, beat := 0, fth := fth, body := body ++ toBe 4 (crc32c (fth ++ body)).toNat }

def tRx (x : Conn) (reqs : List WReq) (f : FtRx) : State :=
  { blk := { tSys with
    ft := { conns := [(0, { x with st := .rts })], wins := [(0, { v := true, key := 1, base := 0x1000, len := 0x1000, rights := 7 })],
            cache := [0], reqs := reqs, recvs := [(0, 5, 0x2000, 64)] }
    regs := ((.FT_CTRL, 0), 1) :: ((.LP_CFG, 0), 1) :: tSys.regs
    lports := [(0, { st := .up, rx := [f] })] } }

def tWr : FtRx := tFrame 2 (toBe 4 0x100000 ++ toBe 8 0 ++ toBe 4 2 ++ [0xAA, 0xBB])

theorem witness_PacketsPlaced_frame : (tRx {} [] tWr).blk.ftNext 0 = some (0, tWr) ∧ crcGood tWr = true := by decide +kernel

theorem witness_PacketsPlaced_write : (tRx {} [] tWr).takesWhole 0 tWr 2 :=
  ⟨⟨⟨0, witness_PacketsPlaced_frame.1⟩, by decide +kernel, by decide +kernel, rfl, rfl, by decide +kernel, rfl, witness_PacketsPlaced_frame.2, by decide +kernel⟩,
    by decide +kernel, rfl, rfl, rfl, by decide +kernel, by decide +kernel, by decide +kernel, by decide +kernel, by decide +kernel, rfl⟩

theorem witness_PacketsPlaced_window :
    let b := (tRx {} [] tWr).blk
    let h := tWr.pkt false
    (∃ w, b.classify 0 tWr.beat (beAt h.body 0 4) (beAt h.body 4 8) h.data.length 1 true = .pass 0 w ∧ w.base = 0x1000) ∧
    msgLenOk h { opc := 2, mlen := beAt h.body 12 4 } {} = true ∧ b.drawerPieces 0 0x1000 2 .wr = some [(0x1000, 2)] ∧
    (b.classify 0 tWr.beat (beAt h.body 0 4) 0x1000 h.data.length 1 true = .refuse 3) ∧ b.flag F.LP_CFG_LP_EN 0 = true := by
  refine ⟨⟨_, rfl, rfl⟩, by decide +kernel, by decide +kernel, rfl, by decide +kernel⟩

/-- The bytes go to a region in PL0 that is reachable; in PL1 they wait. -/
theorem witness_PacketsPlaced_places :
    (tRx {} [] tWr).blk.writesNow 0 0x1000 2 ∧ (tRx {} [] tWr).blk.writesNow 0 0x1000 8 ∧ (tRx {} [] tWr).blk.awake [(0x1000, 8)] = true ∧
    ((tRx {} [] tWr).blk.engineReads 0 [(0x1000, 8)]).2 = true ∧
    ({ (tRx {} [] tWr).blk with regs := ((.REG_PWR, 0), 1) :: tSys.regs } : Blk).awake [(0x1000, 2)] = false := by
  unfold Blk.writesNow; decide +kernel

theorem witness_PacketsPlaced_others :
    (let h := (tFrame 1 (toBe 4 2 ++ toBe 4 0 ++ toBe 8 0 ++ [1, 2])).pkt false
     beAt h.body 4 4 = 0 ∧ msgLenOk h { opc := 1, mlen := beAt h.body 0 4 } {} = true ∧ beAt h.body 0 4 ≤ 64) ∧
    (let h := (tFrame 4 (toBe 4 0x100000 ++ toBe 8 0 ++ toBe 4 64)).pkt false
     h.body.length = 16 ∧ 0 < beAt h.body 12 4 ∧ beAt h.body 12 4 ≤ 65536) ∧
    (let h := (tFrame 6 (toBe 4 0x100000 ++ toBe 8 8 ++ toBe 4 0 ++ toBe 8 1 ++ toBe 8 0)).pkt false
     h.body.length = 32 ∧ beAt h.body 12 1 ≤ 1 ∧ beAt h.body 4 8 % 8 = 0) ∧
    (let r : WReq := { tReqW with wrt := .read, started := true, sent := 1 }
     let b := (tRx { txDsn := 1 } [r] (tFrame 5 (toBe 16 0 ++ [1, 2]))).blk
     b.reqOfDsn 0 0 = some r ∧ dsnSub 0 r.dsn * 65536 + 0 + 2 ≤ r.len ∧ b.drawerPieces 0 0x1000 2 .wr = some [(0x1000, 2)]) ∧
    (let r : WReq := { tReqW with wrt := .atomic, started := true, sent := 1 }
     let b := (tRx { txDsn := 1 } [r] (tFrame 7 (toBe 16 5))).blk
     b.reqOfDsn 0 0 = some r ∧ b.drawerPieces 0 0x1000 8 .wr = some [(0x1000, 8)]) ∧
    (let r : WReq := { tReqW with started := true, sent := 1 }
     let b := (tRx { txDsn := 1 } [r] (tFrame 8 (toBe 48 0))).blk
     dsnSub 1 (b.conn 0).ackDsn ≤ dsnSub (b.conn 0).txDsn (b.conn 0).ackDsn ∧ r.sent = (r.packets 1024).length ∧ r.dsn < 2 ^ 32 ∧ 1 = dsnAdd r.dsn r.sent ∧
     b.reqOfDsn 0 0 = some r ∧ dsnLt 0 (dsnAdd r.dsn r.sent) = true) ∧
    2 ≤ (tRx {} [] tWr).blk.getF F.FT_RETRY_CFG_RNR_LIM := by decide +kernel

/-! ## Well-formedness: a good command, and a refused one for each check -/

theorem test_wellFormed_good :
    wellFormed (.rd (tPkt 0 0 []) .none) = true ∧ wellFormed (.wblk (tPkt 7 2 (List.replicate 4096 0))) = true ∧ wellFormed (.linkTrained 263) = true ∧
    wellFormed (.add tI (tR 0)) = true ∧ wellFormed (.thermalSample (List.replicate 68 40)) = true ∧ wellFormed (.pfcRx 63 255 (List.replicate 8 65535)) = true := by
  decide +kernel

theorem test_wellFormed_packets :
    wellFormed (.rd (tPkt 1 0 []) .none) = false ∧ wellFormed (.rd (tPkt 0 1 []) .none) = false ∧
    wellFormed (.rd { (tPkt 0 0 []) with dst := 2 ^ 19 } .none) = false ∧ wellFormed (.rd { (tPkt 0 0 []) with len := 1024 } .none) = false ∧
    wellFormed (.wr (tPkt 1 0 [0])) = false ∧ wellFormed (.wblk (tPkt 7 2 (List.replicate 64 0))) = false ∧ wellFormed (.linkTrained 264) = false := by
  decide +kernel

theorem test_wellFormed_ranges :
    wellFormed (.qdepthSample true 4 0) = false ∧ wellFormed (.qdepthSample false 1344 0) = false ∧ wellFormed (.collModeWrite 64 0) = false ∧
    wellFormed (.ftConnAlloc 65536) = false ∧ wellFormed (.ftWinOpen 1048576) = false ∧ wellFormed (.ftSend 16384) = false ∧
    wellFormed (.linkUp 64) = false ∧ wellFormed (.pauseRx 0 65536) = false ∧ wellFormed (.pauseTimeEnd 0 8) = false ∧
    wellFormed (.pfcRx 0 1 [0]) = false ∧ wellFormed (.portCfgWrite 8 0) = false ∧ wellFormed (.portHoldExpiry 0 65) = false ∧
    wellFormed (.mtrCtlWrite 0 512 0) = false ∧ wellFormed (.doorbell 64 0) = false ∧ wellFormed (.emuWrite 0 0 0) = false ∧
    wellFormed (.regWrite 0 false 0 9 0) = false ∧ wellFormed (.iftDone 17408 true) = false ∧ wellFormed (.thermalSample []) = false ∧
    wellFormed (.pllUnlock 301) = false ∧ wellFormed (.hello 64) = false ∧ wellFormed (.collSegmentArrive []) = false ∧
    wellFormed (.ethFrameRx 0 [] false 0 0) = false ∧ wellFormed (.hdmHostRead 0 0 false none) = false ∧ wellFormed (.cmdReply 64) = false := by
  decide +kernel

/-! ## Ethernet and the Hutch -/

theorem witness_StepKeepsPlacement : State.reset.placeOk ∧ ∃ t, step (State.reset.withCommand .coreAgeTick) = .next t := by
  refine ⟨⟨fun _ => ⟨fun k hk c h => ?_, fun j k _ _ c h h' => ?_⟩, fun _ k h => nomatch h⟩, _, rfl⟩
  · have roles : ∀ n, n < 16 → n < 17 ∧ (Placement.role {} n = .serving ∨ Placement.role {} n = .retired) := by decide
    cases Option.some.inj h
    exact roles _ hk
  · exact (Option.some.inj h).trans (Option.some.inj h').symm

def tEth (x : LPort) (lp : Nat := 1) : State :=
  { blk := { tSys with
    lports := [(0, x)], ports := [(0, { busy := 255, lanes := 0 })]
    regs := [((.REG_PWR, 0), 0), ((.LP_CFG, 0), BitVec.ofNat 64 lp), ((.LP_MAXFR, 0), 9216), ((.FT_UDP, 0), 4793), ((.FT_CTRL, 0), 1)] } }

theorem witness_PortStates :
    let b := (tEth { st := .cal }).blk
    b.lpExists 0 = true ∧ (b.port 0).busy &&& laneMask (b.lanesOf 0) ≠ 0 ∧ (b.lp 0).st = .cal ∧ (State.reset.blk.port 0).busy = 0 ∧ (b.fn 0).hold = none ∧
    (lpsOf 0).any (fun l => b.flag F.LP_CFG_LP_EN l) = true ∧ (lpsOf 0).any (fun l => State.reset.blk.flag F.LP_CFG_LP_EN l) = false ∧
    (b.reg .PORT_CFG 0).toNat ≠ 3 ∧ (lpsOf 0).any (fun l => (b.lp l).st != .off) = true ∧
    ((tEth { st := .disabled }).blk.port 0).lanes &&& laneMask (b.lanesOf 0) ≠ laneMask (b.lanesOf 0) := by decide +kernel

theorem witness_PortStates_frames :
    (let b := { (tEth { st := .disabled }).blk with ports := [(0, { busy := 0, lanes := 255 })] }
     (b.port 0).lanes &&& laneMask (b.lanesOf 0) = laneMask (b.lanesOf 0)) ∧
    (let x := (tEth { st := .down, sysq := [{ tc := 0, data := [1] }], eqs := [(3, [{ tc := 0, data := [1] }])] }).blk.lp 0
     x.st ≠ .up ∧ x.sysq = [{ tc := 0, data := [1] }] ∧ tblGet [] 3 x.eqs = [{ tc := 0, data := [1] }]) ∧
    (∀ k ∈ lpsOf 0, ((tEth { st := .down }).blk.lp k).wait = []) ∧
    (let b := (tEth { st := .up }).blk
     (b.lp 0).st = .up ∧ (b.lp 0).fecMs + 0 ≤ b.getF F.PORT_FEC_THR_THR 0) := by decide +kernel

/-- A frame whose FCS is good. -/
def tFcs (f : List Byte) : List Byte := f ++ toLe 4 (crc32 f).toNat
def tPause : List Byte := toBe 6 0x0180C2000001 ++ toBe 6 2 ++ toBe 2 0x8808 ++ toBe 2 1 ++ toBe 2 9 ++ List.replicate 42 0
/-- A frame with two tags, and basic packets of a KIND on an Ethernet link. -/
def tTwoTags : List Byte := toBe 6 0 ++ toBe 6 2 ++ toBe 2 0x8100 ++ toBe 2 0 ++ toBe 2 0x8100 ++ toBe 2 0 ++ List.replicate 46 7
def tBasicFrame (kind : Nat) : List Byte :=
  toBe 6 0x0180C200000E ++ toBe 6 2 ++ toBe 2 0x88B5 ++ toBe 8 (1 + 3 * 4 + kind * 16) ++ List.replicate 46 7
def tPlain : List Byte := toBe 6 0 ++ toBe 6 2 ++ toBe 2 0x9000 ++ List.replicate 46 7
/-- A UDP datagram over IPv6 with an FTH of version 1 and opcode 8. -/
def tUdp : List Byte :=
  fixChecksums (toBe 6 0 ++ toBe 6 2 ++ toBe 2 0x86DD ++ toBe 4 0x60000000 ++ toBe 2 40 ++ [17, 64] ++ toBe 16 1 ++ toBe 16 0 ++
    toBe 2 9 ++ toBe 2 4793 ++ toBe 2 40 ++ toBe 2 0 ++ [0x10, 8] ++ List.replicate 30 0)

/-- The check values of the two CRCs over "123456789". -/
theorem test_crc : crc32 [0x31, 0x32, 0x33, 0x34, 0x35, 0x36, 0x37, 0x38, 0x39] = 0xCBF43926 ∧
    crc32c [0x31, 0x32, 0x33, 0x34, 0x35, 0x36, 0x37, 0x38, 0x39] = 0xE3069283 := by decide +kernel

theorem witness_FramesReceived_frames :
    (State.reset.blk.lp 0).st ≠ .up ∧ ((tEth { st := .up }).blk.lp 0).st = .up ∧
    (4 ≤ (tPlain ++ [0, 0, 0, 0]).length ∧ [(0 : Byte), 0, 0, 0] ≠ toLe 4 (crc32 tPlain).toNat) ∧
    (let b := (tEth { st := .up } 9).blk
     64 ≤ (tFcs tPause).length ∧ (tFcs tPause).length ≤ max 64 (b.getF F.LP_MAXFR_MAX_FRAME 0) ∧
     frType tPause = 0x8808 ∧ beAt tPause (frL3 tPause) 2 = 1 ∧ (b.lp 0).pw 0 = .normal ∧ beAt tPause (frL3 tPause + 2) 2 ≠ 0) ∧
    (let b := (tEth { st := .up } 3).blk
     frType tPlain ≠ 0x8808 ∧ b.addrOk 0 tPlain = true ∧ csumOk tPlain = true ∧ b.ftPayload tPlain = none ∧
     b.meterSel 0 (b.frameTc 0 tPlain) none = none ∧ ptpEvent tPlain = none ∧ b.ndAnswer 0 tPlain = none) ∧
    (let b := (tEth { st := .up } 3).blk
     let p := slice tUdp 62 32
     b.addrOk 0 tUdp = true ∧ csumOk tUdp = true ∧ b.ftPayload tUdp = some p ∧ b.meterSel 0 (b.frameTc 0 tUdp) (b.ftInst p) = none ∧
     b.portOcc 0 + tUdp.length + 4 ≤ 4194304 ∧ b.flag F.FT_CTRL_EN = true ∧ p.length = 32 ∧ beAt p 0 1 / 16 = 1 ∧ beAt p 1 1 = 8 ∧
     beAt p 4 2 % 4096 = b.getF F.DEV_ID_DEVNUM) := by decide +kernel

theorem witness_FramesReceived_others :
    (64 ≤ (tFcs tTwoTags).length ∧ (frTag tTwoTags).isSome = true ∧ frType tTwoTags = 0x8100) ∧
    (let b := { (tEth { st := .up }).blk with regs := ((.LP_MAC, 0), 0x123) :: (tEth { st := .up }).blk.regs }
     64 ≤ (tFcs tPlain).length ∧ frType tPlain ≠ 0x8808 ∧ b.addrOk 0 tPlain = false ∧ frTag tPlain = none) ∧
    (let b := (tEth { st := .up } 3).blk
     ∀ kind ∈ [0, 1, 2, 7, 15], let f := tBasicFrame kind
       64 ≤ (tFcs f).length ∧ frType f = 0x88B5 ∧ b.addrOk 0 f = true ∧ csumOk f = true ∧ b.meterSel 0 (b.frameTc 0 f) none = none ∧
       b.portOcc 0 + f.length + 4 ≤ 4194304 ∧ beAt f (frL3 f) 8 / 16 % 16 = kind) := by decide +kernel

theorem witness_FramesReceived_pauses :
    (tEth {} 9).blk.fcm 0 = 1 ∧ (tEth {} 0x11).blk.fcm 0 = 2 ∧ (tEth {} 1).blk.fcm 0 ≠ 1 ∧ (tEth {}).blk.flag F.PORT_PWD_PWD_ACT 0 = false ∧
    ((tEth { pwd := [(0, .paused)] }).blk.lp 0).pw 0 = .paused ∧ ((tEth { pwd := [(3, .broken)] }).blk.lp 0).pw 3 = .broken ∧
    ((tEth { st := .up }).blk.lp 0).pw 0 = .normal ∧ ((tEth {}).blk.lp 0).xoff.contains 3 = false ∧ (tEth {} 0x11).blk.fcm 0 ≠ 0 ∧
    (tEth {} 1).blk.fcm 0 = 0 ∧ (∀ k ∈ lpsOf 0, ((tEth {}).blk.lp k).wait = []) ∧
    (let b := (tEth { xoff := [3], rx := [{ len := 140000, tc := 3, src := 0, ce := false, beat := 0, fth := [], body := [] }] }).blk
     (b.lp 0).xoff.contains 3 = true ∧ b.getF F.LP_THR_XON 0 * 1024 < (b.lp 0).occ 3) := by decide +kernel

theorem witness_FramesSent :
    (let f : TxFrame := { tc := 0, data := tPlain }
     let x := (tEth { st := .up, sysq := [f] }).blk.lp 0
     x.st = .up ∧ x.sysq = [f] ∧ x.pw f.tc ≠ .paused ∧ ptpEvent f.data = none) ∧
    (let f : TxFrame := { tc := 0, data := tPlain }
     let b := (tEth { st := .up, eqs := [(5, [f])] }).blk
     (b.lp 0).sysq = [] ∧ tblGet [] 5 (b.lp 0).eqs = [f] ∧ (∀ k, k < 64 → k ≠ 5 → tblGet [] k (b.lp 0).eqs = []) ∧
     b.counted 0 f.data ≤ max 64 (b.getF F.EQ_CFG_QUANTUM 5)) ∧
    (let f : TxFrame := { tc := 0, data := List.replicate 900 7 }
     let b := (tEth { st := .up, eqs := [(5, [f])] }).blk
     let b1 := { b with regs := ((.EQ_CFG, 5), 0x40) :: b.regs }
     tblGet [] 5 (b1.lp 0).eqs = [f] ∧ tblGet 0 5 (b1.lp 0).deficit + max 64 (b1.getF F.EQ_CFG_QUANTUM 5) < b1.counted 0 f.data) ∧
    (let f : TxFrame := { tc := 0, data := tPlain }
     let g : TxFrame := { f with tc := 1 }
     let x := (tEth { st := .up, sysq := [f, g], pwd := [(0, .paused)] }).blk.lp 0
     x.sysq = [f, g] ∧ x.pw f.tc = .paused ∧ x.pw g.tc ≠ .paused) ∧
    (let f := fixChecksums (padFrame (toBe 6 0 ++ toBe 6 2 ++ toBe 2 0x88F7 ++ [0, 2] ++ List.replicate 34 0))
     let b := { (tEth { st := .up }).blk with regs := ((.TT_SRC_CFG, 0), 552) :: (tEth { st := .up }).blk.regs }
     frTag f = none ∧ b.ptpMaySend 0 f 14 = true ∧ b.sheds 0 (b.frameTc 0 f) = false ∧ b.ptpMaySend 5 f 14 = false ∧
     ptpEvent f = some 14 ∧ (b.lp 0).sysq = [] ∧ (b.lp 0).pw (b.frameTc 0 f) ≠ .paused ∧ (b.lp 0).stamps.length < 16) ∧
    ptpEvent (fixChecksums (padFrame tPlain)) = none ∧ ((tEth { stamps := [(1, 2, 3)] }).blk.lp 0).stamps = [(1, 2, 3)] := by decide +kernel

/-! ## The host link, functions and queues -/

/-- A host link in L0, with CXL.mem; granule 0 SHARED, granule 1 in FLUSHING, granule 2 DEVICE. -/
def tLink : Blk := { tSys with link := { active := true, lps := .l0, cxl := true, width := 8, speed := 5 }, bias := [(0, 1), (1, 2), (2, 0)] }

theorem witness_HostLinkStates :
    (let b : Blk := { tSys with power := { pwrGood := true, perst := false } }
     b.power.pwrGood = true ∧ b.link.refclk = true ∧ b.link.lps = .training ∧ tSys.power.perst = true ∧ tSys.link.active = false) ∧
    (tLink.link.active = true ∧ tLink.link.lps ≠ .training ∧ ({ tLink with link := { tLink.link with waitL0 := [(0, 3)] } } : Blk).link.waitL0 = [(0, 3)]) ∧
    (let b : Blk := { tLink with fns := [(0, { msixEn := true })], vecs := [((0, 3), { cnt := 1, timerRun := true })],
                                 regs := ((.MSIX_CTL, 3), 0) :: tLink.regs }
     (b.fn 0).d3 = false ∧ b.vecOpen 0 3 = true ∧ (b.vec 0 3).timerRun = true ∧ 0 < (b.vec 0 3).cnt) ∧ (tSys.vec 0 3).timerRun = false := by
  decide +kernel

theorem witness_FunctionStates :
    ((tSys.fn 5).d3 = false ∧ tSys.vecs = [] ∧ State.reset.blk.ins = [] ∧ tSys.instOfVf 5 = none) ∧
    (let b : Blk := { tSys with fns := [(5, { d3 := true })] }
     (b.fn 5).d3 = true ∧ (b.fn 5).heldCpl = []) ∧
    (let b : Blk := { tSys with fns := [(0, { d3 := true })], power := { dev := 4 } }
     (b.fn 0).d3 = true ∧ b.power.dev = 4 ∧ b.regionDisabled 0 = false) ∧
    (let b : Blk := { tLink with vecs := [((5, 7), { pba := true })] }
     b.vecs = [((5, 7), { pba := true })] ∧ (b.fn 5).d3 = false) ∧
    (let b : Blk := { tSys with ins := [(2, { st := .active, vf := 5 })], power := { perst := false } }
     b.power.perst = false ∧ b.ins = [(2, { st := .active, vf := 5 })] ∧ b.instOfVf 5 = some 2 ∧ (b.inst 2).st = .active) := by decide +kernel

theorem witness_HostMemoryAccesses_window :
    (tLink.hdmCarried 0x100 64 true = true ∧ tLink.biasOf 0 ≠ 0 ∧ tLink.level 0 ≠ 7 ∧ tLink.mem.uncorrIn 0x100 64 = false ∧
      tLink.peerOk (some 5) 0x100 = false ∧ tLink.hdmCarried 0xFFF 2 false = false ∧ tLink.hdmCarried 0x20000 1 false = true ∧ tLink.biasOf 2 = 0) ∧
    (∀ p, (tCmd 0x60 p tLink).oldest (tRef 0x60) p 0x60) ∧
    (fieldAt (toLe 4 524288 ++ toLe 8 1) 8 1 = 0 ∧ tLink.biasRefused (tRef 0x60) (toLe 4 524288 ++ toLe 8 1) = true) ∧
    (let p := toLe 4 0 ++ toLe 4 1 ++ [1]
     fieldAt p 8 1 = 1 ∧ tLink.biasRefused (tRef 0x60) p = false ∧ (biasRange p).any (fun g => tLink.biasOf g == 2) = false) ∧
    (let p := toLe 4 0 ++ toLe 4 1
     fieldAt p 8 1 = 0 ∧ tLink.biasRefused (tRef 0x60) p = false ∧ biasRange p = [0] ∧ tLink.biasOf 0 = 1) ∧
    (let b : Blk := { tLink with ins := [], biasWait := [(tRef 0x60, false, [1])] }
     b.biasOf 1 = 2 ∧ b.waitPkts = [] ∧ b.ins = [] ∧ b.ft.conns = [] ∧ b.ctxs = [] ∧ b.biasWait = [(tRef 0x60, false, [1])] ∧
     b.biasWait.any (fun w => w.2.1 && w.2.2.contains 1) = false) ∧
    (let p := toLe 4 1 ++ toLe 4 1 ++ [1]
     fieldAt p 8 1 = 1 ∧ tLink.biasRefused (tRef 0x60) p = false ∧ biasRange p = [1] ∧ tLink.biasOf 1 = 2 ∧
     [(tRef 0x60, true, [1])].any (fun w => w.2.1 && w.2.2.contains 1) = true) ∧
    ({ tRef 0x60 with inst := 0xFF } : CmdRef).inst = 0xFF := by
  refine ⟨by decide +kernel, fun p => tCmd_oldest _ p tLink rfl, by decide +kernel, by decide +kernel, by decide +kernel, by decide +kernel, by decide +kernel, rfl⟩

theorem witness_HostMemoryAccesses_reads :
    let o : OutOp := { id := 3, kind := .load 9 3 false 0, addr := 0x1000 }
    let b : Blk := { tSys with hreads := [(7, { pos := 0, tid := 0, id := 3, inst := 0, off := 0, len := 8 })],
                               cores := [(0, { threads := [(0, { tTh with ops := [o] })] })] }
    tblFind 7 b.hreads = some { pos := 0, tid := 0, id := 3, inst := 0, off := 0, len := 8 } ∧ (b.th 0 0).ops = [o] := by decide +kernel

theorem witness_EmulatedWindow :
    (0x1010 % 4 = 0 ∧ emuOccupied 0x1010 = true ∧ emuOccupied 0x1040 = true ∧ emuOccupied 0x107C = true ∧ emuOccupied 0x1014 = false ∧
      emuOccupied 0x103C = false ∧ emuOccupied 0x1080 = false ∧ tSys.emu.ring.length < 256 ∧ tSys.emu.fwUp = false ∧ 0x1012 % 4 ≠ 0 ∧ (tSys.fn 0).hold = none) ∧
    (let b : Blk := { tSys with emu := { ring := List.replicate 256 (0x1010, 1), fwUp := true, seen := 0 } }
     b.emu.ring.length = 256 ∧ b.emu.fwUp = true ∧ b.getF F.EMU_HEARTBEAT_COUNT = b.emu.seen) ∧
    (let b : Blk := { tSys with emu := { fwUp := true, seen := 5 } }
     b.getF F.EMU_HEARTBEAT_COUNT ≠ b.emu.seen) := by decide +kernel

/-- Queue 3 of instance 0 as a JOB queue that completes to queue 0; queue 1 is its send queue, and queue 0 its completion queue. -/
def tQueue (x : Queue) (ty : Nat := 1) : Blk :=
  { tSys with
    queues := [(3, x)]
    regs := [((.QCFG, 3), BitVec.ofNat 64 (ty * 32 + 4)), ((.QBASE, 3), 0), ((.QHEAD_ADDR, 3), 0), ((.QCTL, 3), 0), ((.CQ_CONS, 3), 0),
             ((.QCFG, 0), 0x80 + 4), ((.REG_PWR, 0), 0)] }

theorem witness_QueuesRun_doorbell :
    ((tQueue {}).fn 0).hold = none ∧ (tQueue {}).globalQ 5 0 = none ∧ (tQueue {}).globalQ 0 3 = some 3 ∧ (tQueue {}).getF F.QCFG_TYPE 3 ≠ qtCpl ∧
    ((tQueue { st := .active }).queue 3).st = .active ∧ ((tQueue { st := .active }).queue 3).scanning = false ∧
    (tQueue { st := .active }).ownerFrozen 3 = false ∧
    ({ tQueue { st := .active } with ins := [(0, { st := .frozen, gen := 1, qCount := 4 })] } : Blk).ownerFrozen 3 = true ∧
    ((tQueue { st := .active, scanning := true }).queue 3).scanning = true := by decide +kernel

theorem witness_QueuesRun_states :
    ((tQueue {}).queueCfgOk 3 = true ∧ (tQueue {} 0).queueCfgOk 3 = false ∧ (tQueue {} 4).getF F.QCFG_TYPE 3 = qtCpl) ∧
    (let x := (tQueue { st := .active, entries := [{ idx := 0, data := [], started := true }] }).queue 3
     x.st = .active ∧ x.entries.any (fun e => e.started) = true) ∧
    (let x := (tQueue { st := .error }).queue 3
     x.st = .error ∧ x.entries = [] ∧ x.headDue = false) ∧
    (let b := tQueue { prod := 2 } 4
     b.qSize 3 < ((b.queue 3).prod + 2 ^ 17 - 3) % 2 ^ 17 ∧ ((b.queue 3).prod + 2 ^ 17 - 2) % 2 ^ 17 ≤ b.qSize 3 ∧ (b.queue 3).held = []) ∧
    (tQueue {}).queues.all (fun k => k.2.st == .disabled) = true ∧
    (let b := { tQueue { st := .active } with regs := ((.QUE_PF, 0), 0x10003) :: tSys.regs }
     (3, { st := .active }) ∈ b.queues ∧ b.getF F.QUE_PF_BASE ≤ 3 ∧ 3 < b.getF F.QUE_PF_BASE + b.getF F.QUE_PF_COUNT) ∧
    (let b := { tQueue { headDue := true } with ins := [] }
     (b.queue 3).headDue = true ∧ (b.qOwner 3).inst? = none ∧ b.flag F.QCTL_CLR_ERR 3 = false) := by decide +kernel

theorem witness_QueuesRun_entries :
    let b := tQueue { st := .active, scanning := true }
    let good := fun (l : List Byte) => fieldAt l 0 1 < 2 ∧ etypeOk (b.getF F.QCFG_TYPE 3) (fieldAt l 1 1) = true ∧ allZero (slice l 2 6) = true
    b.mayFetch 3 = true ∧ (tQueue {}).mayFetch 3 = false ∧ good ([1, 2] ++ List.replicate 62 0) ∧ ¬ good ([1, 9] ++ List.replicate 62 0) ∧
    (fieldAt ([1, 2] ++ List.replicate 62 0) 0 1).testBit 0 = (b.queue 3).lap ∧ (fieldAt (List.replicate 64 0) 0 1).testBit 0 ≠ (b.queue 3).lap := by
  decide +kernel

/-- A JOB_STEP entry of region map entry 0 with a good start record at 0x1000. -/
def tStepEntry : QEntry := { idx := 0, data := [1, 1] ++ List.replicate 6 0 ++ toLe 8 1 ++ toLe 8 0x1000 ++ toLe 8 4 ++ List.replicate 32 0, gen := 1 }
def tMoveEntry (ty : Nat) (n : Nat) : QEntry :=
  { idx := 0, gen := 1, data := [1, BitVec.ofNat 8 ty] ++ List.replicate 6 0 ++ toLe 8 0 ++ toLe 8 0x4000 ++ toLe 4 n ++ List.replicate 36 0 }
def tJob (e : QEntry) (m : Mem := {}) : Blk :=
  { tQueue { st := .active, entries := [e] } with cores := [], mem := m, ins := [(0, { st := .active, gen := 1, map := [(0, 0xF00)], qCount := 4, aperLimit := 64 })] }
def tRecMem : Mem := { cells := [(0x1001, 0x20), (0x1010, 3)] }

theorem witness_JobsStart_step :
    let e := tStepEntry
    let b := tJob e tRecMem
    (b.getF F.QCFG_TYPE 3 = qtJob ∧ b.nextEntry 3 = some e ∧ b.jobInst 3 = some 0 ∧ fieldAt e.data 1 1 = 1) ∧
    (e.checked = false ∧ b.jobStepOk 0 e.data = true ∧ b.jobStepOk 0 (List.replicate 8 0 ++ toLe 8 2 ++ List.replicate 48 0) = false) ∧
    (fieldAt e.data 8 8 = 2 ^ 0 ∧ fieldAt e.data 32 1 = 0 ∧ bits (tblGet 0 0 (b.inst 0).map) 5 0 = 0 ∧
      b.startRecord 0 (fieldAt e.data 16 8) false 0 0 = some (0x2000, 0, 3) ∧ b.place = [] ∧ b.cores = [] ∧ b.power.dev = 0 ∧ b.level 0 = 0 ∧
      b.steps = [] ∧ b.rel.fatal = false) := by decide +kernel

theorem witness_JobsStart_moves :
    (let e := tMoveEntry 2 64
     let b := tJob e
     fieldAt e.data 1 1 = 2 ∧ (b.parseMove 0 e.gen (slice e.data 8 56)).isSome = true ∧
     (b.parseMove 0 e.gen (slice e.data 8 56)).all (fun m => m.todo ≠ []) = true ∧ b.parseMove 0 1 (slice (tMoveEntry 2 1).data 8 56) = none) ∧
    (let e := tMoveEntry 3 64
     let b := tJob e
     fieldAt e.data 1 1 = 3 ∧ b.hceActive < 64 ∧
     64 ≤ ({ b with moves := (List.range 64).map (fun k => (k, { inst := 0, gen := 1, host := true, src := 0, dst := 0, len := 64, maskAddr := 0, nfrag := 1, todo := [0] })) } : Blk).hceActive ∧ (b.parseHcopy 0 e.gen (slice e.data 8 56)).isSome = true ∧
     (b.parseHcopy 0 e.gen (slice e.data 8 56)).all (fun m => m.todo ≠ []) = true ∧ b.parseHcopy 0 1 (slice (tMoveEntry 3 1).data 8 56) = none) := by
  decide +kernel

/-- A move of two fragments, of 4,032 and 3,968 bytes. -/
def tMove : Move := { inst := 0, gen := 1, host := false, src := 0x40, dst := 0x4040, len := 8000, maskAddr := 0, nfrag := 2, todo := [0, 1] }
def tMoving (m : Move) (i : Inst := { st := .active, gen := 1, map := [(0, 0xF00)], aperLimit := 64 }) : State :=
  { blk := { tSys with moves := [(5, m)], ins := [(0, i)] } }

/-- The clauses of a fragment, where those about its source and destination are told for the addresses that it has. -/
theorem tFragment {s : State} {id f : Nat} {m : Move} {fr : Nat × Nat} {src dst : Option Nat}
    (h : tblFind id s.blk.moves = some m ∧ f ∈ m.todo ∧ m.gen = s.blk.genOf m.inst ∧ s.blk.bias = [] ∧ s.blk.mem.uncorr = [] ∧ fr.2 < 4096 ∧
      fr = (fragPieces (if m.host && m.toHost then m.dst else bits m.dst 25 0) m.len).getD f (0, 0))
    (hs : src.all (fun a => decide (s.blk.movePieces m.inst m.src fr.1 fr.2 .rd = some [(a, fr.2)]) && s.blk.engineOpen 0 [(a, fr.2)] &&
      (s.blk.engineReads m.inst [(a, fr.2)]).2 && !(s.blk.mem.poisoned a)) = true)
    (hd : dst.all (fun d => decide (s.blk.movePieces m.inst m.dst fr.1 fr.2 .wr = some [(d, fr.2)]) && s.blk.engineOpen 2 [(d, fr.2)] &&
      (s.blk.engineWrites m.inst [(d, fr.2)]).2) = true)
    (hr : m.lost.contains f = false ∧ (m.host = true → s.blk.hceRuns id = true)) : s.fragment id f m fr src dst := by
  refine ⟨h.1, h.2.1, h.2.2.1, h.2.2.2.1, h.2.2.2.2.1, h.2.2.2.2.2.1, h.2.2.2.2.2.2, fun a e => ?_, fun d e => ?_, hr⟩
  · subst e; simpa [and_assoc] using hs
  · subst e; simpa [and_assoc] using hd

theorem witness_FragmentsMove :
    (tMoving tMove).fragment 5 0 tMove (0, 4032) (some 0x40) (some 0x4040) ∧
    (let m := { tMove with host := true }
     (tMoving m).fragment 5 0 m (0, 4032) none (some 0x4040)) ∧
    (let m := { tMove with host := true, toHost := true, dst := 0x40 }
     (tMoving m).fragment 5 0 m (0, 4032) (some 0x40) none ∧ ((tMoving m).blk.inst 0).dirtyOn = false) ∧
    (let m := { tMove with dst := 0x20000040 }
     (tMoving m).fragment 5 0 m (0, 4032) none none ∧ (tMoving m).blk.movePieces m.inst m.dst 0 4032 .wr = none) ∧
    (let m := { tMove with todo := [0], cmd := some (tRef 0x70) }
     (tMoving m).fragment 5 0 m (0, 4032) (some 0x40) (some 0x4040) ∧ m.nfrag ≤ 64 ∧ (tMoving m).blk.genOf (tRef 0x70).inst = (tRef 0x70).gen) ∧
    tblFind 6 (tMoving tMove).blk.moves = none := by
  refine ⟨tFragment ?_ ?_ ?_ ?_, tFragment ?_ ?_ ?_ ?_, ⟨tFragment ?_ ?_ ?_ ?_, ?_⟩, ⟨tFragment ?_ ?_ ?_ ?_, ?_⟩, ⟨tFragment ?_ ?_ ?_ ?_, ?_⟩, ?_⟩ <;>
    decide +kernel

/-- The two drawers of that move are one region: in PL1, with the flow of the hub out of tokens, and out of reach. -/
theorem witness_FragmentsMove_waits :
    (let b : Blk := { (tMoving tMove).blk with regs := ((.REG_PWR, 0), 1) :: tSys.regs }
     b.movePieces 0 0x40 0 4032 .rd = some [(0x40, 4032)] ∧ b.awake [(0x40, 4032), (0x4040, 4032)] = false) ∧
    (let b : Blk := { (tMoving tMove).blk with flows := [((1024, 0, 0), { rate := 0, tokens := -1 })] }
     b.awake [(0x40, 4032), (0x4040, 4032)] = true ∧ b.engineTokens 0 [(0x40, 4032)] = false) ∧
    (let b : Blk := { (tMoving tMove).blk with regs := ((.REGION_OK, 0), 0) :: tSys.regs }
     b.engineOpen 0 [(0x40, 4032)] = true ∧ b.engineOpen 2 [(0x4040, 4032)] = true ∧ (b.engineReads 0 [(0x40, 4032)]).2 = false) ∧
    tMove.lost.contains 0 = false := by decide +kernel

/-! ## Commands and instances -/

/-- A CMD queue whose entry is NOP of instance 0xFF with some flags. -/
def tCmdQ (op : Nat) : Blk :=
  { tQueue { st := .active, entries := [{ idx := 0, data := [1, 6] ++ List.replicate 6 0 ++ toLe 2 op ++ List.replicate 6 0 ++ [0xFF] ++ List.replicate 47 0, gen := 0 }] } 5 with
    emu := { fwUp := true } }

theorem witness_CommandsAnswered_accept :
    (let b := tCmdQ 1
     ∃ e, b.cmdReady 3 = true ∧ b.cmdTurnFn = some (b.fnOfQueue 3) ∧ b.nextEntry 3 = some e ∧ fieldAt (slice e.data 8 56) 12 4 ≤ 24 ∧
       b.cmdCheck (b.fnOfQueue 3) (slice e.data 8 56) (some []) = none) ∧
    (let b := tCmdQ 0x7FFF
     ∃ e, b.cmdReady 3 = true ∧ b.nextEntry 3 = some e ∧ b.cmdCheck (b.fnOfQueue 3) (slice e.data 8 56) (some []) = some .badOpcode) ∧
    (tQueue {}).cmdReady 3 = false := by
  refine ⟨⟨_, by decide +kernel, by decide +kernel, rfl, by decide +kernel, by decide +kernel⟩,
    ⟨_, by decide +kernel, rfl, by decide +kernel⟩, by decide +kernel⟩

theorem witness_CommandsAnswered_mailbox :
    (let r : Reply := { ref := tRef 1, words := [0, 1, 2] }
     let b : Blk := { tSys with replies := [r] }
     b.replies.find? (fun r => r.ref.fn == 0) = some r ∧ (b.hmb 0).fits 256 r.words = true) ∧
    (let r : Reply := { ref := tRef 1, words := List.replicate 300 0 }
     let b : Blk := { tSys with replies := [r] }
     b.replies.find? (fun r => r.ref.fn == 0) = some r ∧ (b.hmb 0).fits 256 r.words = false) ∧
    (let b : Blk := { tSys with hmbox := [(0, MBox.put {} [5, 6])] }
     (b.hmb 0).take.1.isSome = true ∧ (tSys.hmb 0).take.1 = none) ∧
    (∀ op p b, b.genOf 0 = 1 → (tCmd op p b).oldest (tRef op) p op) ∧
    (let p := slice (tMoveEntry 2 64).data 8 56
     (tSys.parseMove 0 1 p).all (fun m => m.todo ≠ []) = true ∧ (tSys.parseMove 0 1 p).isSome = true ∧ tSys.parseMove 0 1 [1] = none ∧ tSys.hceActive < 64) ∧
    (({ tSys with ft := { wins := [(0, { v := true, opening := some (tRef 0x44) })] } } : Blk).win 0).opening = some (tRef 0x44) := by
  refine ⟨by decide +kernel, by decide +kernel, by decide +kernel, fun op p b h => tCmd_oldest op p b h, by decide +kernel, by decide +kernel⟩

/-- A CREATE_INSTANCE payload: any number, no VF, 4 queues, 4 contexts, and region 1 in map entry 0. -/
def tCreate (n : Nat) : List Byte :=
  [0xFF] ++ List.replicate 23 0 ++ toLe 2 n ++ toLe 2 4 ++ List.replicate 36 0 ++ toLe 2 0xF01 ++ List.replicate 190 0
def tFree : Blk := { tSys with regs := ((.REGION_OK, 0), 2) :: tSys.regs }

theorem witness_InstancesCreated :
    ((∀ p, (tCmd 0x10 p tFree).oldest (tRef 0x10) p 0x10) ∧ tFree.createOk (tCreate 4) = true ∧ tFree.createFit (tCreate 4) = some (1, 64, 4, 0) ∧
      tFree.createOk (tCreate 0) = false ∧ ({ tFree with ins := (1, { st := .active, map := [(0, 0xF01)] }) :: tFree.ins } : Blk).createFit (tCreate 4) = none) ∧
    (let b : Blk := { tSys with ins := [(1, { st := .active, zeroing := [1, 2], creating := true })] }
     b.ins.find? (fun p => p.2.zeroing.contains (BitVec.ofNat 6 1).toNat) = some (1, { st := .active, zeroing := [1, 2], creating := true }) ∧
     tSys.ins.find? (fun p => p.2.zeroing.contains (BitVec.ofNat 6 1).toNat) = none) ∧
    (let b : Blk := { tSys with ins := [(1, { st := .active, zeroing := [1], creating := true, waiters := [tRef 0x10] })] }
     b.ins.find? (fun p => p.2.zeroing.contains (BitVec.ofNat 6 1).toNat) =
       some (1, { st := .active, zeroing := [1], creating := true, waiters := [tRef 0x10] }) ∧ (tRef 0x10).opcode = 0x10) := by
  refine ⟨⟨fun p => tCmd_oldest _ p tFree rfl, ?_⟩, ?_⟩ <;> decide +kernel

theorem witness_InstancesReset :
    (∀ op p, (tCmd op p tSys).oldest (tRef op) p op) ∧ ((tSys.inst 0).st = .active ∧ (tSys.inst 0).destroy = none ∧ (tSys.inst 0).phase ≠ 3) ∧
    (let b : Blk := { tSys with ins := [(0, { st := .resetting, gen := 1, phase := 3, map := [(0, 0xF00)] })] }
     (b.inst 0).st = .resetting ∧ (b.inst 0).destroy = none ∧ (b.inst 0).phase = 3 ∧ b.tagged 0 = false ∧ b.bias = [] ∧ (tCmd 0x12 [] b).oldest (tRef 0x12) [] 0x12) ∧
    (tHeld .loc (tPkt 9 3 [])).blk.tagged 0 = true ∧
    (∀ st, let y : Inst := { st := st, gen := 1, zeroing := [1], map := [(0, 0xF01)] }
      y.zeroing = [(1 : BitVec 6).toNat] ∧ y.creating = false ∧ y.waiters = [] ∧ y.destroyPend = false ∧ y.destroy = none) := by
  refine ⟨fun op p => tCmd_oldest op p tSys rfl, by decide +kernel, ⟨by decide +kernel, by decide +kernel, by decide +kernel, by decide +kernel, by decide +kernel, ?_⟩,
    by decide +kernel, fun st => ⟨rfl, rfl, rfl, rfl, rfl⟩⟩
  exact tCmd_oldest _ _ _ rfl

def tInst (x : Inst) : Blk := { tSys with ins := [(0, { x with gen := 1, map := [(0, 0xF00)] })] }

theorem witness_InstancesMigrate_freeze :
    (∀ op p x, (tCmd op p (tInst x)).oldest (tRef op) p op) ∧
    (let b := tInst { st := .active }
     (b.inst 0).st = .active ∧ (b.inst 0).freezeAt = none ∧ b.connsOf 0 = [] ∧ b.ctxsOf 0 = [] ∧ b.time.beat < fieldAt (toLe 8 9) 0 8 ∧
     fieldAt (toLe 8 5) 0 8 ≤ ({ b with time := { b.time with beat := 9 } } : Blk).time.beat) ∧
    (let b := tInst { st := .freezing, freezeAt := some (9, tRef 0x13) }
     (b.inst 0).st = .freezing ∧ b.instBusy 0 = false ∧ (b.inst 0).freezeAt = some (9, tRef 0x13) ∧ b.genOf (tRef 0x13).inst = (tRef 0x13).gen) ∧
    (let b := { tInst { st := .frozen, qCount := 4 } with queues := [(3, { resume := true })] }
     (b.inst 0).st = .frozen ∧ (b.queue 3).resume = true ∧ (b.queue 3).st = .disabled ∧ (b.inst 0).qBase ≤ 3 ∧ 3 < (b.inst 0).qBase + (b.inst 0).qCount) := by
  refine ⟨fun op p x => tCmd_oldest op p (tInst x) rfl, ?_⟩; decide +kernel

/-- An image of one record, FTI and COLI settings, with its check. -/
def tImage : List Byte :=
  let d : List Byte := [1, 7] ++ List.replicate 14 0
  toLe 4 0x49534731 ++ toLe 4 1 ++ toLe 4 1 ++ List.replicate 52 0 ++ toLe 4 6 ++ toLe 4 16 ++ toLe 8 (crc32c d).toNat ++ d

theorem witness_InstancesMigrate_images :
    (let p := List.replicate 16 (0 : Byte) ++ toLe 8 0x1000 ++ List.replicate 8 0
     allZero (slice p 1 7) = true ∧ allZero (slice p 20 4) = true ∧ fieldAt p 8 8 % 64 = 0 ∧ fieldAt p 0 1 = 0 ∧ fieldAt p 24 8 = 0 ∧
     fieldAt (List.replicate 24 0 ++ toLe 8 1) 24 8 ≠ 0 ∧
     (let b : Blk := { tSys with ins := [(0, { st := .frozen, gen := 1 })] }
      ((b.saveRecords 0 0 ((b.inst 0).selected none)).foldl (fun n r => n + r.length) 64) ≤ fieldAt p 16 4 ∧ b.mem.uncorr = []) ∧
     fieldAt (List.replicate 32 (0 : Byte)) 16 4 < 64 ∧ ((tInst { st := .resetting }).inst 0).st ≠ .frozen) ∧
    (let l := tImage.take (fieldAt (List.replicate 8 0 ++ toLe 4 96) 8 4)
     l = tImage ∧ fieldAt l 0 4 = 0x49534731 ∧ fieldAt l 4 2 = 1 ∧ fieldAt l 8 4 = 1 ∧ fieldAt l 66 2 = 0 ∧ fieldAt l 76 4 = 0 ∧
     80 + fieldAt l 68 4 ≤ l.length ∧ fieldAt l 72 4 = (crc32c ((l.drop 80).take (fieldAt l 68 4))).toNat ∧ fieldAt l 64 2 = 6 ∧
     ((l.drop 80).take (fieldAt l 68 4)).length = 16 ∧ fieldAt (l.drop 80) 0 1 < 2 ∧ allZero (slice (l.drop 80) 2 14) = true) ∧
    (let l := tImage.take 95 ++ [1]
     fieldAt l 72 4 ≠ (crc32c ((l.drop 80).take (fieldAt l 68 4))).toNat ∧ fieldAt [(1 : Byte)] 0 4 ≠ 0x49534731) ∧
    (dirtyBad (List.replicate 48 0) = false ∧ dirtyBad (List.replicate 8 0 ++ [1]) = true ∧ fieldAt (List.replicate 8 0 ++ [(1 : Byte)]) 0 1 = 0 ∧
     dirtyBad ([1] ++ List.replicate 47 0) = false ∧ dirtyBad ([2] ++ List.replicate 47 0) = false ∧ ((tInst { dirtyOn := true }).inst 0).dirtyOn = true) := by
  decide +kernel

/-! ## Reliability, power, boot and registers -/

/-- Cluster 0 with core 16 in a role. -/
def tUnit (r : Role) (h : UnitHist := {}) : Blk :=
  { tSys with place := [(0, Placement.setRole {} 16 r)], rel := { hist := [(16, h)] } }

theorem witness_UnitsAndScrubber_units :
    ((tSys.pl 0).role 16 = .spare ∧ (tSys.pl 0).role 3 = .serving ∧ tSys.flag F.REL_CFG_TEST_EN = true ∧
      ({ tSys with regs := ((.REL_CFG, 0), 0) :: tSys.regs } : Blk).flag F.REL_CFG_TEST_EN = false) ∧
    (let b : Blk := { tSys with rel := { hours := 60000 } }
     b.periodH ≤ min (b.rel.hours + 1 - (b.hist 16).passHour) 0xFFFF ∧ b.deadlineH ≤ min (b.rel.hours + 1 - (b.hist 3).passHour) 0xFFFF) ∧
    (((tUnit .underTest).pl 0).role 16 = .underTest ∧ ((tUnit .underTest { failedOnce := true }).hist 16).failedOnce = true ∧
      ((tUnit .underTest).hist 16).failedOnce = false ∧ (tUnit .underTest).eventsIn 16 + 1 < (tUnit .underTest).evtThr) ∧
    (let b : Blk := { tSys with rel := { unsaved := [(16, 5)] } }
     b.rel.unsaved = [(16, 5)] ∧ b.rel.histOk = true ∧ ({ b with rel := { b.rel with histOk := false } } : Blk).rel.histOk = false ∧ tSys.rel.unsaved = []) := by
  decide +kernel

/-- A memory with nothing listed, and one whose stored check of block 1 is off by one. -/
theorem tMem_crc (p : Nat) : Mem.storedCrc {} (p * 4096) = crc32c (Mem.bytes {} (p * 4096) 4096) := by
  unfold Mem.storedCrc; rw [Nat.mul_div_cancel p (by decide : 0 < 4096)]; exact BitVec.xor_zero

theorem tMem_badCrc : Mem.storedCrc { crcDiff := [(1, 1)] } 0x1000 ≠ crc32c (Mem.bytes { crcDiff := [(1, 1)] } 0x1000 4096) := by
  unfold Mem.storedCrc
  show ¬ (crc32c (Mem.bytes { crcDiff := [(1, 1)] } 0x1000 4096) ^^^ 1#32 = _)
  generalize crc32c (Mem.bytes { crcDiff := [(1, 1)] } 0x1000 4096) = x
  intro h
  have h' := congrArg (fun y => x ^^^ y) h
  rw [← BitVec.xor_assoc, BitVec.xor_self, BitVec.zero_xor] at h'
  exact absurd h' (by decide)

theorem witness_UnitsAndScrubber_scrub :
    dpaKind 0x1000 = .sram ∧ tSys.level (regionOfDpa 0x1000) ≠ 7 ∧ tSys.mem = {} ∧ ({} : Mem).uncorr = [] ∧ (Mem.setPoison {} 0x1000).poisoned 0x1000 = true ∧
    Mem.poisoned { crcDiff := [(1, 1)] } 0x1000 = false := by decide +kernel

/-- The owner of a side store runs a step whose replays are not used up. -/
theorem witness_UnitsAndScrubber_side :
    let b : Blk := { tOwn.blk with steps := [(0, { inst := 0, gen := 1, st := .running })], regs := ((.REL_CFG, 0), 0xFFFFFFFF) :: tOwn.blk.regs }
    ((b.core 0).tile 0).owner = some 0 ∧ (b.th 0 0).step = 0 ∧ tblFind 0 b.steps = some { inst := 0, gen := 1, st := .running } ∧
    0 + 1 ≤ b.getF F.REL_CFG_REPLAY_SAME ∧ ((b.core 0).tile 5).owner = none := by decide +kernel

theorem witness_ErrorsReported_handler :
    let e : ErrItem := { seq := 1, sev := 3, src := 0, bit := 0 }
    (tSys.rel.fatal = false ∧ tSys.rel.pend = [] ∧ tSys.rel.handling = [] ∧ ({ tSys with rel := { fatal := true } } : Blk).rel.fatal = true) ∧
    (let b : Blk := { tSys with rel := { pend := [e] } }
     b.rel.pend = [e] ∧ (b.rel.prod + 2 ^ 32 - b.getF F.REL_LOG_CONS_CONS) % 2 ^ 32 < 64) ∧
    (let b : Blk := { tSys with rel := { pend := [e], prod := 64 } }
     64 ≤ (b.rel.prod + 2 ^ 32 - b.getF F.REL_LOG_CONS_CONS) % 2 ^ 32 ∧ e.sev < 8 ∧ b.rel.minSev ≤ e.sev) ∧
    ({ tSys with rel := { handling := [(e, 1)] } } : Blk).rel.handling = [(e, 1)] ∧
    (let x : ErrItem := { e with sev := 0 }
     x.sev < ({ minSev := 3 } : RelSt).minSev ∧ x.src ≠ Src.rel.code) ∧
    (tSys.power.aon = true ∧ ({ tSys with power := { aon := false } } : Blk).power.aon = false) := by decide +kernel

theorem witness_ErrorsReported_requests :
    ((tSys.fn 0).hold = none ∧ (BitVec.ofNat 20 16).toNat < 17408) ∧ (tSys.pl 0).role 16 = .spare ∧ tSys.flag F.REL_CFG_TEST_EN = true ∧
    ((tUnit .retired).pl 0).role 16 = .retired ∧ ((tUnit .retired).pl 0).posOf 16 = none ∧ (tSys.pl 0).posOf 3 = some 3 ∧
    tSys.flag F.REL_HQ_RES_VALID = false ∧ ({ tSys with regs := ((.REL_HQ_RES, 0), BitVec.allOnes 64) :: tSys.regs } : Blk).flag F.REL_HQ_RES_VALID = true := by
  decide +kernel

theorem witness_PowerAndClocks :
    (tSys.waitPkts = [] ∧ tSys.steps = [] ∧ (∀ x ∈ (tFt { st := .rts }).ft.conns, x.2.held = [] ∧ x.2.rheld = []) ∧
      (∀ x ∈ (tColl {}).ctxs, ∀ q ∈ x.2.rounds, q.2.waitTiles = []) ∧ tSys.power.devExit = false ∧ (5 : Nat) ∉ tSys.power.exiting) ∧
    (let b : Blk := { tSys with power := { exiting := [5] } }
     5 ∈ b.power.exiting ∧ b.power.dev = 0) ∧ ({ dev := 3, devExit := true } : PowerSt).devExit = true ∧
    (tSys.freqAim 0 = tSys.getF F.FREQ_NOW_MHZ 0 ∨ tSys.freqAim 0 < tSys.getF F.FREQ_NOW_MHZ 0 ∨ tSys.getF F.FREQ_NOW_MHZ 0 < tSys.freqAim 0) ∧
    (tSys.fn 0).hold = none ∧
    ((List.replicate 68 (BitVec.ofNat 8 104)).length = 68 ∧ (∀ t, t ∈ List.replicate 68 (BitVec.ofNat 8 104) → t.toNat < 105) ∧
      tSys.throtC ≤ ((List.replicate 68 (BitVec.ofNat 8 104)).getD 0 0).toNat ∧ (∃ t, t ∈ List.replicate 68 (BitVec.ofNat 8 110) ∧ 110 ≤ t.toNat) ∧
      tSys.power.trip = false) := by
  refine ⟨by decide +kernel, by decide +kernel, rfl, by decide +kernel, by decide +kernel, rfl, by decide +kernel, by decide +kernel,
    ⟨110, by decide +kernel, by decide⟩, rfl⟩

theorem witness_PowerAndClocks_frequency :
    let b := fun (now tgt : Nat) => ({ tSys with regs := ((.FREQ_NOW, 0), BitVec.ofNat 64 (now + 1600 * 2 ^ 16)) :: ((.FREQ_TGT, 0), BitVec.ofNat 64 tgt) :: tSys.regs } : Blk)
    (b 800 1600).getF F.FREQ_NOW_MHZ 0 < (b 800 1600).freqAim 0 ∧ (b 1600 800).freqAim 0 < (b 1600 800).getF F.FREQ_NOW_MHZ 0 ∧
    (b 800 800).freqAim 0 = (b 800 800).getF F.FREQ_NOW_MHZ 0 := by decide +kernel

theorem witness_PowerAndClocks_clocks :
    tSys.flag F.CLK_REF_ETH_INT = false ∧ ({ tSys with regs := ((.CLK_REF, 0), BitVec.allOnes 64) :: tSys.regs } : Blk).flag F.CLK_REF_ETH_INT = true := by
  decide +kernel

theorem witness_SupplySequence :
    (let p : PowerSt := {}
     p.pwrEn = false ∧ p.hold = false ∧ p.trip = false ∧ p.vinBad = false ∧ p.aon = true ∧ p.rails = false ∧ p.vinRow < 9) ∧
    (let p : PowerSt := { pwrEn := true, hold := true, reassert := true, rails := true, vinRow := 9 }
     p.pwrEn = true ∧ p.hold = true ∧ p.reassert = true ∧ p.trip = false ∧ p.rails = true ∧ p.d3cold = false ∧ p.vinRow = 9) ∧
    (let p : PowerSt := { hold := true }
     p.pwrEn = false ∧ p.hold = true ∧ p.reassert = false) ∧ ({ trip := true } : PowerSt).trip = true ∧
    (4000 ≤ (BitVec.ofNat 16 4800).toNat ∧ (BitVec.ofNat 16 4800).toNat ≤ 6000 ∧ 3000 ≤ (BitVec.ofNat 16 3000).toNat ∧
      (BitVec.ofNat 16 3799).toNat < 3800 ∧ (BitVec.ofNat 16 2999).toNat < 3000) := by decide +kernel

theorem witness_ResetsApply :
    (State.reset.blk.power.perst = true ∧ State.reset.blk.getF F.GLB_STATUS_STAGE 0 = 0 ∧ ({ tSys with power := { perst := false } } : Blk).power.perst = false) ∧
    ((tSys.fn 0).hold = none ∧ tSys.steps = [] ∧ ({ tSys with power := { perst := false } } : Blk).resetAbove 0 = false ∧ tSys.resetAbove 0 = true ∧
      ({ tSys with ins := [(0, { st := .resetting })], power := { perst := false } } : Blk).resetAbove 0 = true ∧ tSys.power.posReset = [] ∧ ({ posReset := [4] } : PowerSt).posReset ≠ []) ∧
    (tSys.power.aon = true ∧ ({ aon := false } : PowerSt).aon = false ∧ tSys.bbr 40 < 2 ^ 32 ∧ tSys.bbr 41 < 2 ^ 32 ∧ tSys.boot.rtcLow < 2 ^ 32) := by
  decide +kernel

theorem witness_BootRuns :
    ((tSys.fn 0).hold = none ∧ tSys.getF F.GLB_BOOT_STATUS_STATE 0 = 0 ∧ tSys.getF F.GLB_STATUS_STAGE 0 ≠ 5 ∧ tSys.imageErr none ≠ 0 ∧ tSys.ethEn = false) ∧
    (let b := fun (st stage : Nat) => ({ tSys with regs := ((.GLB_BOOT_STATUS, 0), BitVec.ofNat 64 st) :: ((.GLB_STATUS, 0), BitVec.ofNat 64 stage) :: tSys.regs } : Blk)
     (b 1 3).getF F.GLB_BOOT_STATUS_STATE 0 = 1 ∧ (b 4 0).getF F.GLB_BOOT_STATUS_STATE 0 = 4 ∧ (b 3 5).getF F.GLB_STATUS_STAGE 0 = 5 ∧
     (b 3 5).discEn = false ∧ (b 3 7).getF F.GLB_STATUS_STAGE 0 = 7 ∧ (b 3 7).links.all (fun l => l.2.st == .stream) = true) := by
  decide +kernel

theorem witness_BootRuns_fabric :
    (let b : Blk := { tSys with regs := ((.GLB_STATUS, 0), 5) :: ((.BBR_WORD, 2), 2) :: tSys.regs, lports := [(0, { st := .up })], boot := { bbrValid := true } }
     b.getF F.GLB_STATUS_STAGE 0 = 5 ∧ b.upPorts ≠ [] ∧ b.discEn = true) ∧
    (let b : Blk := { tSys with regs := ((.REG_PWR, 1), 0) :: tSys.regs, links := (List.range 8).map (fun e => (e, { st := .stream })) }
     b.fabReady = true ∧ b.links.all (fun l => l.2.st == .stream) = true) := by decide +kernel

theorem witness_RegistersAccessed :
    ((∀ f, (tSys.fn f).hold = none) ∧ 0x30 % 4 = 0 ∧ tSys.lookup 0 false 0x30 = none) ∧
    (∃ h, tSys.lookup 0 false 0x10018 = some (h, false) ∧ h.width = 32 ∧ h.reg = .PWR_CAP ∧ tSys.writeAction h.reg h.ix 5 maskLow = none ∧ h.reg ∉ queueCfgRegs ∧
      h.reg ∉ [Reg.DOORBELL_SLOT, .MSIX_CTL, .VMSIX_CTL, .IRQ_CAUSE_EN, .VF_CAUSE_EN, .REL_CFG, .REL_TEST_CFG]) ∧
    (∃ h, tSys.lookup 0 false 0x3600000 = some (h, false) ∧ h.reg = .REL_CFG ∧ h.width = 32) ∧
    (∃ h, tSys.lookup 0 false 0x10 = some (h, false) ∧ h.width = 64 ∧ h.lo = 0 ∧ h.reg ≠ .DOORBELL_SLOT) ∧
    (∃ h, let b : Blk := { tSys with fns := [(0, { shadow := some (h.addr, 7), hold := some (h.addr, 7) })] }
      b.lookup 0 false 0x14 = some (h, false) ∧ h.width = 64 ∧ h.lo = 4 ∧ h.reg ≠ .DOORBELL_SLOT ∧ (b.fn 0).shadow = some (h.addr, 7) ∧ (b.fn 0).hold = some (h.addr, 7)) ∧
    (∃ h, ({ tSys with ins := [(0, { st := .active, gen := 1, vf := 5 })] } : Blk).lookup 5 false 0x44000 = some (h, true)) ∧ 3 < 64 * 21 := by
  refine ⟨⟨fun _ => rfl, rfl, by decide +kernel⟩, ⟨_, rfl, by decide +kernel, by decide +kernel, by decide +kernel, by decide +kernel, by decide +kernel⟩,
    ⟨_, rfl, by decide +kernel, by decide +kernel⟩,
    ⟨_, rfl, by decide +kernel, by decide +kernel, by decide +kernel⟩,
    ⟨⟨.GLB_BOOT_ADDR, 0, 64, 4⟩, by decide +kernel⟩, ⟨_, rfl⟩, by decide⟩

theorem witness_RegistersAccessed_fields :
    let f : FieldInfo := ⟨11, 4, .rw, 0⟩
    (f.lo ≤ 4 ∧ 4 ≤ f.hi ∧ (0xFFF0 : Word).getLsbD 4 = true) ∧ (f.lo ≤ 11 ∧ 11 ≤ f.hi ∧ (0xFFF0 : Word).getLsbD 11 = true) ∧
    ¬ (f.lo ≤ 12 ∧ 12 ≤ f.hi ∧ (0xFFF0 : Word).getLsbD 12 = true) ∧
    [FieldAcc.rw, .w1c, .w1s, .ro].length = 4 := by decide +kernel

theorem witness_UnoccupiedOffsets :
    (tSys.fn 0).hold = none ∧ tSys.lookup 0 false 0x48 = none ∧ tSys.lookup 0 false 0x4C = none ∧ 0x48 % 8 = 0 ∧ tSys.lookup 0 true 0xFF0 = none ∧
    (∃ h, tSys.lookup 0 false 0 = some (h, false) ∧ h.width = 32) ∧
    (tSys.lookup 0 false 0x50 = none) := by
  refine ⟨rfl, by decide +kernel, by decide +kernel, rfl, by decide +kernel, ⟨_, rfl, by decide +kernel⟩, by decide +kernel⟩

theorem witness_CountersCount :
    F.DB_IGNORED_CNT_COUNT.lo ≤ F.DB_IGNORED_CNT_COUNT.hi ∧ F.DB_IGNORED_CNT_COUNT.hi < 64 ∧
    (∃ f : Fld, f.lo ≤ f.hi ∧ f.hi < 64 ∧ ∃ x, accAt f.reg f.lo = some x ∧ x.acc = .countSat) := by
  exact ⟨by decide, by decide, ⟨.THROTTLE_CNT, 31, 0⟩, by decide, by decide, ⟨31, 0, .countSat, 0⟩, by decide +kernel, rfl⟩

/-- The block after a command. -/
def tAfter (c : Instr) (b : Blk) : Blk :=
  match exec c { blk := b } with
  | .next t => t.blk
  | _ => b

/-- R22: bits outside a register's fields stay 0; a W1C bit written 1 clears; GLB_ID reads as R459 says, and takes no write. -/
theorem test_registers :
    (tAfter (.regWrite 0 false 0x10018 4 0xFFFFF) tSys).reg .PWR_CAP 0 = 0xFFF ∧
    (tAfter (.regWrite 0 false 0x40 4 5) { tSys with regs := ((.GLB_EVT, 0), 7) :: tSys.regs }).reg .GLB_EVT 0 = 2 ∧
    (tAfter (.regLowHalfRead 0 false 0 4) tSys).out = [.regData 0xF081E8F] ∧
    (tAfter (.regWrite 0 false 0 4 5) tSys).reg .GLB_ID 0 = 0xF081E8F := by decide +kernel

/-- R366: a doorbell starts a scan of an ACTIVE queue; R365: an entry of the other lap ends it. -/
theorem test_queue :
    ((tAfter (.doorbell 0 3) (tQueue { st := .active })).queue 3).scanning = true ∧
    ((tAfter (.queueEntryFetched 3 (some (List.replicate 64 0))) (tQueue { st := .active, scanning := true })).queue 3).scanning = false ∧
    (tAfter (.doorbell 0 3) (tQueue {})).getF F.DB_IGNORED_CNT_COUNT 0 = 1 := by decide +kernel

/-- R471: below 30 V the always-on domain is off as well. -/
theorem test_vin : (tAfter (.vinSample 2999) tSys).power.aon = false ∧ (tAfter (.vinSample 3000) tSys).power.aon = true := by decide +kernel

/-- RFC 3394, 4.6: a wrapped 256-bit key under a 256-bit KEK. -/
def tKek : List Byte := (List.range 32).map (BitVec.ofNat 8)
def tKeyData : List Byte := (List.range 16).map (fun k => BitVec.ofNat 8 (17 * k)) ++ (List.range 16).map (BitVec.ofNat 8)
def tWrapped : List Byte :=
  toBe 8 0x28C9F404C4B810F4 ++ toBe 8 0xCBCCB35CFB87F826 ++ toBe 8 0x3F5786E2D80ED326 ++ toBe 8 0xCBC7F0E71A99F43B ++ toBe 8 0xFB988B9B7A02DD21

/-- The key unwraps (RFC 3394); under the initial value of RFC 5649 it does not. -/
theorem test_unwrapSteps :
    unwrapSteps (roundKeys (natsOf tKek)) 4 24 ((natsOf tWrapped).take 8) ((List.range 4).map (fun i => ((natsOf tWrapped).drop (8 + 8 * i)).take 8)) =
      (List.replicate 8 0xA6, (List.range 4).map (fun i => ((natsOf tKeyData).drop (8 * i)).take 8)) := by decide +kernel

theorem test_unwrap : unwrapKey tKek 0 tWrapped = some tKeyData := by
  unfold unwrapKey; dsimp only; rw [test_unwrapSteps]; decide +kernel

theorem test_unwrap_other : unwrapKey tKek 1 tWrapped = none := by
  unfold unwrapKey; dsimp only; rw [test_unwrapSteps]; decide +kernel

/-- FIPS 197, C.3, and the inverse of the S-box. -/
theorem test_aes : (∀ b, b < 256 → invSbox (sbox b) = b) ∧
    bytesOf (aesEnc (roundKeys (natsOf tKek)) (natsOf ((List.range 16).map (fun k => BitVec.ofNat 8 (17 * k))))) =
      toBe 16 0x8EA2B7CA516745BFEAFC49904B496089 := by decide +kernel

def tKeyRec (w : List Byte) : List Byte := List.replicate 8 0 ++ w ++ List.replicate 16 0
def tHutch (kek : Option (List Byte)) (st : SlotSt) : Blk :=
  let b := { tSys with hutch := { tSys.hutch with slots := [(0, { st := st })] } }
  b.setKek 0 kek

theorem witness_KeysLoaded :
    (∀ op p, (tCmd op p tSys).oldest (tRef op) p op) ∧ tSys.hutch.selfFail = false ∧
    (keyRecordOk (tKeyRec tWrapped) = true ∧ slice (tKeyRec tWrapped) 8 40 = tWrapped ∧ fieldAt (tKeyRec tWrapped) 0 2 = 0 ∧ keyRecordOk (toLe 4 0x20000) = false) ∧
    ((∃ k, unwrapKey rootKeyBytes 0 tWrapped = some k) ∨ unwrapKey rootKeyBytes 0 tWrapped = none) ∧
    (0 < (tSys.inst 0).sCount ∧ ((tHutch none .empty).slot 0).st ≠ .bound ∧ (tHutch none .empty).kek 0 = none ∧ ((tHutch none .bound).slot 0).st = .bound) ∧
    ((tHutch (some tKek) .empty).kek 0 = some tKek ∧ unwrapKey tKek 0 tWrapped = some tKeyData ∧ unwrapKey tKek 1 tWrapped = none) ∧
    (tSys.fn 0).hold = none ∧ tSys.flag F.CIP_CTRL_EN = false := by
  refine ⟨fun op p => tCmd_oldest op p tSys rfl, rfl, by decide +kernel, ?_, by decide +kernel, ⟨by decide +kernel, test_unwrap, test_unwrap_other⟩, by decide +kernel⟩
  cases h : unwrapKey rootKeyBytes 0 tWrapped with
  | none => exact .inr rfl
  | some k => exact .inl ⟨k, rfl⟩
end Sys2Proof.Tests
end

section
/-! PROOFS. The floating-point vector instructions by lanes (R62, R65, R101): the one operation behind their thirteen meanings, what it
answers for a ready instruction, and its lanes. -/

namespace Sys2Proof.Machine

/-! ## Which words are well formed, and which formats have vector arithmetic -/

/-- R95: a vector word is accepted where each field that the instruction does not use is 0. -/
theorem fmtR_bad_eq_false {f : FmtR} {b c p t : Bool} {mMax : Nat} (hv : vecForm f) (hb : b = false → f.b = 0)
    (hc : c = false → f.c = 0) (hp : p = false → f.p = 0) (ht : t = false → f.t = 0) (hm : f.m.toNat < mMax) :
    f.bad b c p t mMax = false := by
  obtain ⟨hz31, hzhi⟩ := hv
  simpa [FmtR.bad, hz31, hzhi, hm, and_assoc] using And.intro hb (And.intro hc (And.intro hp ht))

theorem vecFmt_of_floatOf {t : BitVec 4} {ff : FFmt} (h : floatOf t ff) : vecFmt t.toNat = some ff := by
  obtain ⟨rfl, rfl⟩ | ⟨rfl, rfl⟩ | ⟨rfl, rfl⟩ := h <;> rfl

theorem vecFmt_eq_none {t : BitVec 4} (h14 : t ≠ 14) (h0 : t ≠ 0) (h1 : t ≠ 1) : vecFmt t.toNat = none := by
  revert t; decide

/-! ## The operation behind the instructions -/

/-- The instruction of each floating lane operation (R101). -/
def VfOp.instr (op : VfOp) (i : Issue) (f : FmtR) : Instr :=
  match op with
  | .add => .vadd i f
  | .sub => .vsub i f
  | .mul => .vmul i f
  | .fma => .vfma i f
  | .div => .vdiv i f
  | .sqrt => .vsqrt i f
  | .min => .vmin i f
  | .max => .vmax i f
  | .approx .rcp => .vrcp i f
  | .approx .rsq => .vrsq i f
  | .approx .exp2 => .vexp2 i f
  | .approx .log2 => .vlog2 i f
  | .approx .tanh => .vtanh i f

theorem VfOp.exec_instr (op : VfOp) (i : Issue) (f : FmtR) (s : State) :
    exec (op.instr i f) s = .next { s with blk := vfOp op i f s.blk } := by
  cases op with
  | approx fn => cases fn <;> rfl
  | _ => rfl

/-- The registers that a floating-point instruction names. -/
def VfOp.regs (op : VfOp) (f : FmtR) : List RegRef :=
  [.v f.d.toNat, .v f.a.toNat, .p f.p.toNat] ++ (if op.useB then [.v f.b.toNat] else []) ++ (if op.useC then [.v f.c.toNat] else [])

/-- A floating-point instruction that its thread can issue, in a word whose unused fields are 0. -/
structure VfOp.Issues (op : VfOp) (i : Issue) (f : FmtR) (s : State) : Prop where
  form : vecForm f
  m : f.m = 0
  b : op.useB = false → f.b = 0
  c : op.useC = false → f.c = 0
  ready : s.ready i false (op.regs f)

/-- The lanes of `op` on the registers of the issuing thread. -/
def VfOp.lanes (op : VfOp) (i : Issue) (f : FmtR) (ff : FFmt) (s : State) (k : Nat) : Nat × FFlags :=
  vfLane ff op (lane ff.width k ((s.thread i).vr f.a.toNat)) (lane ff.width k ((s.thread i).vr f.b.toNat))
    (lane ff.width k ((s.thread i).vr f.c.toNat))

section
variable {op : VfOp} {i : Issue} {f : FmtR} {s : State} (h : op.Issues i f s)
include h

theorem VfOp.Issues.bad_eq_false : f.bad op.useB op.useC true true 1 = false :=
  fmtR_bad_eq_false h.form h.b h.c nofun nofun (by simp [h.m])

/-- R72, R101: the instruction writes the lanes of its operation, or T names no format with vector arithmetic. -/
theorem VfOp.Issues.exec_eq : exec (op.instr i f) s = .next ((vecFmt f.t.toNat).elim (s.raised i .badFormat 0)
    (fun ff => s.floated i f ff (op.lanes i f ff s))) := by
  have hready := h.ready
  rw [VfOp.regs] at hready
  rw [VfOp.exec_instr, vfOp]
  dsimp only
  rw [issue_ready s i _ _ _ _ _ _ hready rfl h.bad_eq_false]
  cases vecFmt f.t.toNat <;> rfl

theorem VfOp.Issues.exec_badFormat (ht : vecFmt f.t.toNat = none) :
    exec (op.instr i f) s = .next (s.raised i .badFormat 0) := by
  rw [h.exec_eq, ht, Option.elim_none]

theorem VfOp.Issues.exec_floated {ff : FFmt} (ht : vecFmt f.t.toNat = some ff) {r : Nat → Nat × FFlags}
    (hr : ∀ k, op.lanes i f ff s k = r k) : exec (op.instr i f) s = .next (s.floated i f ff r) := by
  rw [h.exec_eq, ht, Option.elim_some, funext hr]

end

/-! ## The instructions that one list of registers serves -/

theorem VfOp.issues_of_two_operands {op : VfOp} {i : Issue} {f : FmtR} {s : State} (hB : op.useB = true) (hC : op.useC = false)
    (hv : vecForm f) (hm : f.m = 0) (hc : f.c = 0)
    (hr : s.ready i false [.v f.d.toNat, .v f.a.toNat, .p f.p.toNat, .v f.b.toNat]) : op.Issues i f s :=
  ⟨hv, hm, by simp [hB], fun _ => hc, by simpa [VfOp.regs, hB, hC] using hr⟩

theorem VfOp.fma_issues {i : Issue} {f : FmtR} {s : State} (hv : vecForm f) (hm : f.m = 0)
    (hr : s.ready i false [.v f.d.toNat, .v f.a.toNat, .p f.p.toNat, .v f.b.toNat, .v f.c.toNat]) : VfOp.fma.Issues i f s :=
  ⟨hv, hm, nofun, nofun, hr⟩

theorem VfOp.issues_of_one_operand {op : VfOp} {i : Issue} {f : FmtR} {s : State} (hB : op.useB = false) (hC : op.useC = false)
    (hv : vecForm f) (hm : f.m = 0) (hb : f.b = 0) (hc : f.c = 0)
    (hr : s.ready i false [.v f.d.toNat, .v f.a.toNat, .p f.p.toNat]) : op.Issues i f s :=
  ⟨hv, hm, fun _ => hb, fun _ => hc, by simpa [VfOp.regs, hB, hC] using hr⟩

/-! ## One lane -/

/-- VSUB adds the second operand with its sign changed; a NaN has none to change. -/
theorem vfLane_sub (ff : FFmt) (a b c : Nat) : vfLane ff .sub a b c =
    ieee ff (fAdd (ff.decode a) (if ff.decode b = .nan then .nan else (ff.decode b).neg)) [a, b] := by
  by_cases hb : ff.decode b = .nan <;> simp [vfLane, ieee, hb]

/-- R65: on binary32 lanes the approximate functions round no further. -/
theorem vfLane_approx (fn : Approx) (a b c : Nat) :
    vfLane fmtF32 (.approx fn) a b c = approxF32 fn (fmtF32.encode (fmtF32.decode a)).1 := by
  simp [vfLane]

/-! ## The obligation -/

/-- Settles O14: each clause is the shared operation on the instruction's registers; only the lanes of VSUB and of the approximate
functions differ from the statement's in form. -/
theorem vectorFloats : Obligations.VectorFloats := by
  unfold Obligations.VectorFloats
  refine ⟨fun i f ff s hv hm ht => ?_, fun i f s hv hm ht hb hc hr => ?_, fun i f s hv hm h14 h0 h1 => ?_⟩
  · have hff := vecFmt_of_floatOf ht
    refine ⟨fun hc hr => ?_, fun hr => (VfOp.fma_issues hv hm hr).exec_floated hff fun _ => rfl,
      fun hb hc hr => (VfOp.issues_of_one_operand (op := .sqrt) rfl rfl hv hm hb hc hr).exec_floated hff fun _ => rfl⟩
    have two (op : VfOp) (hB : op.useB = true) (hC : op.useC = false) := VfOp.issues_of_two_operands hB hC hv hm hc hr
    exact ⟨(two .add rfl rfl).exec_floated hff fun _ => rfl, (two .sub rfl rfl).exec_floated hff fun _ => vfLane_sub ..,
      (two .mul rfl rfl).exec_floated hff fun _ => rfl, (two .div rfl rfl).exec_floated hff fun _ => rfl,
      (two .min rfl rfl).exec_floated hff fun _ => rfl, (two .max rfl rfl).exec_floated hff fun _ => rfl⟩
  · have one (fn : Approx) :=
      (VfOp.issues_of_one_operand (op := .approx fn) rfl rfl hv hm hb hc hr).exec_floated (vecFmt_of_floatOf (.inl ⟨ht, rfl⟩))
        fun _ => vfLane_approx ..
    exact ⟨one .rcp, one .rsq, one .exp2, one .log2, one .tanh⟩
  · have hff := vecFmt_eq_none h14 h0 h1
    refine ⟨fun hc hr => ?_, fun hr => (VfOp.fma_issues hv hm hr).exec_badFormat hff, fun hb hc hr => ?_⟩
    · have two (op : VfOp) (hB : op.useB = true) (hC : op.useC = false) :=
        (VfOp.issues_of_two_operands hB hC hv hm hc hr).exec_badFormat hff
      exact ⟨two .add rfl rfl, two .sub rfl rfl, two .mul rfl rfl, two .div rfl rfl, two .min rfl rfl, two .max rfl rfl⟩
    · have one (op : VfOp) (hB : op.useB = false) (hC : op.useC = false) :=
        (VfOp.issues_of_one_operand hB hC hv hm hb hc hr).exec_badFormat hff
      exact ⟨one .sqrt rfl rfl, one (.approx .rcp) rfl rfl⟩

end Sys2Proof.Machine
end

section
/-! PROOFS. Memory keeps its canonical form (R126). One lemma for each operation of the device: `f_mem` where the operation leaves memory as it
is, `f_mem_wf` where it writes memory; in the order of the model's files, then the commands, then one step. -/

namespace Sys2Proof.Machine

/-! ## Conditionals, iterations and updates -/

@[simp] theorem Blk.mem_ite (c : Prop) [Decidable c] (s t : Blk) : (if c then s else t).mem = if c then s.mem else t.mem := apply_ite Blk.mem c s t
@[simp] theorem Mem.wf_ite (c : Prop) [Decidable c] (m n : Mem) : (if c then m else n).wf = if c then m.wf else n.wf := apply_ite Mem.wf c m n

theorem Blk.mem_withDisc (s : Blk) (d : Disc) : ({ s with disc := d } : Blk).mem = s.mem := rfl

/-- Memory is in its canonical form. -/
def Blk.memOk (s : Blk) : Prop := s.mem.wf = true

theorem Blk.memOk_ite (c : Prop) [Decidable c] {s t : Blk} (hs : c → s.memOk) (ht : ¬c → t.memOk) : (if c then s else t).memOk := by
  split
  · exact hs ‹_›
  · exact ht ‹_›

@[simp] theorem foldl_mem {α : Type} (l : List α) (f : Blk → α → Blk) (s : Blk) (h : ∀ t x, (f t x).mem = t.mem) : (l.foldl f s).mem = s.mem :=
  foldl_ind (fun t => t.mem = s.mem) l f s rfl (fun x t ht => (h t x).trans ht)
@[simp] theorem forL_mem {α : Type} (l : List α) (f : α → Blk → Blk) (s : Blk) (h : ∀ x t, (f x t).mem = t.mem) : (forL l f s).mem = s.mem :=
  foldl_mem l _ s (fun t x => h x t)
@[simp] theorem forN_mem (n : Nat) (f : Nat → Blk → Blk) (s : Blk) (h : ∀ i t, (f i t).mem = t.mem) : (forN n f s).mem = s.mem :=
  forL_mem _ f s h
@[simp] theorem whenD_mem (c : Bool) (f : Blk → Blk) (s : Blk) (h : ∀ t, (f t).mem = t.mem) : (whenD c f s).mem = s.mem := by
  unfold whenD; split <;> simp [h]

@[simp] theorem foldl_mem_wf {α : Type} (l : List α) (f : Blk → α → Blk) (s : Blk) (h : s.mem.wf = true)
    (hf : ∀ t x, t.mem.wf = true → (f t x).mem.wf = true) : (l.foldl f s).mem.wf = true :=
  foldl_ind (fun t => t.mem.wf = true) l f s h (fun x t ht => hf t x ht)
@[simp] theorem forL_mem_wf {α : Type} (l : List α) (f : α → Blk → Blk) (s : Blk) (h : s.mem.wf = true)
    (hf : ∀ x t, t.mem.wf = true → (f x t).mem.wf = true) : (forL l f s).mem.wf = true :=
  foldl_mem_wf l _ s h (fun t x => hf x t)
@[simp] theorem forN_mem_wf (n : Nat) (f : Nat → Blk → Blk) (s : Blk) (h : s.mem.wf = true)
    (hf : ∀ i t, t.mem.wf = true → (f i t).mem.wf = true) : (forN n f s).mem.wf = true :=
  forL_mem_wf _ f s h hf
@[simp] theorem whenD_mem_wf (c : Bool) (f : Blk → Blk) (s : Blk) (h : s.mem.wf = true) (hf : ∀ t, t.mem.wf = true → (f t).mem.wf = true) :
    (whenD c f s).mem.wf = true := by
  unfold whenD; split <;> simp [h, hf]

@[simp] theorem foldl_fst_mem {α β : Type} (l : List α) (f : Blk × β → α → Blk × β) (a : Blk × β) (h : ∀ b x, (f b x).1.mem = b.1.mem) :
    (l.foldl f a).1.mem = a.1.mem :=
  foldl_ind (fun b => b.1.mem = a.1.mem) l f a rfl (fun x b hb => (h b x).trans hb)
@[simp] theorem foldl_fst_mem_wf {α β : Type} (l : List α) (f : Blk × β → α → Blk × β) (a : Blk × β) (h : a.1.mem.wf = true)
    (hf : ∀ b x, b.1.mem.wf = true → (f b x).1.mem.wf = true) : (l.foldl f a).1.mem.wf = true :=
  foldl_ind (fun b => b.1.mem.wf = true) l f a h (fun x b hb => hf b x hb)

theorem Blk.mem_wf_of_fst_eq {β : Type} {p : Blk × β} {s : Blk} {b : β} (h : p = (s, b)) (hwf : p.1.mem.wf = true) : s.mem.wf = true := by
  rwa [h] at hwf
theorem Blk.mem_wf_of_snd_eq {β : Type} {p : β × Blk} {s : Blk} {b : β} (h : p = (b, s)) (hwf : p.2.mem.wf = true) : s.mem.wf = true := by
  rwa [h] at hwf

/-! ## Shared operations -/

@[simp] theorem Blk.drawFree_mem (s : Blk) : s.drawFree.mem = s.mem := by simp [Blk.drawFree]
@[simp] theorem Blk.signalPme_mem (s : Blk) (f : Nat) : (s.signalPme f).mem = s.mem := by simp [Blk.signalPme]
@[simp] theorem Blk.sendMsi_mem (s : Blk) (f v : Nat) : (s.sendMsi f v).mem = s.mem := by simp [Blk.sendMsi]
@[simp] theorem Blk.deliverVec_mem (s : Blk) (f v : Nat) : (s.deliverVec f v).mem = s.mem := by simp [Blk.deliverVec]
@[simp] theorem Blk.request_mem (s : Blk) (f v : Nat) : (s.request f v).mem = s.mem := by simp [Blk.request]
@[simp] theorem Blk.latch_mem (s : Blk) (c : Nat) : (s.latch c).mem = s.mem := by simp [Blk.latch]
@[simp] theorem Blk.latchVf_mem (s : Blk) (v c : Nat) : (s.latchVf v c).mem = s.mem := by simp [Blk.latchVf]

@[simp] theorem Blk.report_mem (s : Blk) (e : Option ErrItem) : (s.report e).mem = s.mem := (quiet_report s e).mem

@[simp] theorem Blk.toSideboard_mem (s : Blk) (e : ErrItem) : (s.toSideboard e).mem = s.mem := by simp [Blk.toSideboard]
@[simp] theorem Blk.lostErr_mem (s : Blk) (sev : Nat) : (s.lostErr sev).mem = s.mem := by simp [Blk.lostErr]

@[simp] theorem Blk.capture_mem (s : Blk) (sev : Nat) (src : Src) (bit : Nat) (i : Info) : (s.capture sev src bit i).mem = s.mem := by
  simp [Blk.capture]

@[simp] theorem Blk.inCycle_mem (f : Blk → Blk) (s : Blk) : (s.inCycle f).mem = (f s).mem := rfl

@[simp] theorem Blk.event_mem (s : Blk) (src : Src) (idx bit : Nat) (i : Info) : (s.event src idx bit i).mem = s.mem := by
  unfold Blk.event
  repeat' split
  all_goals simp

@[simp] theorem Blk.lpEvent_mem (s : Blk) (idx bit : Nat) : (s.lpEvent idx bit).mem = s.mem := by simp [Blk.lpEvent]
@[simp] theorem Blk.relEvent_mem (s : Blk) (bit : Nat) (i : Info) : (s.relEvent bit i).mem = s.mem := by simp [Blk.relEvent]
@[simp] theorem Blk.insEvent_mem (s : Blk) (inst bit : Nat) : (s.insEvent inst bit).mem = s.mem := by simp [Blk.insEvent]
@[simp] theorem Blk.markPage_mem (s : Blk) (i page : Nat) : (s.markPage i page).mem = s.mem := by simp [Blk.markPage]

@[simp] theorem Blk.hostWrite_mem (s : Blk) (i : Option Nat) (addr : Nat) (data : List Byte) : (s.hostWrite i addr data).mem = s.mem := by
  unfold Blk.hostWrite
  split <;> simp

@[simp] theorem Blk.genDrop_mem (s : Blk) (i : Nat) (cpl : Bool) : (s.genDrop i cpl).mem = s.mem := by simp [Blk.genDrop]
@[simp] theorem Blk.cqDrop_mem (s : Blk) (i : Nat) : (s.cqDrop i).mem = s.mem := by simp [Blk.cqDrop]
@[simp] theorem Blk.writeCpl_mem (s : Blk) (q : Nat) (c : Cpl) : (s.writeCpl q c).mem = s.mem := by simp [Blk.writeCpl]
@[simp] theorem Blk.postCpl_mem (s : Blk) (q : Nat) (c : Cpl) : (s.postCpl q c).mem = s.mem := by simp [Blk.postCpl]

@[simp] theorem Blk.drainHeld_mem (fuel : Nat) (s : Blk) (q : Nat) : (Blk.drainHeld fuel s q).mem = s.mem := by
  induction fuel generalizing s with
  | zero => rfl
  | succ k ih =>
    unfold Blk.drainHeld
    dsimp only
    split
    · rfl
    · split
      · rfl
      · rw [ih]
        split <;> simp

@[simp] theorem Blk.reply_mem (s : Blk) (c : CmdRef) (st : Status) (results : List Nat) : (s.reply c st results).mem = s.mem := by simp [Blk.reply]

/-! ## Units, their history and the placement -/

@[simp] theorem Blk.modHist_mem (s : Blk) (u : Nat) (f : UnitHist → UnitHist) : (s.modHist u f).mem = s.mem := by simp [Blk.modHist]
@[simp] theorem Blk.unsave_mem (s : Blk) (u : Nat) : (s.unsave u).mem = s.mem := by simp [Blk.unsave]
@[simp] theorem Blk.checkSpare_mem (s : Blk) (g : Nat) : (s.checkSpare g).mem = s.mem := by simp [Blk.checkSpare]

@[simp] theorem Blk.retireCore_mem (s : Blk) (g p : Nat) : (s.retireCore g p).mem = s.mem := by
  unfold Blk.retireCore
  dsimp only
  split <;> simp

@[simp] theorem Blk.histEvent_mem (s : Blk) (u : Nat) : (s.histEvent u).mem = s.mem := by
  unfold Blk.histEvent
  dsimp only
  repeat' split
  all_goals simp

@[simp] theorem Blk.hubFault_mem (s : Blk) (h : Nat) : (s.hubFault h).mem = s.mem := by simp [Blk.hubFault]

@[simp] theorem Blk.fatal_mem (s : Blk) (cause : Nat) (i : Info) : (s.fatal cause i).mem = s.mem := (quiet_fatal s cause i).mem

@[simp] theorem Blk.eccUe_mem (s : Blk) (a : Nat) : (s.eccUe a).mem = s.mem := by simp [Blk.eccUe]
@[simp] theorem Blk.eccCe_mem (s : Blk) (a : Nat) : (s.eccCe a).mem = s.mem := by simp [Blk.eccCe]
@[simp] theorem Blk.wakeDevice_mem (s : Blk) : s.wakeDevice.mem = s.mem := by simp [Blk.wakeDevice]
@[simp] theorem Blk.wake_mem (s : Blk) (r : Nat) : (s.wake r).mem = s.mem := by simp [Blk.wake]
@[simp] theorem Blk.wakeDpa_mem (s : Blk) (a : Nat) : (s.wakeDpa a).mem = s.mem := by simp [Blk.wakeDpa]

@[simp] theorem Blk.readCheck_cells (s : Blk) (a n : Nat) : (s.readCheck a n).mem.cells = s.mem.cells := by
  unfold Blk.readCheck
  split
  · simp
  · rfl

@[simp] theorem Blk.readCheck_mem_wf (s : Blk) (a n : Nat) : (s.readCheck a n).mem.wf = s.mem.wf := by simp [Mem.wf]

@[simp] theorem Blk.heldHit_mem (s : Blk) (a n : Nat) : (s.heldHit a n).mem = s.mem := by
  unfold Blk.heldHit
  dsimp only
  split
  · rfl
  · split
    · rfl
    · refine forL_mem _ _ s (fun p t => ?_)
      split
      · split
        · rfl
        · split <;> simp
      · rfl

@[simp] theorem Blk.markGranules_mem (s : Blk) (a n : Nat) : (s.markGranules a n).mem = s.mem := by
  unfold Blk.markGranules
  dsimp only
  repeat' split
  all_goals simp

@[simp] theorem Blk.memWrite_mem_wf (s : Blk) (a : Nat) (l : List Byte) (hwf : s.mem.wf = true) : (s.memWrite a l).mem.wf = true := by
  simp [Blk.memWrite, Mem.write_wf _ _ _ hwf]

theorem Blk.memWriteChecked_mem_wf {s t : Blk} {a : Nat} {l : List Byte} {chk : BitVec 32} (ht : s.memWriteChecked a l chk = some t)
    (hwf : s.mem.wf = true) : t.mem.wf = true := by
  unfold Blk.memWriteChecked at ht
  split at ht
  · cases ht
  · rename_i m hm
    cases ht
    simp [Mem.writeChecked_wf _ _ _ _ _ hwf hm]

/-! ## The head of a queue and its completions -/

@[simp] theorem Blk.publishHead_mem (s : Blk) (q : Nat) : (s.publishHead q).mem = s.mem := by simp [Blk.publishHead]

@[simp] theorem Blk.advanceQueue_mem (k : Nat) (s : Blk) (q : Nat) : (Blk.advanceQueue k s q).mem = s.mem := by
  induction k generalizing s with
  | zero => rfl
  | succ k ih =>
    unfold Blk.advanceQueue
    split
    · rfl
    · dsimp only
      split
      · rw [ih]
        split <;> simp
      · rfl

@[simp] theorem Blk.settleQueue_mem (s : Blk) (q : Nat) : (s.settleQueue q).mem = s.mem := by
  unfold Blk.settleQueue
  dsimp only
  split <;> simp

@[simp] theorem Blk.completeEntry_mem (s : Blk) (q idx : Nat) (c : Option (Nat × Cpl)) : (s.completeEntry q idx c).mem = s.mem := by
  simp +contextual [Blk.completeEntry]

@[simp] theorem Blk.startEntry_mem (s : Blk) (q idx : Nat) : (s.startEntry q idx).mem = s.mem := by simp [Blk.startEntry]

@[simp] theorem Blk.finishEntry_mem (s : Blk) (q idx cq ctype : Nat) (st : Status) (inst gen : Nat) (rest : List Byte) :
    (s.finishEntry q idx cq ctype st inst gen rest).mem = s.mem := by
  simp [Blk.finishEntry]

@[simp] theorem Blk.drainQueue_mem (s : Blk) (q : Nat) : (s.drainQueue q).mem = s.mem := by simp [Blk.drainQueue]
@[simp] theorem Blk.resetQueue_mem (s : Blk) (q : Nat) : (s.resetQueue q).mem = s.mem := by simp [Blk.resetQueue]

/-! ## Positions and threads -/

@[simp] theorem Blk.dropStep_mem (s : Blk) (sid : Nat) : (s.dropStep sid).mem = s.mem := forL_mem _ _ s (fun pt t => by simp)

/-! ## Endpoints, flows and tags -/

@[simp] theorem Blk.setLnk_mem (s : Blk) (e : Nat) (l : LinkEnd) : (s.setLnk e l).mem = s.mem := by simp [Blk.setLnk]
@[simp] theorem Blk.modLnk_mem (s : Blk) (e : Nat) (f : LinkEnd → LinkEnd) : (s.modLnk e f).mem = s.mem := by simp [Blk.modLnk]
@[simp] theorem Blk.countPort_mem (s : Blk) (rp : Nat × Nat) (vc k n : Nat) : (s.countPort rp vc k n).mem = s.mem := by simp [Blk.countPort]
@[simp] theorem Blk.countHub_mem (s : Blk) (d vc k n : Nat) : (s.countHub d vc k n).mem = s.mem := by simp [Blk.countHub]
@[simp] theorem Blk.spend_mem (s : Blk) (k : Nat × Nat × Nat) (n : Nat) : (s.spend k n).mem = s.mem := by simp [Blk.spend]

/-! ## Packets in the package -/

@[simp] theorem Blk.unqueue_mem (s : Blk) (f : Flight) : (s.unqueue f).mem = s.mem := by simp [Blk.unqueue]
@[simp] theorem Blk.peak_mem (s : Blk) (b : Nat) : (s.peak b).mem = s.mem := by simp [Blk.peak]
@[simp] theorem Blk.countMark_mem (s : Blk) (b : Nat) : (s.countMark b).mem = s.mem := by simp [Blk.countMark]
@[simp] theorem Blk.enterBuf_mem (s : Blk) (b : Nat) (p : StreamPkt) (dsts : List Nat) : (s.enterBuf b p dsts).mem = s.mem := by simp [Blk.enterBuf]
@[simp] theorem Blk.dropRoute_mem (s : Blk) : s.dropRoute.mem = s.mem := by simp [Blk.dropRoute]

@[simp] theorem Blk.dropInst_mem (s : Blk) (p : StreamPkt) : (s.dropInst p).mem = s.mem := by
  unfold Blk.dropInst
  split <;> simp

@[simp] theorem Blk.putFlight_mem (s : Blk) (q : HopAt) (p : StreamPkt) (dsts : List Nat) : (s.putFlight q p dsts).mem = s.mem := by
  simp [Blk.putFlight]

theorem Blk.leaveSrc_mem {s t : Blk} {f : Flight} (ht : s.leaveSrc f = some t) : t.mem = s.mem := by
  unfold Blk.leaveSrc at ht
  split at ht
  · dsimp only at ht
    repeat' split at ht
    all_goals cases ht
    all_goals simp
  · cases ht

@[simp] theorem Blk.grant_mem (s : Blk) (r port : Nat) (f : Flight) : (s.grant r port f).mem = s.mem := by simp [Blk.grant]

theorem Blk.nextGrant_mem {s t : Blk} (ht : s.nextGrant = some t) : t.mem = s.mem := by
  obtain ⟨f, -, hf⟩ := List.exists_of_findSome?_eq_some ht
  split at hf
  · cases hf
  · obtain ⟨port, -, hp⟩ := List.exists_of_findSome?_eq_some hf
    dsimp only at hp
    split at hp
    · cases hp
    · cases hp
      simp

@[simp] theorem Blk.pumpN_mem (k : Nat) (s : Blk) : (Blk.pumpN k s).mem = s.mem := by
  induction k generalizing s with
  | zero => rfl
  | succ k ih =>
    unfold Blk.pumpN
    split
    · rename_i t ht
      obtain ⟨f, -, hf⟩ := List.exists_of_findSome?_eq_some ht
      rw [ih, Blk.leaveSrc_mem hf]
    · split
      · rename_i t ht
        rw [ih, Blk.nextGrant_mem ht]
      · rfl

@[simp] theorem Blk.pump_mem (s : Blk) : s.pump.mem = s.mem := by simp +contextual [Blk.pump]
@[simp] theorem Blk.queueAt_mem (s : Blk) (p : StreamPkt) (rs : List Nat) : (s.queueAt p rs).mem = s.mem := by simp [Blk.queueAt]
@[simp] theorem Blk.inject_mem (s : Blk) (p : StreamPkt) : (s.inject p).mem = s.mem := by simp [Blk.inject]

@[simp] theorem Blk.request1_mem (s : Blk) (rec : ReqRec) (p : StreamPkt) : (s.request1 rec p).mem = s.mem := by
  unfold Blk.request1
  split <;> simp

theorem fabricIn_mem (p : StreamPkt) (f : StreamPkt → Blk → Blk) (s : Blk) (h : ∀ q t, (f q t).mem = t.mem) : (fabricIn p f s).mem = s.mem := by
  unfold fabricIn
  split
  · split <;> simp [h]
  · exact h p s

theorem fabricIn_mem_wf (p : StreamPkt) (f : StreamPkt → Blk → Blk) (s : Blk) (hwf : s.mem.wf = true)
    (h : ∀ q t, t.mem.wf = true → (f q t).mem.wf = true) : (fabricIn p f s).mem.wf = true := by
  unfold fabricIn
  split
  · split
    · rw [Blk.pump_mem]
      exact h _ _ (by simpa using hwf)
    · exact hwf
  · exact h p s hwf

@[simp] theorem Blk.engineTrip_mem (s : Blk) (inst : Option Nat) (pos k n : Nat) (vc : Nat) : (s.engineTrip inst pos k n vc).1.mem = s.mem := by
  unfold Blk.engineTrip
  dsimp only
  repeat' split
  all_goals simp

@[simp] theorem Blk.engineAnswer_mem (s : Blk) (pos n : Nat) : (s.engineAnswer pos n).mem = s.mem := by simp [Blk.engineAnswer]

@[simp] theorem Blk.engineReads_mem (s : Blk) (inst : Nat) (ps : List (Nat × Nat)) : (s.engineReads inst ps).1.mem = s.mem := by
  refine foldl_fst_mem ps _ (s, true) (fun b p => ?_)
  dsimp only
  split
  · rfl
  · split <;> simp

@[simp] theorem Blk.engineWrites_mem (s : Blk) (inst : Nat) (ps : List (Nat × Nat)) : (s.engineWrites inst ps).1.mem = s.mem := by
  refine foldl_fst_mem ps _ (s, true) (fun b p => ?_)
  dsimp only
  split <;> simp

@[simp] theorem Blk.wakePieces_mem (s : Blk) (ps : List (Nat × Nat)) : (s.wakePieces ps).mem = s.mem := by simp [Blk.wakePieces]

/-! ## Mailboxes, tile destinations and engine accesses -/

@[simp] theorem Blk.mbArrive_mem (s : Blk) (p : Nat) (words : List Nat) (snd : Option (Nat × Nat)) : (s.mbArrive p words snd).mem = s.mem := by
  unfold Blk.mbArrive
  split <;> simp

@[simp] theorem Blk.mbDrain_mem (k : Nat) (s : Blk) (p : Nat) : (Blk.mbDrain k s p).mem = s.mem := by
  induction k generalizing s with
  | zero => rfl
  | succ k ih =>
    unfold Blk.mbDrain
    dsimp only
    split
    · split
      · rw [ih]
        split <;> simp
      · rfl
    · rfl

@[simp] theorem Blk.writeMask_mem_wf (s : Blk) (i addr n : Nat) (failed : List Nat) (hwf : s.mem.wf = true) :
    (s.writeMask i addr n failed).mem.wf = true := by
  unfold Blk.writeMask
  split
  · exact hwf
  · split
    · exact foldl_fst_mem_wf _ _ (s, _) hwf (fun _ _ hb => Blk.memWrite_mem_wf _ _ _ hb)
    · exact hwf

@[simp] theorem Blk.poisonDpa_mem_wf (s : Blk) (a : Nat) (hwf : s.mem.wf = true) : (s.poisonDpa a).mem.wf = true := Mem.setPoison_wf s.mem a hwf

@[simp] theorem Blk.readPieces_mem_wf (s : Blk) (ps : List (Nat × Nat)) (hwf : s.mem.wf = true) : (s.readPieces ps).1.mem.wf = true := by
  simp +contextual [Blk.readPieces, hwf]

@[simp] theorem Blk.writePieces_mem_wf (s : Blk) (ps : List (Nat × Nat)) (l : List Byte) (hwf : s.mem.wf = true) : (s.writePieces ps l).mem.wf = true :=
  foldl_fst_mem_wf ps _ (s, l) hwf (fun _ _ hb => Blk.memWrite_mem_wf _ _ _ hb)

/-! ## The collective engine -/

@[simp] theorem Blk.modCtx_mem (s : Blk) (c : Nat) (f : Ctx → Ctx) : (s.modCtx c f).mem = s.mem := by simp [Blk.modCtx]
@[simp] theorem Blk.modRound_mem (s : Blk) (c r : Nat) (f : CRound → CRound) : (s.modRound c r f).mem = s.mem := by simp [Blk.modRound]
@[simp] theorem Blk.sendSegment_mem (s : Blk) (c : Nat) (g : SegOut) : (s.sendSegment c g).mem = s.mem := by simp [Blk.sendSegment]
@[simp] theorem Blk.groupSend_mem (s : Blk) (g : Nat) (segs : List SegOut) : (s.groupSend g segs).mem = s.mem := by simp [Blk.groupSend]

@[simp] theorem Blk.entryRead_mem_wf (s : Blk) (i a n : Nat) (hwf : s.mem.wf = true) : (s.entryRead i a n).mem.wf = true := by
  unfold Blk.entryRead
  split <;> simp [hwf]

@[simp] theorem Blk.poisonResult_mem_wf (s : Blk) (x : Ctx) (r t : Nat) (hwf : s.mem.wf = true) : (s.poisonResult x r t).mem.wf = true := by
  unfold Blk.poisonResult
  dsimp only
  split
  · simp [hwf]
  · exact forL_mem_wf _ _ _ (by simp [hwf]) (fun p u hu => forL_mem_wf _ _ u hu (fun b v hv => by simp [hv]))

@[simp] theorem Blk.failTile_mem_wf (s : Blk) (c r t : Nat) (hwf : s.mem.wf = true) : (s.failTile c r t).mem.wf = true := by simp [Blk.failTile, hwf]

@[simp] theorem Blk.placeBytes_mem_wf (s : Blk) (d : Nat) (l : List Byte) (hwf : s.mem.wf = true) : (s.placeBytes d l).mem.wf = true := by
  refine forL_mem_wf _ _ s hwf (fun pc u hu => ?_)
  dsimp only
  split
  · cases hw : u.memWriteChecked pc.1 (slice l (pc.1 - d) pc.2) (checkOfCrc (crc32c (slice l (pc.1 - d) pc.2))) with
    | none => exact hu
    | some v => exact Blk.memWriteChecked_mem_wf hw hu
  · simp [hu]

@[simp] theorem Blk.placeTile_mem_wf (s : Blk) (c r t : Nat) (pieces : List (Nat × List Byte)) (flags : Nat) (hwf : s.mem.wf = true) :
    (s.placeTile c r t pieces flags).mem.wf = true := by
  unfold Blk.placeTile
  extract_lets x s0
  have hs0 : s0.mem.wf = true := Blk.entryRead_mem_wf _ _ _ _ hwf
  split
  · simp [hs0]
  · extract_lets o go s1 s2
    have hgo : go.1.mem.wf = true := foldl_fst_mem_wf _ _ _ hs0 (fun b p hb => by simpa using hb)
    have hs1 : s1.mem.wf = true :=
      forL_mem_wf _ _ _ hgo (fun p u hu => forL_mem_wf _ _ u hu (fun b v hv => by simp [hv]))
    have hs2 : s2.mem.wf = true := by
      unfold s2
      split
      · rw [Blk.drawFree_mem]
        exact forL_mem_wf _ _ _ hs1 (fun p u hu => by simpa using hu)
      · exact hs1
    split
    · simp [hs0]
    · split
      · simpa using hwf
      · split
        · simpa using hs1
        · simpa using hs2

@[simp] theorem Blk.placeReady_mem_wf (s : Blk) (c r : Nat) (hwf : s.mem.wf = true) : (s.placeReady c r).mem.wf = true := by
  refine forL_mem_wf _ _ s hwf (fun t u hu => ?_)
  split
  · split <;> simp [hu]
  · simp [hu]

@[simp] theorem Blk.sendRows_mem_wf (s0 : Blk) (c r : Nat) (hwf : s0.mem.wf = true) : (s0.sendRows c r).mem.wf = true := by
  simp +contextual [Blk.sendRows, hwf]

@[simp] theorem Blk.placeRows_mem_wf (s : Blk) (c r : Nat) (hwf : s.mem.wf = true) : (s.placeRows c r).mem.wf = true := by
  simp +contextual [Blk.placeRows, hwf]

@[simp] theorem Blk.stepSend_mem (s : Blk) (c r : Nat) (st : CStep) : (s.stepSend c r st).mem = s.mem := by
  unfold Blk.stepSend
  split <;> simp

@[simp] theorem Blk.roundEnd_mem (s : Blk) (c r : Nat) : (s.roundEnd c r).mem = s.mem := by simp [Blk.roundEnd]

@[simp] theorem Blk.runSteps_mem_wf (force : Bool) (k : Nat) (s : Blk) (c r : Nat) (hwf : s.mem.wf = true) :
    (Blk.runSteps force k s c r).mem.wf = true := by
  induction k generalizing s with
  | zero => exact hwf
  | succ k ih =>
    unfold Blk.runSteps
    extract_lets x q
    split
    · simp [hwf]
    · extract_lets s1 q1 s2
      have hs1 : s1.mem.wf = true := by simp [s1, hwf]
      have hs2 : s2.mem.wf = true := hs1
      split
      · refine ih _ ?_
        split <;> simp [hs2]
      · exact hs1

@[simp] theorem Blk.runRound_mem_wf (s : Blk) (c r : Nat) (hwf : s.mem.wf = true) : (s.runRound c r).mem.wf = true := by
  unfold Blk.runRound
  dsimp only
  split <;> simp [hwf]

@[simp] theorem Blk.closeLocal_mem_wf (s : Blk) (c r : Nat) (tiles : List CTile) (hwf : s.mem.wf = true) :
    (s.closeLocal c r tiles).mem.wf = true := by
  simp [Blk.closeLocal, hwf]

@[simp] theorem Blk.stagePut_mem_wf (s : Blk) (dpas : List Nat) (d : CTile) (hwf : s.mem.wf = true) : (s.stagePut dpas d).mem.wf = true := by
  refine forL_mem_wf _ _ s hwf (fun e u hu => ?_)
  dsimp only
  split <;> simp [hu]

@[simp] theorem Blk.stageGet_mem_wf (s : Blk) (dpas : List Nat) (n : Nat) (hwf : s.mem.wf = true) : (s.stageGet dpas n).1.mem.wf = true := by
  simp [Blk.stageGet, hwf]

@[simp] theorem Blk.sumTile_mem_wf (s : Blk) (c r t : Nat) (hwf : s.mem.wf = true) : (s.sumTile c r t).1.mem.wf = true :=
  foldl_fst_mem_wf _ _ (s, []) hwf (fun _ _ hb => Blk.stageGet_mem_wf _ _ _ hb)

@[simp] theorem Blk.closeContribs_mem_wf (s : Blk) (c r : Nat) (hwf : s.mem.wf = true) : (s.closeContribs c r).mem.wf = true := by
  unfold Blk.closeContribs
  apply Blk.closeLocal_mem_wf
  exact foldl_fst_mem_wf _ _ _ hwf (fun b t hb => Blk.sumTile_mem_wf _ c r t hb)

@[simp] theorem Blk.tryClose_mem_wf (s : Blk) (c r : Nat) (hwf : s.mem.wf = true) : (s.tryClose c r).mem.wf = true := by simp [Blk.tryClose, hwf]

@[simp] theorem Blk.collCpl_mem (s : Blk) (c r : Nat) (x : Ctx) (q : CRound) (st : Status) : (s.collCpl c r x q st).mem = s.mem := by
  simp [Blk.collCpl]

@[simp] theorem Blk.settleCtx_mem (s : Blk) (c : Nat) : (s.settleCtx c).mem = s.mem := by
  unfold Blk.settleCtx
  dsimp only
  split
  · split <;> simp
  · simp

@[simp] theorem Blk.completeRound_mem_wf (s : Blk) (c : Nat) (hwf : s.mem.wf = true) : (s.completeRound c).mem.wf = true := by
  simp [Blk.completeRound, hwf]

@[simp] theorem Blk.collAdvance_mem_wf (k : Nat) (s : Blk) (c : Nat) (hwf : s.mem.wf = true) : (Blk.collAdvance k s c).mem.wf = true := by
  induction k generalizing s with
  | zero => exact hwf
  | succ k ih =>
    unfold Blk.collAdvance
    dsimp only
    split
    · exact hwf
    · have hr := forN_mem_wf (s.ctx c).nbufR (fun j t => (t.tryClose c ((s.ctx c).rnd + j)).runRound c ((s.ctx c).rnd + j)) s hwf
        (fun j t ht => by simp [ht])
      split
      · exact ih _ (by simp [hr])
      · exact hr

@[simp] theorem Blk.collRun_mem_wf (s : Blk) (c : Nat) (hwf : s.mem.wf = true) : (s.collRun c).mem.wf = true := by simp +contextual [Blk.collRun, hwf]
@[simp] theorem Blk.mapContribs_mem (s : Blk) (f : List Contrib → List Contrib) : (s.mapContribs f).mem = s.mem := by simp [Blk.mapContribs]
@[simp] theorem Blk.collDrop_mem (s : Blk) (sid : Nat) : (s.collDrop sid).mem = s.mem := by simp [Blk.collDrop]

@[simp] theorem Blk.collStepEnd_mem_wf (s : Blk) (i sid : Nat) (ok : Bool) (hwf : s.mem.wf = true) : (s.collStepEnd i sid ok).mem.wf = true := by
  simp +contextual [Blk.collStepEnd, hwf]

@[simp] theorem Blk.roundTimeout_mem_wf (s : Blk) (c r : Nat) (hwf : s.mem.wf = true) : (s.roundTimeout c r).mem.wf = true := by
  unfold Blk.roundTimeout
  dsimp only
  split
  · exact hwf
  · refine Blk.collRun_mem_wf _ _ (forL_mem_wf _ _ _ ?_ (fun t u hu => by simp [hu]))
    split <;> simp [hwf]

@[simp] theorem Blk.placeWaiting_mem_wf (s : Blk) (hwf : s.mem.wf = true) : s.placeWaiting.mem.wf = true := by
  refine forL_mem_wf _ _ s hwf (fun p t ht => Blk.collRun_mem_wf _ _ ?_)
  refine forL_mem_wf _ _ t ht (fun q u hu => forL_mem_wf _ _ _ ?_ (fun w v hv => by simp [hv]))
  split <;> simp [hu]

/-! ## Steps -/

@[simp] theorem Blk.modTt_mem (s : Blk) (i : Nat) (f : Timetable → Timetable) : (s.modTt i f).mem = s.mem := by simp [Blk.modTt]

@[simp] theorem Blk.modStep_mem (s : Blk) (sid : Nat) (f : Step → Step) : (s.modStep sid f).mem = s.mem := by
  unfold Blk.modStep
  split <;> simp

@[simp] theorem Blk.showGrp_mem (s : Blk) (i g sst att k : Nat) : (s.showGrp i g sst att k).mem = s.mem := by simp [Blk.showGrp]

@[simp] theorem Blk.settleTt_mem (s : Blk) (i : Nat) : (s.settleTt i).mem = s.mem := by
  unfold Blk.settleTt
  dsimp only
  split
  · split <;> simp
  · simp

@[simp] theorem Blk.gateWindows_mem (s : Blk) (i g k : Nat) (committed : Bool) : (s.gateWindows i g k committed).mem = s.mem := by
  simp [Blk.gateWindows]

@[simp] theorem Blk.stepCpl_mem (s : Blk) (x : Step) (st : Status) (flt : Option (Nat × FaultRec)) : (s.stepCpl x st flt).mem = s.mem := by
  unfold Blk.stepCpl
  dsimp only
  split
  · simp
  · split <;> simp

@[simp] theorem Blk.countEnd_mem (s : Blk) (i : Nat) (st : Status) : (s.countEnd i st).mem = s.mem := by
  unfold Blk.countEnd
  split <;> simp

@[simp] theorem Blk.endStep_mem_wf (s : Blk) (sid : Nat) (st : Status) (flt : Option (Nat × FaultRec)) (hwf : s.mem.wf = true) :
    (s.endStep sid st flt).mem.wf = true := by
  unfold Blk.endStep
  repeat' split
  all_goals simp [hwf]

@[simp] theorem Blk.deadline_mem_wf (s : Blk) (i b sid : Nat) (hwf : s.mem.wf = true) : (s.deadline i b sid).mem.wf = true := by
  unfold Blk.deadline
  repeat' split
  all_goals simp [hwf]

@[simp] theorem Blk.tryCommit_mem_wf (s : Blk) (sid : Nat) (hwf : s.mem.wf = true) : (s.tryCommit sid).mem.wf = true := by
  unfold Blk.tryCommit
  dsimp only
  repeat' split
  all_goals simp [hwf]

@[simp] theorem Blk.recordRead_mem_wf (s : Blk) (i srAddr : Nat) (srMode : Bool) (rank pos : Nat) (hwf : s.mem.wf = true) :
    (s.recordRead i srAddr srMode rank pos).mem.wf = true := by
  unfold Blk.recordRead
  split <;> simp [hwf]

@[simp] theorem Blk.applyRecord_mem (s : Blk) (p : Nat) (pc : BitVec 40) (arg idx : Word) (mask sid : Nat) :
    (s.applyRecord p pc arg idx mask sid).mem = s.mem := by
  simp [Blk.applyRecord]

@[simp] theorem Blk.startThreads_mem_wf (s : Blk) (sid : Nat) (hwf : s.mem.wf = true) : (s.startThreads sid).mem.wf = true := by
  unfold Blk.startThreads
  split
  · exact hwf
  · extract_lets places one recs bad regions s1
    have hs1 : s1.mem.wf = true := forL_mem_wf _ _ _ (by simpa using hwf) (fun pr t ht => by split <;> simp [ht])
    split
    · exact forL_mem_wf _ _ _ (by simpa using hwf) (fun r t ht => by simpa using ht)
    · split
      · exact Blk.endStep_mem_wf _ _ _ _ (forL_mem_wf _ _ s hwf (fun rp t ht => by simp [ht]))
      · exact Blk.tryCommit_mem_wf _ _ hs1

@[simp] theorem Blk.runStep_mem_wf (s : Blk) (sid : Nat) (hwf : s.mem.wf = true) : (s.runStep sid).mem.wf = true := by
  unfold Blk.runStep
  split <;> simp [hwf]

@[simp] theorem Blk.restartStep_mem_wf (s : Blk) (sid : Nat) (hwf : s.mem.wf = true) : (s.restartStep sid).mem.wf = true := by
  unfold Blk.restartStep
  split <;> simp [hwf]

@[simp] theorem Blk.suspectUnit_mem (s : Blk) (u pos : Nat) : (s.suspectUnit u pos).mem = s.mem := by simp [Blk.suspectUnit]

@[simp] theorem Blk.faultH_mem_wf (s : Blk) (sid u pos : Nat) (r : FaultRec) (hwf : s.mem.wf = true) : (s.faultH sid u pos r).mem.wf = true := by
  unfold Blk.faultH
  split <;> simp [hwf]

@[simp] theorem Blk.raiseExc_mem_wf (s : Blk) (p t : Nat) (c : Cause) (pc addr : Nat) (inDrawer : Option Nat) (residue : Bool)
    (hwf : s.mem.wf = true) : (s.raiseExc p t c pc addr inDrawer residue).mem.wf = true := by
  unfold Blk.raiseExc
  rw [Blk.inCycle_mem]
  dsimp only
  split
  · exact Blk.faultH_mem_wf _ _ _ _ _ (by split <;> simp [hwf])
  · split
    · split <;> simp [hwf]
    · simpa using hwf

/-! ## The issue of an instruction -/

@[simp] theorem Blk.retire_mem (s : Blk) (p t : Nat) (two : Bool) : (s.retire p t two).mem = s.mem := by simp [Blk.retire]

theorem Blk.issue_mem_wf (s : Blk) (i : Issue) (two : Bool) (rs : List RegRef) (stall illegal dp : Bool) (body : Blk → Blk)
    (hwf : s.mem.wf = true) (h : ∀ t, t.mem.wf = true → (body t).mem.wf = true) : (s.issue i two rs stall illegal dp body).mem.wf = true := by
  rcases issue_cases s i two rs stall illegal dp body with h0 | ⟨c, a, d, h0⟩ | ⟨a, x, h0⟩ | h0 <;> rw [h0]
  · exact hwf
  · simp [hwf]
  · apply Blk.raiseExc_mem_wf
    rw [Blk.readCheck_mem_wf]
    exact Mem.setUncorr_wf _ _ (by simpa using hwf)
  · exact h _ (by simpa using hwf)

@[simp] theorem Blk.takeSeq_mem (s : Blk) (p : Nat) : (s.takeSeq p).2.mem = s.mem := by simp [Blk.takeSeq]

/-! ## Placement changes and the in-field test -/

@[simp] theorem Blk.startTest_mem (s : Blk) (g c : Nat) : (s.startTest g c).mem = s.mem := by simp [Blk.startTest]
@[simp] theorem Blk.swapCore_mem (s : Blk) (g k : Nat) (old : Option Nat) (c : Nat) : (s.swapCore g k old c).mem = s.mem := by simp [Blk.swapCore]

@[simp] theorem Blk.moveTo_mem (s : Blk) (g k c : Nat) : (s.moveTo g k c).mem = s.mem := by
  unfold Blk.moveTo
  dsimp only
  split <;> simp

@[simp] theorem Blk.slotSwap_mem (s : Blk) (g : Nat) : (s.slotSwap g).mem = s.mem := by
  unfold Blk.slotSwap
  dsimp only
  repeat' split
  all_goals simp

@[simp] theorem Blk.replayMove_mem_wf (s : Blk) (sid : Nat) (hwf : s.mem.wf = true) : (s.replayMove sid).mem.wf = true := by
  unfold Blk.replayMove
  dsimp only
  repeat' split
  all_goals simp [hwf]

@[simp] theorem Blk.placementChanges_mem_wf (s : Blk) (hwf : s.mem.wf = true) : s.placementChanges.mem.wf = true := by
  simp +contextual [Blk.placementChanges, hwf]

@[simp] theorem iftDoneOp_mem (unit : Nat) (pass : Bool) (s : Blk) : (iftDoneOp unit pass s).mem = s.mem := by simp [iftDoneOp]
@[simp] theorem Blk.testSpare_mem (s : Blk) (g c : Nat) : (s.testSpare g c).mem = s.mem := by simp [Blk.testSpare]
@[simp] theorem Blk.judgeAges_mem (s : Blk) : s.judgeAges.mem = s.mem := by simp [Blk.judgeAges]
@[simp] theorem coreAgeTickOp_mem (s : Blk) : (coreAgeTickOp s).mem = s.mem := by simp [coreAgeTickOp]

/-! ## Fabric time -/

@[simp] theorem Blk.recountBeats_mem (s : Blk) : s.recountBeats.mem = s.mem := by simp [Blk.recountBeats]
@[simp] theorem Blk.setNs_mem (s : Blk) (ns : Nat) (frac : Nat) : (s.setNs ns frac).mem = s.mem := by simp [Blk.setNs]
@[simp] theorem Blk.haltTt_mem (s : Blk) (i : Nat) (st : Status) : (s.haltTt i st).mem = s.mem := by simp [Blk.haltTt]

@[simp] theorem Blk.haltJump_mem_wf (s : Blk) (i : Nat) (hwf : s.mem.wf = true) : (s.haltJump i).mem.wf = true := by
  simp +contextual [Blk.haltJump, hwf]

@[simp] theorem Blk.jump_mem_wf (s : Blk) (off : Int) (hwf : s.mem.wf = true) : (s.jump off).mem.wf = true := by simp +contextual [Blk.jump, hwf]
@[simp] theorem Blk.timeSt_mem (s : Blk) (st : TimeState) : (s.timeSt st).mem = s.mem := by simp [Blk.timeSt]
@[simp] theorem Blk.slew_mem (s : Blk) : s.slew.mem = s.mem := by simp [Blk.slew]

@[simp] theorem Blk.timeUpdate_mem_wf (s : Blk) (off : Int) (hwf : s.mem.wf = true) : (s.timeUpdate off).mem.wf = true := by
  unfold Blk.timeUpdate
  dsimp only
  split <;> simp [hwf]

@[simp] theorem timeUpdateOp_mem_wf (l : BitVec 6) (dom : BitVec 8) (off : BitVec 64) (s : Blk) (hwf : s.mem.wf = true) :
    (timeUpdateOp l dom off s).mem.wf = true := by
  simp [timeUpdateOp, hwf]

@[simp] theorem ppsEdgeOp_mem_wf (localNs : BitVec 64) (s : Blk) (hwf : s.mem.wf = true) : (ppsEdgeOp localNs s).mem.wf = true := by
  simp [ppsEdgeOp, hwf]

@[simp] theorem timeSourceTimeoutOp_mem (s : Blk) : (timeSourceTimeoutOp s).mem = s.mem := by simp [timeSourceTimeoutOp]
@[simp] theorem holdoverExpiryOp_mem (s : Blk) : (holdoverExpiryOp s).mem = s.mem := by simp [holdoverExpiryOp]

@[simp] theorem srcWriteOp_mem (v : BitVec 32) (s : Blk) : (srcWriteOp v s).mem = s.mem := by
  unfold srcWriteOp
  split <;> simp

@[simp] theorem ttSetWriteOp_mem (v : Word) (full : Bool) (s : Blk) : (ttSetWriteOp v full s).mem = s.mem := by simp [ttSetWriteOp]
@[simp] theorem ttBeatCfgWriteOp_mem (v : BitVec 32) (s : Blk) : (ttBeatCfgWriteOp v s).mem = s.mem := by simp [ttBeatCfgWriteOp]
@[simp] theorem ttBeatEpochWriteOp_mem (v : Word) (s : Blk) : (ttBeatEpochWriteOp v s).mem = s.mem := by simp [ttBeatEpochWriteOp]
@[simp] theorem ttTimeReadOp_mem (s : Blk) : (ttTimeReadOp s).mem = s.mem := by simp [ttTimeReadOp]
@[simp] theorem ppsOutPulseOp_mem (s : Blk) : (ppsOutPulseOp s).mem = s.mem := by simp [ppsOutPulseOp]

/-! ## Timetables -/

@[simp] theorem Blk.ttLoad_mem (s : Blk) (c : CmdRef) (i : Nat) (image : Option (List Byte)) : (s.ttLoad c i image).mem = s.mem := by
  unfold Blk.ttLoad
  split <;> simp

@[simp] theorem Blk.ttStart_mem (s : Blk) (c : CmdRef) (i b0 n : Nat) : (s.ttStart c i b0 n).mem = s.mem := by simp [Blk.ttStart]
@[simp] theorem Blk.ttStop_mem (s : Blk) (c : CmdRef) (i stop : Nat) : (s.ttStop c i stop).mem = s.mem := by simp [Blk.ttStop]

@[simp] theorem Blk.ttUnload_mem (s : Blk) (c : CmdRef) (i : Nat) : (s.ttUnload c i).mem = s.mem := by
  unfold Blk.ttUnload
  dsimp only
  split <;> simp

@[simp] theorem Blk.closeWins_mem (s : Blk) (i b : Nat) : (s.closeWins i b).mem = s.mem := by simp [Blk.closeWins]

@[simp] theorem Blk.openWin_mem (s : Blk) (i b g k : Nat) (e : TtEntry) : (s.openWin i b g k e).mem = s.mem := by
  unfold Blk.openWin
  split
  · simp
  · split <;> simp

@[simp] theorem Blk.testSlot_mem (s : Blk) (i g : Nat) (e : TtEntry) : (s.testSlot i g e).mem = s.mem := by
  unfold Blk.testSlot
  dsimp only
  split
  · simp
  · split
    · rfl
    · exact forL_mem _ _ s (fun c t => by simp)

@[simp] theorem Blk.expectAt_mem (s : Blk) (i g k : Nat) (e : TtEntry) : (s.expectAt i g k e).mem = s.mem := by simp [Blk.expectAt]

@[simp] theorem Blk.neverStarted_mem_wf (s : Blk) (i g k : Nat) (st : Status) (hwf : s.mem.wf = true) : (s.neverStarted i g k st).mem.wf = true := by
  simp [Blk.neverStarted, hwf]

@[simp] theorem Blk.startStepAt_mem_wf (s : Blk) (i b g k : Nat) (e : TtEntry) (hwf : s.mem.wf = true) : (s.startStepAt i b g k e).mem.wf = true := by
  unfold Blk.startStepAt
  dsimp only
  repeat' split
  all_goals simp [hwf]

@[simp] theorem Blk.inputMet_mem_wf (s : Blk) (sid : Nat) (hwf : s.mem.wf = true) : (s.inputMet sid).mem.wf = true := by
  unfold Blk.inputMet
  split <;> simp [hwf]

@[simp] theorem stepInputMetOp_mem_wf (sid : Nat) (s : Blk) (hwf : s.mem.wf = true) : (stepInputMetOp sid s).mem.wf = true := by
  simp [stepInputMetOp, hwf]

@[simp] theorem Blk.powerHint_mem (s : Blk) (i b : Nat) (e : TtEntry) : (s.powerHint i b e).mem = s.mem := by simp [Blk.powerHint]

theorem Blk.actAll_memOk (s : Blk) (i b a : Nat) (f : Nat → Nat → TtEntry → Blk → Blk) (hwf : s.memOk)
    (h : ∀ g k e (t : Blk), t.memOk → (f g k e t).memOk) : (s.actAll i b a f).memOk := by
  unfold Blk.actAll
  dsimp only
  split
  · exact forL_mem_wf _ _ s hwf (fun x t => h _ _ _ t)
  · split
    · exact forL_mem_wf _ _ s hwf (fun x t => h _ _ _ t)
    · exact hwf

@[simp] theorem Blk.beatActions_mem_wf (s : Blk) (b : Nat) (hwf : s.mem.wf = true) : (s.beatActions b).mem.wf = true := by
  change (s.beatActions b).memOk
  unfold Blk.beatActions
  extract_lets is each s0 s1 s2 s3 s4 s5 s6 s7
  have hEach (f : Nat → Blk → Blk) (t : Blk) (ht : t.memOk) (hf : ∀ i (u : Blk), u.memOk → (f i u).memOk) : (each f t).memOk :=
    forL_mem_wf _ f t ht hf
  have h0 : s0.memOk := hEach _ _ hwf (fun i t ht => by
    have hh (st : Status) : (t.haltTt i st).memOk := by simpa [Blk.memOk] using ht
    have hr (x : Timetable) : (t.setTt i x).memOk := ht
    exact Blk.memOk_ite _ (fun _ => hh _) (fun _ => Blk.memOk_ite _ (fun _ => hh _) (fun _ => Blk.memOk_ite _ (fun _ => hr _) (fun _ => ht))))
  have h1 : s1.memOk := hEach _ _ h0 (fun i t ht => forL_mem_wf _ _ t ht (fun x u hu => Blk.deadline_mem_wf _ _ _ _ hu))
  have h2 : s2.memOk := hEach _ _ h1 (fun i t ht => by simpa [Blk.memOk] using ht)
  have h3 : s3.memOk := hEach _ _ h2 (fun i t ht => Blk.actAll_memOk _ _ _ _ _ ht (fun g k e u hu => by simpa [Blk.memOk] using hu))
  have h4 : s4.memOk := hEach _ _ h3 (fun i t ht => Blk.actAll_memOk _ _ _ _ _ ht (fun g k e u hu => by simpa [Blk.memOk] using hu))
  have h5 : s5.memOk := hEach _ _ h4 (fun i t ht => Blk.actAll_memOk _ _ _ _ _ ht (fun g k e u hu => by simpa [Blk.memOk] using hu))
  have h6 : s6.memOk := hEach _ _ h5 (fun i t ht => Blk.actAll_memOk _ _ _ _ _ ht (fun g k e u hu => Blk.startStepAt_mem_wf _ _ _ _ _ _ hu))
  have h7 : s7.memOk := hEach _ _ h6 (fun i t ht => Blk.actAll_memOk _ _ _ _ _ ht (fun g k e u hu => by simpa [Blk.memOk] using hu))
  exact forL_mem_wf _ _ _ h7 (fun i t ht => by simpa using ht)

@[simp] theorem Blk.wakeThreads_mem (s : Blk) (b : Nat) : (s.wakeThreads b).mem = s.mem := by simp [Blk.wakeThreads]
@[simp] theorem Blk.nextBoundary_mem (s : Blk) : s.nextBoundary.mem = s.mem := by simp [Blk.nextBoundary]

/-! ## Work queues, moves and host copies -/

@[simp] theorem doorbellOp_mem (fn slot : Nat) (s : Blk) : (doorbellOp fn slot s).mem = s.mem := by
  unfold doorbellOp
  split <;> simp

@[simp] theorem Blk.queueError_mem (s : Blk) (q : Nat) (st : Status) : (s.queueError q st).mem = s.mem := by
  unfold Blk.queueError
  dsimp only
  split <;> simp

@[simp] theorem queueEntryFetchedOp_mem (q : Nat) (data : Option (List Byte)) (s : Blk) : (queueEntryFetchedOp q data s).mem = s.mem := by
  unfold queueEntryFetchedOp
  split
  · simp
  · split <;> simp

@[simp] theorem queueEnableOp_mem (q : Nat) (s : Blk) : (queueEnableOp q s).mem = s.mem := by simp [queueEnableOp]
@[simp] theorem queueDisableOp_mem (q : Nat) (s : Blk) : (queueDisableOp q s).mem = s.mem := by simp [queueDisableOp]
@[simp] theorem Blk.clearError_mem (s : Blk) (q : Nat) : (s.clearError q).mem = s.mem := by simp [Blk.clearError]
@[simp] theorem queueClrErrOp_mem (q : Nat) (s : Blk) : (queueClrErrOp q s).mem = s.mem := by simp [queueClrErrOp]
@[simp] theorem cqConsWriteOp_mem (q : Nat) (v : BitVec 32) (s : Blk) : (cqConsWriteOp q v s).mem = s.mem := by simp [cqConsWriteOp]
@[simp] theorem quePfWriteOp_mem (v : BitVec 32) (s : Blk) : (quePfWriteOp v s).mem = s.mem := by simp [quePfWriteOp]
@[simp] theorem headPublishOp_mem (q : Nat) (s : Blk) : (headPublishOp q s).mem = s.mem := by simp [headPublishOp]
@[simp] theorem Blk.markChecked_mem (s : Blk) (q idx : Nat) : (s.markChecked q idx).mem = s.mem := by simp [Blk.markChecked]
@[simp] theorem Blk.refuseJob_mem (s : Blk) (q : Nat) (e : QEntry) (ctype : Nat) : (s.refuseJob q e ctype).mem = s.mem := by simp [Blk.refuseJob]

@[simp] theorem jobStepOp_mem (q : Nat) (s : Blk) : (jobStepOp q s).mem = s.mem := by
  unfold jobStepOp
  repeat' split
  all_goals simp

@[simp] theorem jobStepStartOp_mem_wf (q : Nat) (s : Blk) (hwf : s.mem.wf = true) : (jobStepStartOp q s).mem.wf = true := by
  unfold jobStepStartOp
  split <;> simp [hwf]

@[simp] theorem Blk.settleMove_mem_wf (s : Blk) (id : Nat) (hwf : s.mem.wf = true) : (s.settleMove id).mem.wf = true := by
  unfold Blk.settleMove
  repeat' split
  all_goals simp [hwf]

@[simp] theorem Blk.startMove_mem_wf (s : Blk) (m : Move) (hwf : s.mem.wf = true) : (s.startMove m).mem.wf = true := by simp [Blk.startMove, hwf]

@[simp] theorem Blk.jobMove_mem_wf (s : Blk) (q etype : Nat) (parse : Nat → Nat → List Byte → Option Move) (hwf : s.mem.wf = true) :
    (s.jobMove q etype parse).mem.wf = true := by
  unfold Blk.jobMove
  repeat' split
  all_goals simp [hwf]

@[simp] theorem jobMoveOp_mem_wf (q : Nat) (s : Blk) (hwf : s.mem.wf = true) : (jobMoveOp q s).mem.wf = true := by simp [jobMoveOp, hwf]
@[simp] theorem jobHcopyOp_mem_wf (q : Nat) (s : Blk) (hwf : s.mem.wf = true) : (jobHcopyOp q s).mem.wf = true := by simp [jobHcopyOp, hwf]

@[simp] theorem Blk.endFrag_mem_wf (s : Blk) (id f : Nat) (fail : Bool) (hwf : s.mem.wf = true) : (s.endFrag id f fail).mem.wf = true := by
  unfold Blk.endFrag
  split <;> simp [hwf]

@[simp] theorem Blk.failFrag_mem_wf (s : Blk) (id f : Nat) (dst : List (Nat × Nat)) (hwf : s.mem.wf = true) : (s.failFrag id f dst).mem.wf = true :=
  Blk.endFrag_mem_wf _ _ _ _ (forL_mem_wf _ _ s hwf (fun p t ht => by simp [ht]))

@[simp] theorem moveFragmentDoneOp_mem_wf (id f : Nat) (corrupt : Bool) (host : Option (List Byte)) (s : Blk) (hwf : s.mem.wf = true) :
    (moveFragmentDoneOp id f corrupt host s).mem.wf = true := by
  unfold moveFragmentDoneOp
  split
  · exact hwf
  · rename_i m _
    refine Blk.memOk_ite _ (fun _ => hwf) (fun _ => Blk.memOk_ite _ (fun _ => Blk.endFrag_mem_wf _ _ _ _ hwf)
      (fun _ => Blk.memOk_ite _ (fun _ => hwf) (fun _ => ?_)))
    extract_lets fr dst lost src
    have hlost (t : Blk) (ht : t.mem.wf = true) : (lost t).mem.wf = true := ht
    clear_value fr dst lost src
    rcases dst with _ | dp
    · rcases src <;> exact Blk.endFrag_mem_wf _ _ _ _ hwf
    · rcases src with _ | sp
      · exact Blk.failFrag_mem_wf _ _ _ _ hwf
      · refine Blk.memOk_ite _ (fun _ => by simpa [Blk.memOk] using hwf) (fun _ => Blk.memOk_ite _ (fun _ => hwf) (fun _ =>
          Blk.memOk_ite _ (fun _ => ?_) (fun _ => ?_)))
        · cases host with
          | none => exact Blk.failFrag_mem_wf _ _ _ _ hwf
          | some l =>
            dsimp -zeta only
            extract_lets g
            have hg : g.1.mem.wf = true := by simp [g, hwf]
            clear_value g
            exact Blk.memOk_ite _ (fun _ => hlost _ hg) (fun _ => Blk.endFrag_mem_wf _ _ _ _ (Blk.writePieces_mem_wf _ _ _ hg))
        · extract_lets go g r
          have hg : g.1.mem.wf = true := by unfold g; split <;> simp [go, hwf]
          have hr : r.1.mem.wf = true := Blk.readPieces_mem_wf _ _ hg
          clear_value g r
          refine Blk.memOk_ite _ (fun _ => hlost _ hg) (fun _ => Blk.memOk_ite _ (fun _ => Blk.failFrag_mem_wf _ _ _ _ hr)
            (fun _ => Blk.memOk_ite _ (fun _ => by simp [Blk.memOk, hr]) (fun _ => ?_)))
          split
          · rename_i a b _ _
            have hw (t : Blk) (h : (if corrupt then none else r.1.memWriteChecked b r.2.1 (r.1.mem.check a)) = some t) : t.mem.wf = true := by
              split at h
              · cases h
              · exact Blk.memWriteChecked_mem_wf h hr
            generalize (if corrupt then none else r.1.memWriteChecked b r.2.1 (r.1.mem.check a)) = w at hw
            cases w with
            | some t => exact Blk.endFrag_mem_wf _ _ _ _ (hw t rfl)
            | none => exact Blk.memOk_ite _ (fun _ => Blk.failFrag_mem_wf _ _ _ _ hr) (fun _ => hr)
          · exact Blk.endFrag_mem_wf _ _ _ _ (Blk.writePieces_mem_wf _ _ _ hr)

/-! ## Command packets -/

@[simp] theorem cmdAcceptOp_mem (q : Nat) (payload : Option (List Byte)) (s : Blk) : (cmdAcceptOp q payload s).mem = s.mem := by
  unfold cmdAcceptOp
  dsimp only
  repeat' split
  all_goals simp

theorem Blk.withCmd_mem (s : Blk) (op : Nat) (f : CmdRef → List Byte → Blk → Blk) (h : ∀ c p t, t.mem = s.mem → (f c p t).mem = s.mem) :
    (s.withCmd op f).mem = s.mem := by
  unfold Blk.withCmd
  split
  · rfl
  · split
    · exact h _ _ _ rfl
    · rfl

theorem Blk.withCmd_mem_wf (s : Blk) (op : Nat) (f : CmdRef → List Byte → Blk → Blk) (hwf : s.mem.wf = true)
    (h : ∀ c p t, t.mem.wf = true → (f c p t).mem.wf = true) : (s.withCmd op f).mem.wf = true := by
  unfold Blk.withCmd
  split
  · exact hwf
  · split
    · exact h _ _ _ hwf
    · exact hwf

@[simp] theorem Blk.notice_mem (s : Blk) (fn : Nat) : (s.notice fn).mem = s.mem := by simp [Blk.notice]
@[simp] theorem Blk.openWins_mem (s : Blk) (c : CmdRef) : (s.openWins c).mem = s.mem := by simp [Blk.openWins]

@[simp] theorem cmdReplyOp_mem (fn : Nat) (s : Blk) : (cmdReplyOp fn s).mem = s.mem := by
  unfold cmdReplyOp
  split <;> simp

@[simp] theorem hrmDataReadOp_mem (fn : Nat) (low : Bool) (s : Blk) : (hrmDataReadOp fn low s).mem = s.mem := by simp [hrmDataReadOp]

@[simp] theorem cmdNopOp_mem (s : Blk) : (cmdNopOp s).mem = s.mem := by
  unfold cmdNopOp
  exact Blk.withCmd_mem _ _ _ (fun c p t ht => by simpa using ht)

@[simp] theorem ttLoadOp_mem (image : Option (List Byte)) (s : Blk) : (ttLoadOp image s).mem = s.mem := by
  unfold ttLoadOp
  exact Blk.withCmd_mem _ _ _ (fun c p t ht => by simpa using ht)

@[simp] theorem ttStartOp_mem (s : Blk) : (ttStartOp s).mem = s.mem := by
  unfold ttStartOp
  exact Blk.withCmd_mem _ _ _ (fun c p t ht => by simpa using ht)

@[simp] theorem ttStopOp_mem (s : Blk) : (ttStopOp s).mem = s.mem := by
  unfold ttStopOp
  exact Blk.withCmd_mem _ _ _ (fun c p t ht => by simpa using ht)

@[simp] theorem ttUnloadOp_mem (s : Blk) : (ttUnloadOp s).mem = s.mem := by
  unfold ttUnloadOp
  exact Blk.withCmd_mem _ _ _ (fun c p t ht => by simpa using ht)

@[simp] theorem Blk.cmdMove_mem_wf (s : Blk) (c : CmdRef) (m : Option Move) (hwf : s.mem.wf = true) : (s.cmdMove c m).mem.wf = true := by
  unfold Blk.cmdMove
  split <;> simp [hwf]

@[simp] theorem moveOp_mem_wf (s : Blk) (hwf : s.mem.wf = true) : (moveOp s).mem.wf = true :=
  Blk.withCmd_mem_wf _ _ _ hwf (fun c p t ht => by simp [ht])

@[simp] theorem hcopyOp_mem_wf (s : Blk) (hwf : s.mem.wf = true) : (hcopyOp s).mem.wf = true :=
  Blk.withCmd_mem_wf _ _ _ hwf (fun c p t ht => by simp [ht])

/-! ## The Hutch -/

@[simp] theorem Blk.setSlot_mem (s : Blk) (n : Nat) (x : Slot) : (s.setSlot n x).mem = s.mem := by simp [Blk.setSlot]
@[simp] theorem Blk.setKek_mem (s : Blk) (i : Nat) (k : Option (List Byte)) : (s.setKek i k).mem = s.mem := by simp [Blk.setKek]
@[simp] theorem Blk.unwrapFail_mem (s : Blk) (c : CmdRef) : (s.unwrapFail c).mem = s.mem := by simp [Blk.unwrapFail]

@[simp] theorem hutchKekLoadOp_mem (s : Blk) : (hutchKekLoadOp s).mem = s.mem := by
  refine Blk.withCmd_mem _ _ _ (fun c p t ht => ?_)
  split
  · simpa using ht
  · generalize unwrapKey rootKeyBytes (fieldAt p 2 1) (slice p 8 40) = k
    cases k <;> simpa using ht

@[simp] theorem hutchKekClearOp_mem (s : Blk) : (hutchKekClearOp s).mem = s.mem := by
  unfold hutchKekClearOp
  exact Blk.withCmd_mem _ _ _ (fun c p t ht => by simpa using ht)

@[simp] theorem hutchKeyLoadOp_mem (s : Blk) : (hutchKeyLoadOp s).mem = s.mem := by
  refine Blk.withCmd_mem _ _ _ (fun c p t ht => ?_)
  dsimp only
  repeat' split
  all_goals simp [ht]

@[simp] theorem hutchKeyClearOp_mem (s : Blk) : (hutchKeyClearOp s).mem = s.mem := by
  unfold hutchKeyClearOp
  exact Blk.withCmd_mem _ _ _ (fun c p t ht => by simpa using ht)

@[simp] theorem cipEnWriteOp_mem (v : BitVec 32) (s : Blk) : (cipEnWriteOp v s).mem = s.mem := by simp [cipEnWriteOp]
@[simp] theorem Blk.unbindSlot_mem (s : Blk) (n conn : Nat) : (s.unbindSlot n conn).mem = s.mem := by simp [Blk.unbindSlot]
@[simp] theorem Blk.zeroiseKeys_mem (s : Blk) (i : Nat) : (s.zeroiseKeys i).mem = s.mem := by simp [Blk.zeroiseKeys]

/-! ## Connections and requests of Fyrrarel Transport -/

@[simp] theorem Blk.setConn_mem (s : Blk) (c : Nat) (x : Conn) : (s.setConn c x).mem = s.mem := by simp [Blk.setConn]
@[simp] theorem Blk.modConn_mem (s : Blk) (c : Nat) (f : Conn → Conn) : (s.modConn c f).mem = s.mem := by simp [Blk.modConn]
@[simp] theorem Blk.setWin_mem (s : Blk) (n : Nat) (w : Win) : (s.setWin n w).mem = s.mem := by simp [Blk.setWin]
@[simp] theorem Blk.settleWins_mem (s : Blk) : s.settleWins.mem = s.mem := by simp [Blk.settleWins]
@[simp] theorem Blk.expireWins_mem (s : Blk) (b : Nat) : (s.expireWins b).mem = s.mem := by simp [Blk.expireWins]
@[simp] theorem Blk.putReq_mem (s : Blk) (r : WReq) : (s.putReq r).mem = s.mem := by simp [Blk.putReq]

@[simp] theorem Blk.reqDone_mem_wf (s : Blk) (r : WReq) (st : Status) (hwf : s.mem.wf = true) : (s.reqDone r st).mem.wf = true := by
  simp [Blk.reqDone, hwf]

@[simp] theorem Blk.reqEnd_mem_wf (s : Blk) (r : WReq) (hwf : s.mem.wf = true) : (s.reqEnd r).mem.wf = true := by simp [Blk.reqEnd, hwf]

@[simp] theorem Blk.recvDone_mem (s : Blk) (c q idx : Nat) (st : Status) (placed : Nat) (imm : Option Nat) :
    (s.recvDone c q idx st placed imm).mem = s.mem := by
  simp [Blk.recvDone]

@[simp] theorem Blk.forgetFrames_mem (s : Blk) (c : Nat) : (s.forgetFrames c).mem = s.mem := by simp [Blk.forgetFrames]
@[simp] theorem Blk.connFree_mem (s0 : Blk) (c : Nat) : (s0.connFree c).mem = s0.mem := by simp [Blk.connFree]
@[simp] theorem Blk.connSettle_mem (s : Blk) (c : Nat) : (s.connSettle c).mem = s.mem := by simp [Blk.connSettle]

@[simp] theorem Blk.connError_mem_wf (s : Blk) (c : Nat) (st : Status) (r : Option WReq) (hwf : s.mem.wf = true) :
    (s.connError c st r).mem.wf = true := by
  unfold Blk.connError
  dsimp only
  repeat' split
  all_goals simp +contextual [hwf]

@[simp] theorem Blk.ftLinkLost_mem_wf (s : Blk) (p : Option (Nat × Option Nat)) (hwf : s.mem.wf = true) : (s.ftLinkLost p).mem.wf = true := by
  unfold Blk.ftLinkLost
  split <;> simp [hwf]

@[simp] theorem Blk.rcntInc_mem (s : Blk) (n : Option Nat) : (s.rcntInc n).mem = s.mem := by
  unfold Blk.rcntInc
  split <;> simp

/-! ## Ethernet ports -/

@[simp] theorem Blk.setLp_mem (s : Blk) (l : Nat) (x : LPort) : (s.setLp l x).mem = s.mem := by simp [Blk.setLp]
@[simp] theorem Blk.modLp_mem (s : Blk) (l : Nat) (f : LPort → LPort) : (s.modLp l f).mem = s.mem := by simp [Blk.modLp]
@[simp] theorem Blk.modPort_mem (s : Blk) (n : Nat) (f : EthPort → EthPort) : (s.modPort n f).mem = s.mem := by simp [Blk.modPort]

@[simp] theorem Blk.sendFrame_mem (s : Blk) (l : Nat) (f : List Byte) : (s.sendFrame l f).mem = s.mem := by
  unfold Blk.sendFrame
  split <;> simp

@[simp] theorem Blk.dropNotReady_mem_wf (s : Blk) (l : Nat) (ft : Option (Nat × Option Nat)) (hwf : s.mem.wf = true) :
    (s.dropNotReady l ft).mem.wf = true := by
  simp +contextual [Blk.dropNotReady, hwf]

@[simp] theorem Blk.commitFrame_mem_wf (s : Blk) (l tc : Nat) (inst : Option Nat) (ft : Option (Nat × Option Nat)) (data : List Byte) (hwf : s.mem.wf = true) :
    (s.commitFrame l tc inst ft data).mem.wf = true := by
  simp +contextual [Blk.commitFrame, hwf]

@[simp] theorem Blk.commitWhenRoom_mem_wf (s : Blk) (l tc : Nat) (inst : Option Nat) (ft : Option (Nat × Option Nat)) (data : List Byte) (hwf : s.mem.wf = true) :
    (s.commitWhenRoom l tc inst ft data).mem.wf = true := by
  simp [Blk.commitWhenRoom, hwf]

@[simp] theorem Blk.drainWait_mem_wf (s : Blk) (n : Nat) (hwf : s.mem.wf = true) : (s.drainWait n).mem.wf = true :=
  forL_mem_wf _ _ s hwf (fun l t ht => forL_mem_wf _ _ _ (by simpa using ht) (fun w u hu => by simp [hu]))

@[simp] theorem Blk.commitSys_mem_wf (s : Blk) (l : Nat) (data : List Byte) (hwf : s.mem.wf = true) : (s.commitSys l data).mem.wf = true := by
  simp +contextual [Blk.commitSys, hwf]

@[simp] theorem Blk.drrSend_mem (k : Nat) (s : Blk) (l q d : Nat) : (Blk.drrSend k s l q d).mem = s.mem := by
  induction k generalizing s d with
  | zero => rfl
  | succ k ih =>
    unfold Blk.drrSend
    split
    · simp
    · dsimp only
      split <;> simp [ih]

@[simp] theorem egressVisitOp_mem_wf (l : Nat) (s : Blk) (hwf : s.mem.wf = true) : (egressVisitOp l s).mem.wf = true := by
  unfold egressVisitOp
  dsimp only
  repeat' split
  all_goals simp [hwf]

@[simp] theorem ptpEventMessageTxOp_mem_wf (l : Nat) (frame : List Byte) (s : Blk) (hwf : s.mem.wf = true) :
    (ptpEventMessageTxOp l frame s).mem.wf = true := by
  simp [ptpEventMessageTxOp, hwf]

@[simp] theorem ptpTxtsPopOp_mem (l : Nat) (s : Blk) : (ptpTxtsPopOp l s).mem = s.mem := by
  unfold ptpTxtsPopOp
  split <;> simp

@[simp] theorem Blk.pauseFor_mem (s : Blk) (l p : Nat) (on : Bool) : (s.pauseFor l p on).mem = s.mem := by
  unfold Blk.pauseFor
  split <;> simp

@[simp] theorem pauseRxOp_mem (l quanta : Nat) (s : Blk) : (pauseRxOp l quanta s).mem = s.mem := by simp [pauseRxOp]
@[simp] theorem pfcRxOp_mem (l vec : Nat) (times : List Nat) (s : Blk) : (pfcRxOp l vec times s).mem = s.mem := by simp [pfcRxOp]
@[simp] theorem pauseTimeEndOp_mem (l p : Nat) (s : Blk) : (pauseTimeEndOp l p s).mem = s.mem := by simp [pauseTimeEndOp]

@[simp] theorem pauseWatchdogExpiryOp_mem_wf (l p : Nat) (s : Blk) (hwf : s.mem.wf = true) : (pauseWatchdogExpiryOp l p s).mem.wf = true := by
  simp [pauseWatchdogExpiryOp, hwf]

@[simp] theorem pwdRecoverExpiryOp_mem (l p : Nat) (s : Blk) : (pwdRecoverExpiryOp l p s).mem = s.mem := by simp [pwdRecoverExpiryOp]
@[simp] theorem Blk.sendPause_mem (s : Blk) (l p quanta : Nat) : (s.sendPause l p quanta).mem = s.mem := by simp [Blk.sendPause]
@[simp] theorem Blk.checkXoff_mem (s : Blk) (l p : Nat) : (s.checkXoff l p).mem = s.mem := by simp [Blk.checkXoff]
@[simp] theorem Blk.checkXon_mem (s : Blk) (l p : Nat) : (s.checkXon l p).mem = s.mem := by simp [Blk.checkXon]
@[simp] theorem pauseRepeatOp_mem (l p : Nat) (s : Blk) : (pauseRepeatOp l p s).mem = s.mem := by simp [pauseRepeatOp]

@[simp] theorem Blk.meterFrame_mem (s : Blk) (n m b : Nat) : (s.meterFrame n m b).1.mem = s.mem := by
  unfold Blk.meterFrame
  dsimp only
  repeat' split
  all_goals simp

@[simp] theorem mtrCtlWriteOp_mem (n m : Nat) (v : BitVec 32) (s : Blk) : (mtrCtlWriteOp n m v s).mem = s.mem := by simp [mtrCtlWriteOp]

@[simp] theorem Blk.ftForward_mem_wf (s : Blk) (f : List Byte) (dev : Nat) (hwf : s.mem.wf = true) : (s.ftForward f dev).mem.wf = true := by
  simp [Blk.ftForward, hwf]

@[simp] theorem Blk.ftArrive_mem_wf (s : Blk) (l tc : Nat) (f p : List Byte) (hwf : s.mem.wf = true) : (s.ftArrive l tc f p).mem.wf = true := by
  simp [Blk.ftArrive, hwf]

@[simp] theorem Blk.basicArrive_mem (s : Blk) (l : Nat) (f : List Byte) : (s.basicArrive l f).mem = s.mem := by simp [Blk.basicArrive]

@[simp] theorem Blk.deliver_mem_wf (s : Blk) (l tc : Nat) (f : List Byte) (hwf : s.mem.wf = true) : (s.deliver l tc f).mem.wf = true := by
  unfold Blk.deliver
  repeat' split
  all_goals simp [hwf]

@[simp] theorem Blk.rxBuffer_mem_wf (s : Blk) (l tc : Nat) (f : List Byte) (hwf : s.mem.wf = true) : (s.rxBuffer l tc f).mem.wf = true := by
  simp [Blk.rxBuffer, hwf]

@[simp] theorem Blk.rxClass_mem_wf (s : Blk) (l : Nat) (f : List Byte) (hwf : s.mem.wf = true) : (s.rxClass l f).mem.wf = true := by
  unfold Blk.rxClass
  dsimp only
  split
  · simp [hwf]
  · split <;> simp [hwf]

@[simp] theorem ethFrameRxOp_mem_wf (l : Nat) (frame : List Byte) (fecBad : Bool) (cw sym : Nat) (s : Blk) (hwf : s.mem.wf = true) :
    (ethFrameRxOp l frame fecBad cw sym s).mem.wf = true := by
  simp [ethFrameRxOp, hwf]

@[simp] theorem Blk.dropHeld_mem_wf (s : Blk) (l : Nat) (hwf : s.mem.wf = true) : (s.dropHeld l).mem.wf = true :=
  Blk.drainWait_mem_wf _ _ (forL_mem_wf _ _ _ (by simpa using hwf) (fun f t ht => by simp [ht]))

@[simp] theorem Blk.calibrate_mem (s : Blk) (n m : Nat) : (s.calibrate n m).mem = s.mem := by simp [Blk.calibrate]

@[simp] theorem laneCalDoneOp_mem (l : Nat) (s : Blk) : (laneCalDoneOp l s).mem = s.mem := by
  have hl : ∀ (ks : List Nat) (t : Blk) (a b : Nat), (ks.foldl (fun t k => (t.setLock (a + 2 * k) true).setLock (b + 2 * k) true) t).mem = t.mem :=
    fun ks t a b => foldl_mem ks _ t (fun t k => by simp)
  unfold laneCalDoneOp
  dsimp only
  split
  · rfl
  · simp [hl]

@[simp] theorem linkUpOp_mem (l : Nat) (s : Blk) : (linkUpOp l s).mem = s.mem := by simp [linkUpOp]
@[simp] theorem linkDownOp_mem (l : Nat) (s : Blk) : (linkDownOp l s).mem = s.mem := by simp [linkDownOp]
@[simp] theorem portCfgWriteOp_mem (n : Nat) (v : BitVec 32) (s : Blk) : (portCfgWriteOp n v s).mem = s.mem := by simp [portCfgWriteOp]

@[simp] theorem Blk.lpEnable_mem_wf (s : Blk) (l : Nat) (on : Bool) (hwf : s.mem.wf = true) : (s.lpEnable l on).mem.wf = true := by
  simp [Blk.lpEnable, hwf]

@[simp] theorem lpEnWriteOp_mem_wf (l : Nat) (v : BitVec 32) (s : Blk) (hwf : s.mem.wf = true) : (lpEnWriteOp l v s).mem.wf = true := by
  simp [lpEnWriteOp, hwf]

@[simp] theorem Blk.portPower_mem (s : Blk) (n : Nat) (on : Bool) : (s.portPower n on).mem = s.mem := by
  unfold Blk.portPower
  split
  · split
    · rfl
    · refine forL_mem _ _ s (fun l t => ?_)
      split
      · rfl
      · split <;> simp
  · exact foldl_mem _ _ _ (fun t k => by simp)

@[simp] theorem portHoldExpiryOp_mem_wf (l q : Nat) (s : Blk) (hwf : s.mem.wf = true) : (portHoldExpiryOp l q s).mem.wf = true := by
  unfold portHoldExpiryOp
  dsimp only
  repeat' split
  all_goals simp [hwf]

@[simp] theorem fecRateCheckOp_mem (l extra : Nat) (s : Blk) : (fecRateCheckOp l extra s).mem = s.mem := by simp [fecRateCheckOp]

/-! ## Loads, stores and transfers -/

@[simp] theorem Blk.hwRead_mem_wf (s : Blk) (hw : HwErr) (a : Nat) (hwf : s.mem.wf = true) : (s.hwRead hw a).mem.wf = true := by
  unfold Blk.hwRead
  split
  · exact Mem.setUncorr_wf _ _ hwf
  · simpa using hwf
  · exact Mem.silentChange_wf _ _ _ hwf
  · exact hwf

@[simp] theorem Blk.addOp_mem (s : Blk) (p t : Nat) (o : OutOp) : (s.addOp p t o).mem = s.mem := by simp [Blk.addOp]
@[simp] theorem Blk.dropOp_mem (s : Blk) (p t id : Nat) : (s.dropOp p t id).mem = s.mem := by simp [Blk.dropOp]
@[simp] theorem Blk.hostReadReq_mem (s : Blk) (rec : HReadRec) : (s.hostReadReq rec).mem = s.mem := by simp [Blk.hostReadReq]
@[simp] theorem Blk.aperLoad_mem (s : Blk) (p t off n : Nat) (kind : OpKind) : (s.aperLoad p t off n kind).mem = s.mem := by simp [Blk.aperLoad]
@[simp] theorem Blk.aperStore_mem (s : Blk) (p off : Nat) (l : List Byte) : (s.aperStore p off l).mem = s.mem := by simp [Blk.aperStore]

@[simp] theorem Blk.remoteReq_mem (s : Blk) (p t : Nat) (kind : OpKind) (addr iaddr : Nat) (pkts : List StreamPkt) :
    (s.remoteReq p t kind addr iaddr pkts).mem = s.mem := by
  simp [Blk.remoteReq]

@[simp] theorem loadOp_mem_wf (i : Issue) (d : RegRef) (a : Nat) (imm : Word) (n : Nat) (kind : Nat → OpKind) (illegal : Bool) (s : Blk) (hwf : s.mem.wf = true) :
    (loadOp i d a imm n kind illegal s).mem.wf = true := by
  refine Blk.issue_mem_wf _ _ _ _ _ _ _ _ hwf (fun t ht => ?_)
  dsimp only
  split <;> simp [ht]

@[simp] theorem ldOp_mem_wf (i : Issue) (f : FmtI) (s : Blk) (hwf : s.mem.wf = true) : (ldOp i f s).mem.wf = true := by simp [ldOp, hwf]
@[simp] theorem vldOp_mem_wf (i : Issue) (f : FmtI) (s : Blk) (hwf : s.mem.wf = true) : (vldOp i f s).mem.wf = true := by simp [vldOp, hwf]

@[simp] theorem storeOp_mem_wf (i : Issue) (srcs : List RegRef) (a : Nat) (imm : Word) (n : Nat) (l : List Byte) (en : Nat → Bool) (illegal : Bool) (s : Blk)
    (hwf : s.mem.wf = true) : (storeOp i srcs a imm n l en illegal s).mem.wf = true := by
  unfold storeOp
  refine Blk.issue_mem_wf _ _ _ _ _ _ _ _ hwf (fun t ht => ?_)
  split
  · simp [ht]
  · split
    · extract_lets pk
      split <;> simp [ht]
    · rw [Blk.retire_mem]
      exact forL_mem_wf _ _ t ht (fun r u hu => by simp [hu])
  · rw [Blk.retire_mem]
    exact forL_mem_wf _ _ t ht (fun r u hu => by simp [hu])
  · exact ht

@[simp] theorem stOp_mem_wf (i : Issue) (f : FmtI) (s : Blk) (hwf : s.mem.wf = true) : (stOp i f s).mem.wf = true := by simp [stOp, hwf]
@[simp] theorem vstOp_mem_wf (i : Issue) (f : FmtI) (s : Blk) (hwf : s.mem.wf = true) : (vstOp i f s).mem.wf = true := by simp [vstOp, hwf]
@[simp] theorem Blk.addXfer_mem (s : Blk) (p : Nat) (mk : Nat → Xfer) : (s.addXfer p mk).mem = s.mem := by simp [Blk.addXfer]

@[simp] theorem ldbOp_mem_wf (i : Issue) (f : FmtI) (s : Blk) (hwf : s.mem.wf = true) : (ldbOp i f s).mem.wf = true := by
  refine Blk.issue_mem_wf _ _ _ _ _ _ _ _ hwf (fun t ht => ?_)
  dsimp only
  repeat' split
  all_goals simp [ht]

@[simp] theorem stbOp_mem_wf (i : Issue) (f : FmtI) (s : Blk) (hwf : s.mem.wf = true) : (stbOp i f s).mem.wf = true := by
  refine Blk.issue_mem_wf _ _ _ _ _ _ _ _ hwf (fun t ht => ?_)
  dsimp only
  repeat' split
  all_goals simp [ht]

@[simp] theorem accXferOp_mem_wf (save : Bool) (i : Issue) (f : FmtM) (s : Blk) (hwf : s.mem.wf = true) : (accXferOp save i f s).mem.wf = true := by
  refine Blk.issue_mem_wf _ _ _ _ _ _ _ _ hwf (fun t ht => ?_)
  split
  · simp [ht]
  · split <;> simp [ht]

@[simp] theorem Blk.dropXfer_mem (s : Blk) (p id : Nat) : (s.dropXfer p id).mem = s.mem := by simp [Blk.dropXfer]

@[simp] theorem Blk.ldbFinish_mem_wf (s : Blk) (p : Nat) (x : Xfer) (tile : Nat) (l : List Byte) (chk : BitVec 32) (ue : Bool) (hwf : s.mem.wf = true) :
    (s.ldbFinish p x tile l chk ue).mem.wf = true := by
  unfold Blk.ldbFinish
  dsimp only
  repeat' split
  all_goals simp [hwf]

@[simp] theorem Blk.readBlock_mem_wf (s : Blk) (a : Nat) (hw : HwErr) (hwf : s.mem.wf = true) : (s.readBlock a hw).1.mem.wf = true := by
  simp +contextual [Blk.readBlock, hwf]

@[simp] theorem Blk.stbDone_mem_wf (s : Blk) (p : Nat) (x : Xfer) (tile len : Nat) (hw : HwErr) (hwf : s.mem.wf = true) :
    (s.stbDone p x tile len hw).mem.wf = true := by
  simp +contextual [Blk.stbDone, hwf]

@[simp] theorem Blk.arstPut_mem_wf (s : Blk) (p : Nat) (x : Xfer) (acc : Nat) (l : List Byte) (hwf : s.mem.wf = true) :
    (s.arstPut p x acc l).mem.wf = true := by
  unfold Blk.arstPut
  dsimp only
  split <;> simp [hwf]

@[simp] theorem Blk.arstDone_mem_wf (s : Blk) (p : Nat) (x : Xfer) (acc : Nat) (hw : HwErr) (hwf : s.mem.wf = true) :
    (s.arstDone p x acc hw).mem.wf = true := by
  have hr : ((s.dropXfer p x.id).hwRead hw x.dpa).mem.wf = true := by simp [hwf]
  unfold Blk.arstDone
  dsimp only
  split <;> simp [hr]

@[simp] theorem Blk.modXfer_mem (s : Blk) (p id : Nat) (f : Xfer → Xfer) : (s.modXfer p id f).mem = s.mem := by simp [Blk.modXfer]

@[simp] theorem Blk.putRemote_mem_wf (s : Blk) (p : Nat) (x : Xfer) (hwf : s.mem.wf = true) : (s.putRemote p x).mem.wf = true := by
  simp +contextual [Blk.putRemote, hwf]

@[simp] theorem Blk.arstRemote_mem_wf (s : Blk) (p : Nat) (x : Xfer) (acc : Nat) (hwf : s.mem.wf = true) : (s.arstRemote p x acc).mem.wf = true := by
  simp [Blk.arstRemote, hwf]

@[simp] theorem transferDoneOp_mem_wf (pos : Pos) (slot : BitVec 2) (hw : HwErr) (s : Blk) (hwf : s.mem.wf = true) :
    (transferDoneOp pos slot hw s).mem.wf = true := by
  unfold transferDoneOp
  dsimp only
  repeat' split
  all_goals simp [hwf]

/-! ## The matrix unit -/

@[simp] theorem Blk.enqueueMx_mem (s : Blk) (p t : Nat) (kind : MqKind) (f : FmtM) : (s.enqueueMx p t kind f).mem = s.mem := by simp [Blk.enqueueMx]

@[simp] theorem mxmOp_mem_wf (i : Issue) (f : FmtM) (s : Blk) (hwf : s.mem.wf = true) : (mxmOp i f s).mem.wf = true := by
  refine Blk.issue_mem_wf _ _ _ _ _ _ _ _ hwf (fun t ht => ?_)
  split <;> simp [ht]

@[simp] theorem mxawOp_mem_wf (i : Issue) (f : FmtM) (s : Blk) (hwf : s.mem.wf = true) : (mxawOp i f s).mem.wf = true :=
  Blk.issue_mem_wf _ _ _ _ _ _ _ _ hwf (fun t ht => by simp [ht])

@[simp] theorem mxmsOp_mem_wf (i : Issue) (f : FmtM) (s : Blk) (hwf : s.mem.wf = true) : (mxmsOp i f s).mem.wf = true := by
  refine Blk.issue_mem_wf _ _ _ _ _ _ _ _ hwf (fun t ht => ?_)
  dsimp only
  repeat' split
  all_goals simp [ht]

@[simp] theorem mxmrOp_mem_wf (i : Issue) (f : FmtM) (s : Blk) (hwf : s.mem.wf = true) : (mxmrOp i f s).mem.wf = true := by
  refine Blk.issue_mem_wf _ _ _ _ _ _ _ _ hwf (fun t ht => ?_)
  dsimp only
  repeat' split
  all_goals simp [ht]

@[simp] theorem mxstOp_mem_wf (i : Issue) (f : FmtM) (s : Blk) (hwf : s.mem.wf = true) : (mxstOp i f s).mem.wf = true := by
  refine Blk.issue_mem_wf _ _ _ _ _ _ _ _ hwf (fun t ht => ?_)
  dsimp only
  repeat' split
  all_goals simp [ht]

@[simp] theorem aclrOp_mem_wf (i : Issue) (f : FmtM) (s : Blk) (hwf : s.mem.wf = true) : (aclrOp i f s).mem.wf = true :=
  Blk.issue_mem_wf _ _ _ _ _ _ _ _ hwf (fun t ht => by simp [ht])

@[simp] theorem astatOp_mem_wf (i : Issue) (f : FmtM) (s : Blk) (hwf : s.mem.wf = true) : (astatOp i f s).mem.wf = true :=
  Blk.issue_mem_wf _ _ _ _ _ _ _ _ hwf (fun t ht => by simp [ht])

@[simp] theorem mallocOp_mem_wf (i : Issue) (f : FmtM) (s : Blk) (hwf : s.mem.wf = true) : (mallocOp i f s).mem.wf = true :=
  Blk.issue_mem_wf _ _ _ _ _ _ _ _ hwf (fun t ht => by simp [ht])

@[simp] theorem mfreeOp_mem_wf (i : Issue) (f : FmtM) (s : Blk) (hwf : s.mem.wf = true) : (mfreeOp i f s).mem.wf = true :=
  Blk.issue_mem_wf _ _ _ _ _ _ _ _ hwf (fun t ht => by simp [ht])

@[simp] theorem Blk.readTd_mem_wf (s : Blk) (p : Nat) (e : MqEntry) (hw : HwErr) (hwf : s.mem.wf = true) : (s.readTd p e hw).1.mem.wf = true := by
  unfold Blk.readTd
  dsimp only
  repeat' split
  all_goals simp [hwf]

@[simp] theorem Blk.popMq_mem (s : Blk) (p : Nat) : (s.popMq p).mem = s.mem := by simp [Blk.popMq]

@[simp] theorem Blk.mqFault_mem_wf (s : Blk) (p : Nat) (e : MqEntry) (c : Cause) (addr : Nat) (d : Option Nat) (res : Bool) (hwf : s.mem.wf = true) :
    (s.mqFault p e c addr d res).mem.wf = true := by
  unfold Blk.mqFault
  split <;> simp [hwf]

@[simp] theorem matrixOpDoneOp_mem_wf (pos : Pos) (hw : HwErr) (s : Blk) (hwf : s.mem.wf = true) : (matrixOpDoneOp pos hw s).mem.wf = true := by
  unfold matrixOpDoneOp
  extract_lets p c
  split
  · exact hwf
  · split
    · exact hwf
    · split
      · simp [hwf]
      · extract_lets put
        have hput (a : Acc) (t : Blk) : (put a t).mem = t.mem := Blk.modCore_mem _ _ _
        split
        · exact hwf
        · split <;> simp [hput, hwf]
        · split <;> simp [hput, hwf]
        · split
          · exact hwf
          · split
            · simp [hwf]
            · have hr := Blk.readTd_mem_wf s p
              split <;> rename_i heq <;> simp [hput, Blk.mem_wf_of_fst_eq heq (hr _ _ hwf)]

@[simp] theorem Blk.readFlags_mem (s : Blk) (p acc : Nat) (o : TileOut) : (s.readFlags p acc o).mem = s.mem := by simp [Blk.readFlags]

@[simp] theorem Blk.mxstWrite_mem_wf (s : Blk) (p : Nat) (e : MqEntry) (d : TDesc) (o : TileOut) (hwf : s.mem.wf = true) :
    (s.mxstWrite p e d o).mem.wf = true := by
  simp [Blk.mxstWrite, hwf]

@[simp] theorem readoutDoneOp_mem_wf (pos : Pos) (hw : HwErr) (s : Blk) (hwf : s.mem.wf = true) : (readoutDoneOp pos hw s).mem.wf = true := by
  unfold readoutDoneOp
  extract_lets p c
  split
  · exact hwf
  · extract_lets go rd dests ctx a
    have hrd : rd.1.mem.wf = true := by
      unfold rd
      split <;> simp [hwf]
    clear_value rd
    split
    · exact hwf
    · split
      · simp [hwf]
      · obtain ⟨s1, ⟨x, d⟩ | ⟨l, d⟩⟩ := rd
        · simp [hrd]
        · dsimp only at hrd ⊢
          split
          · simp [hrd]
          · split
            · simp [hrd]
            · split
              · exact hwf
              · exact forL_mem_wf _ _ _ (by simpa using hrd) (fun k u hu => by simpa using hu)
          · split <;> simp [hrd]
          · exact hwf

@[simp] theorem mxmsDeliveredOp_mem (pos : Pos) (s : Blk) : (mxmsDeliveredOp pos s).mem = s.mem := by simp [mxmsDeliveredOp]

/-! ## SEND and MBRD -/

@[simp] theorem sendOp_mem_wf (i : Issue) (f : FmtC) (s : Blk) (hwf : s.mem.wf = true) : (sendOp i f s).mem.wf = true :=
  Blk.issue_mem_wf _ _ _ _ _ _ _ _ hwf (fun t ht => by simp [ht])

@[simp] theorem mbrdOp_mem_wf (i : Issue) (f : FmtC) (s : Blk) (hwf : s.mem.wf = true) : (mbrdOp i f s).mem.wf = true :=
  Blk.issue_mem_wf _ _ _ _ _ _ _ _ hwf (fun t ht => by simp [ht])

@[simp] theorem mbrdDrainOp_mem_wf (i : Issue) (f : FmtC) (s : Blk) (hwf : s.mem.wf = true) : (mbrdDrainOp i f s).mem.wf = true := by
  simp +contextual [mbrdDrainOp, hwf]

@[simp] theorem sendAcceptedOp_mem (pos : Pos) (tid : BitVec 4) (s : Blk) : (sendAcceptedOp pos tid s).mem = s.mem := by simp [sendAcceptedOp]

/-! ## Atomics, locks, fences and commits -/

@[simp] theorem Blk.amo_mem_wf (s : Blk) (op : AmoOp) (a b d : Nat) (hwf : s.mem.wf = true) : (s.amo op a b d).2.mem.wf = true := by
  unfold Blk.amo
  split <;> simp [hwf]

@[simp] theorem Blk.putLock_mem_wf (s : Blk) (a old new : Nat) (hwf : s.mem.wf = true) : (s.putLock a old new).mem.wf = true := by
  simp [Blk.putLock, hwf]

@[simp] theorem Blk.addFence_mem (s : Blk) (p t : Nat) (waits : List Nat) (all : Bool) : (s.addFence p t waits all).mem = s.mem := by
  simp [Blk.addFence]

@[simp] theorem Blk.lockReturn_mem (s : Blk) (p t id d : Nat) (st : Status) (acq : Bool) : (s.lockReturn p t id d st acq).mem = s.mem := by
  simp [Blk.lockReturn]

@[simp] theorem Blk.probe_mem (s : Blk) (dpa w pos tid id : Nat) (wait : Bool) (pk : Option StreamPkt) :
    (s.probe dpa w pos tid id wait pk).mem = s.mem := by
  simp [Blk.probe]

@[simp] theorem Blk.lkacqLocal_mem_wf (s : Blk) (p t id d dpa : Nat) (wait : Bool) (live : Option Bool) (hwf : s.mem.wf = true) :
    (s.lkacqLocal p t id d dpa wait live).mem.wf = true := by
  unfold Blk.lkacqLocal
  dsimp only
  split <;> simp [hwf]

theorem wordOp_mem_wf (i : Issue) (f : FmtI) (srcs : List RegRef) (wr : Bool) (mOk : Nat → Bool) (useB useT : Bool) (op : AmoOp)
    (body : Blk → Nat → Nat → Blk) (s : Blk) (hwf : s.mem.wf = true) (h : ∀ t x a, t.mem.wf = true → (body t x a).mem.wf = true) :
    (wordOp i f srcs wr mOk useB useT op body s).mem.wf = true := by
  refine Blk.issue_mem_wf _ _ _ _ _ _ _ _ hwf (fun t ht => ?_)
  split
  · simp [ht]
  · rename_i x _
    have hr := Blk.hwRead_mem_wf t i.hw x ht
    split
    · simp [ht]
    · dsimp only
      split
      · simp [hr]
      · rw [Blk.retire_mem]
        exact h _ _ _ hr
  · simp [ht]

@[simp] theorem amoOp_mem_wf (op : AmoOp) (i : Issue) (f : FmtI) (s : Blk) (hwf : s.mem.wf = true) : (amoOp op i f s).mem.wf = true := by
  unfold amoOp
  exact wordOp_mem_wf _ _ _ _ _ _ _ _ _ _ hwf (fun t x a ht => by simp [ht])

@[simp] theorem lkacqOp_mem_wf (i : Issue) (f : FmtI) (s : Blk) (hwf : s.mem.wf = true) : (lkacqOp i f s).mem.wf = true := by
  unfold lkacqOp
  exact wordOp_mem_wf _ _ _ _ _ _ _ _ _ _ hwf (fun t x a ht => by simp [ht])

@[simp] theorem lkrelOp_mem_wf (i : Issue) (f : FmtI) (s : Blk) (hwf : s.mem.wf = true) : (lkrelOp i f s).mem.wf = true := by
  unfold lkrelOp
  exact wordOp_mem_wf _ _ _ _ _ _ _ _ _ _ hwf (fun t x a ht => by simp [ht])

@[simp] theorem fenceOp_mem_wf (i : Issue) (f : FmtI) (s : Blk) (hwf : s.mem.wf = true) : (fenceOp i f s).mem.wf = true := by
  refine Blk.issue_mem_wf _ _ _ _ _ _ _ _ hwf (fun t ht => ?_)
  dsimp only
  split <;> simp [ht]

@[simp] theorem waitbOp_mem_wf (i : Issue) (f : FmtI) (s : Blk) (hwf : s.mem.wf = true) : (waitbOp i f s).mem.wf = true :=
  Blk.issue_mem_wf _ _ _ _ _ _ _ _ hwf (fun t ht => by simp [ht])

@[simp] theorem commitOp_mem_wf (i : Issue) (f : FmtI) (s : Blk) (hwf : s.mem.wf = true) : (commitOp i f s).mem.wf = true :=
  Blk.issue_mem_wf _ _ _ _ _ _ _ _ hwf (fun t ht => by simp [ht])

@[simp] theorem threadCommitOp_mem_wf (pos : Pos) (tid : BitVec 4) (s : Blk) (hwf : s.mem.wf = true) : (threadCommitOp pos tid s).mem.wf = true := by
  simp [threadCommitOp, hwf]

@[simp] theorem lockReevaluateOp_mem_wf (pos : Pos) (tid : BitVec 4) (hw : HwErr) (s : Blk) (hwf : s.mem.wf = true) :
    (lockReevaluateOp pos tid hw s).mem.wf = true := by
  unfold lockReevaluateOp
  dsimp only
  split
  · exact hwf
  · split
    · rename_i d dpa _ _ _
      split
      · split <;> simp [hwf]
      · have hr := Blk.hwRead_mem_wf s hw dpa hwf
        split
        · simp [Blk.readCheck_mem_wf, hr]
        · split
          · exact hwf
          · simp [hr]
    · exact hwf

/-! ## Arrivals of stream packets and link ends -/

@[simp] theorem Blk.checkIn_mem (s : Blk) (p : StreamPkt) : (s.checkIn p).1.mem = s.mem := by
  unfold Blk.checkIn
  repeat' split
  all_goals simp

@[simp] theorem Blk.engineMsg_mem (s : Blk) (p : StreamPkt) : (s.engineMsg p).mem = s.mem := by simp [Blk.engineMsg]

theorem arrive_mem (p : StreamPkt) (f : Blk → Blk) (s : Blk) (h : ∀ t, (f t).mem = t.mem) : (arrive p f s).mem = s.mem := by
  unfold arrive
  dsimp only
  split
  · simp
  · split <;> simp [h]

theorem arrive_mem_wf (p : StreamPkt) (f : Blk → Blk) (s : Blk) (hwf : s.mem.wf = true) (h : ∀ t, t.mem.wf = true → (f t).mem.wf = true) :
    (arrive p f s).mem.wf = true := by
  unfold arrive
  dsimp only
  split
  · simpa using hwf
  · split
    · simpa using hwf
    · exact h _ (by simpa using hwf)

@[simp] theorem rdArrive_mem_wf (p : StreamPkt) (hw : HwErr) (s : Blk) (hwf : s.mem.wf = true) : (rdArrive p hw s).mem.wf = true :=
  arrive_mem_wf _ _ _ hwf (fun t ht => by simp [ht])

@[simp] theorem wrArrive_mem_wf (p : StreamPkt) (s : Blk) (hwf : s.mem.wf = true) : (wrArrive p s).mem.wf = true := by
  refine arrive_mem_wf _ _ _ hwf (fun t ht => ?_)
  split
  · simp [ht]
  · rw [Blk.inject_mem]
    exact forL_mem_wf _ _ t ht (fun r u hu => by simp [hu])

@[simp] theorem Blk.lkacqRemote_mem_wf (s : Blk) (p : StreamPkt) (dpa : Nat) (wait : Bool) (live : Option Bool) (hwf : s.mem.wf = true) :
    (s.lkacqRemote p dpa wait live).mem.wf = true := by
  unfold Blk.lkacqRemote
  dsimp only
  split <;> simp [hwf]

@[simp] theorem amoArrive_mem_wf (p : StreamPkt) (hw : HwErr) (s : Blk) (hwf : s.mem.wf = true) : (amoArrive p hw s).mem.wf = true := by
  refine arrive_mem_wf _ _ _ hwf (fun t ht => ?_)
  dsimp only
  repeat' split
  all_goals simp [ht]

@[simp] theorem rdblkArrive_mem_wf (p : StreamPkt) (hw : HwErr) (s : Blk) (hwf : s.mem.wf = true) : (rdblkArrive p hw s).mem.wf = true :=
  arrive_mem_wf _ _ _ hwf (fun t ht => by simp [ht])

@[simp] theorem Blk.sendNote_mem (s : Blk) (p : StreamPkt) : (s.sendNote p).mem = s.mem := by
  unfold Blk.sendNote
  split <;> simp

@[simp] theorem dataArrive_mem_wf (p : StreamPkt) (s : Blk) (hwf : s.mem.wf = true) : (dataArrive p s).mem.wf = true :=
  arrive_mem_wf _ _ _ hwf (fun t ht => by simp [ht])

@[simp] theorem wblkArrive_mem_wf (p : StreamPkt) (s : Blk) (hwf : s.mem.wf = true) : (wblkArrive p s).mem.wf = true := by
  refine arrive_mem_wf _ _ _ hwf (fun t ht => ?_)
  split
  · simp [ht]
  · split
    · rename_i hs
      simp [Blk.memWriteChecked_mem_wf hs ht]
    · simp [ht]

@[simp] theorem Blk.discardRsp_mem (s : Blk) : s.discardRsp.mem = s.mem := by simp [Blk.discardRsp]

@[simp] theorem Blk.echo_mem (s : Blk) (rec : ReqRec) (p : StreamPkt) : (s.echo rec p).mem = s.mem := by
  unfold Blk.echo
  split <;> simp

@[simp] theorem Blk.opAnswered_mem_wf (s : Blk) (src t id status : Nat) (l : List Byte) (hwf : s.mem.wf = true) :
    (s.opAnswered src t id status l).mem.wf = true := by
  unfold Blk.opAnswered
  repeat' split
  all_goals simp [hwf]

@[simp] theorem answerArrive_mem_wf (p : StreamPkt) (s : Blk) (hwf : s.mem.wf = true) : (answerArrive p s).mem.wf = true := by
  refine arrive_mem_wf _ _ _ hwf (fun t ht => ?_)
  dsimp only
  repeat' split
  all_goals simp [ht]

@[simp] theorem rblkArrive_mem (p : StreamPkt) (s : Blk) : (rblkArrive p s).mem = s.mem := by
  refine arrive_mem _ _ _ (fun t => ?_)
  dsimp only
  repeat' split
  all_goals simp

@[simp] theorem mbxArrive_mem (p : StreamPkt) (s : Blk) : (mbxArrive p s).mem = s.mem :=
  arrive_mem _ _ _ (fun t => by simp)

@[simp] theorem noteArrive_mem (p : StreamPkt) (s : Blk) : (noteArrive p s).mem = s.mem :=
  arrive_mem _ _ _ (fun t => by simp)

@[simp] theorem ctrlArrive_mem (p : StreamPkt) (s : Blk) : (ctrlArrive p s).mem = s.mem := by
  unfold ctrlArrive
  split
  · simp
  · exact arrive_mem _ _ _ (fun t => rfl)

@[simp] theorem lkprobeArrive_mem (p : StreamPkt) (s : Blk) : (lkprobeArrive p s).mem = s.mem :=
  arrive_mem _ _ _ (fun t => by simp)

@[simp] theorem lkreplyArrive_mem_wf (p : StreamPkt) (s : Blk) (hwf : s.mem.wf = true) : (lkreplyArrive p s).mem.wf = true := by
  refine arrive_mem_wf _ _ _ hwf (fun t ht => ?_)
  dsimp only
  repeat' split
  all_goals simp [ht]

@[simp] theorem Blk.linkErr_mem (s : Blk) (e : Nat) (retry : Bool) : (s.linkErr e retry).mem = s.mem := by simp [Blk.linkErr]

@[simp] theorem Blk.linkTest_mem (s : Blk) (e : Nat) : (s.linkTest e).mem = s.mem :=
  forN_mem 64 _ _ (fun i t => by simp)

@[simp] theorem Blk.enterStream_mem (s : Blk) (e : Nat) : (s.enterStream e).mem = s.mem := by
  unfold Blk.enterStream
  rw [Blk.pump_mem]
  exact forL_mem _ _ _ (fun f t => by simp)

@[simp] theorem Blk.tryStream_mem (s : Blk) (e : Nat) : (s.tryStream e).mem = s.mem := by simp [Blk.tryStream]
@[simp] theorem Blk.toBasic_mem (s : Blk) (e : Nat) (test : Bool) : (s.toBasic e test).mem = s.mem := by simp [Blk.toBasic]
@[simp] theorem Blk.linkDown_mem (s : Blk) (e : Nat) : (s.linkDown e).mem = s.mem := by simp [Blk.linkDown]
@[simp] theorem Blk.testFailed_mem (s : Blk) (e : Nat) : (s.testFailed e).mem = s.mem := by simp [Blk.testFailed]

@[simp] theorem Blk.hopIn_mem (s : Blk) (e : Nat) (f : Flight) : (s.hopIn e f).mem = s.mem := by
  unfold Blk.hopIn
  split <;> simp

@[simp] theorem Blk.resendTo_mem (s : Blk) (e : Nat) : (s.resendTo e).mem = s.mem :=
  (forL_mem _ _ _ (fun f t => by simp)).trans (by simp)

@[simp] theorem linkPacketRxOp_mem (e : Nat) (l : List Byte) (crc : BitVec 32) (s : Blk) : (linkPacketRxOp e l crc s).mem = s.mem := by
  unfold linkPacketRxOp
  repeat' split
  all_goals simp

@[simp] theorem linkTrainedOp_mem (e : Nat) (s : Blk) : (linkTrainedOp e s).mem = s.mem := by simp [linkTrainedOp]
@[simp] theorem linkTestTimeoutOp_mem (e : Nat) (s : Blk) : (linkTestTimeoutOp e s).mem = s.mem := by simp [linkTestTimeoutOp]
@[simp] theorem ltestOp_mem (e : Nat) (p : BasicPkt) (s : Blk) : (ltestOp e p s).mem = s.mem := by simp [ltestOp]
@[simp] theorem ltestEndOp_mem (e : Nat) (p : BasicPkt) (s : Blk) : (ltestEndOp e p s).mem = s.mem := by simp [ltestEndOp]
@[simp] theorem recoverOp_mem (e : Nat) (s : Blk) : (recoverOp e s).mem = s.mem := by simp [recoverOp]

@[simp] theorem ctrlmsgOp_mem (e : Nat) (p : BasicPkt) (s : Blk) : (ctrlmsgOp e p s).mem = s.mem := by
  unfold ctrlmsgOp
  split
  · simp
  · split <;> simp

@[simp] theorem streamEnWriteOp_mem (v : BitVec 32) (s : Blk) : (streamEnWriteOp v s).mem = s.mem := by simp [streamEnWriteOp]
@[simp] theorem rlPeriodUpdateOp_mem (s : Blk) : (rlPeriodUpdateOp s).mem = s.mem := by simp [rlPeriodUpdateOp]

@[simp] theorem qdepthSampleOp_mem (hub : Bool) (port : Nat) (stall : Nat) (s : Blk) : (qdepthSampleOp hub port stall s).mem = s.mem := by
  simp [qdepthSampleOp]

@[simp] theorem devIdWriteOp_mem (v : BitVec 32) (s : Blk) : (devIdWriteOp v s).mem = s.mem := by simp [devIdWriteOp]

/-! ## The sender of Fyrrarel Transport -/

@[simp] theorem Blk.ftSpend_mem (s : Blk) (c n : Nat) : (s.ftSpend c n).mem = s.mem := by simp [Blk.ftSpend]

@[simp] theorem Blk.sendPkt_mem_wf (s : Blk) (c : Nat) (ftid : Option Nat) (resp : Nat) (p : PktSpec) (t : TxState) (lose : Bool) (hwf : s.mem.wf = true) :
    (s.sendPkt c ftid resp p t lose).1.mem.wf = true := by
  unfold Blk.sendPkt
  dsimp only
  repeat' split
  all_goals simp +contextual [hwf]

@[simp] theorem Blk.mkPacket_mem_wf (s : Blk) (r : WReq) (k : Nat) (hwf : s.mem.wf = true) : (s.mkPacket r k).1.mem.wf = true := by
  unfold Blk.mkPacket
  dsimp only
  repeat' split
  all_goals simp [hwf]

@[simp] theorem Blk.putTx_mem (s : Blk) (q idx : Nat) (t : TxState) : (s.putTx q idx t).mem = s.mem := by
  unfold Blk.putTx
  split <;> simp

theorem Blk.withSource_mem (s : Blk) (r : WReq) (k : Nat) (f : Blk → Blk) (h : ∀ t, (f t).mem = t.mem) : (s.withSource r k f).mem = s.mem := by
  unfold Blk.withSource
  dsimp only
  split <;> simp [h]

theorem Blk.withSource_mem_wf (s : Blk) (r : WReq) (k : Nat) (f : Blk → Blk) (hwf : s.mem.wf = true)
    (h : ∀ t, t.mem.wf = true → (f t).mem.wf = true) : (s.withSource r k f).mem.wf = true := by
  unfold Blk.withSource
  dsimp only
  split
  · exact h _ (by simpa using hwf)
  · simpa using hwf

@[simp] theorem Blk.txPacket_mem_wf (s : Blk) (r : WReq) (lose : Bool) (hwf : s.mem.wf = true) : (s.txPacket r lose).mem.wf = true := by
  refine Blk.withSource_mem_wf _ _ _ _ ?_ (fun u hu => ?_)
  · split <;> simp [hwf]
  · rw [Blk.putTx_mem]
    exact Blk.sendPkt_mem_wf _ _ _ _ _ _ _ (by simp [hu])

@[simp] theorem Blk.queueOut_mem (s : Blk) (c : Nat) (l : List OutPkt) : (s.queueOut c l).mem = s.mem := by simp [Blk.queueOut]
@[simp] theorem Blk.resendPkts_mem (s : Blk) (r : WReq) (ks : List Nat) : (s.resendPkts r ks).mem = s.mem := by simp [Blk.resendPkts]
@[simp] theorem Blk.sendResp_mem (s : Blk) (c : Nat) (e : RCache) : (s.sendResp c e).mem = s.mem := by simp [Blk.sendResp]

@[simp] theorem Blk.txOut_mem_wf (s : Blk) (c : Nat) (o : OutPkt) (lose : Bool) (hwf : s.mem.wf = true) : (s.txOut c o lose).mem.wf = true := by
  unfold Blk.txOut
  split
  · split
    · exact hwf
    · refine Blk.withSource_mem_wf _ _ _ _ hwf (fun u hu => ?_)
      rw [Blk.putTx_mem]
      exact Blk.sendPkt_mem_wf _ _ _ _ _ _ _ (by simp [hu])
  · split
    · exact hwf
    · split
      · exact hwf
      · simp [hwf]

@[simp] theorem Blk.resendDsn_mem (s : Blk) (c d : Nat) : (s.resendDsn c d).mem = s.mem := by
  unfold Blk.resendDsn
  split <;> simp

@[simp] theorem Blk.resendDsns_mem (s : Blk) (c : Nat) (ds : List Nat) : (s.resendDsns c ds).mem = s.mem := by simp [Blk.resendDsns]

@[simp] theorem ftRtoExpiryOp_mem_wf (c : Nat) (s : Blk) (hwf : s.mem.wf = true) : (ftRtoExpiryOp c s).mem.wf = true := by
  unfold ftRtoExpiryOp
  split <;> simp [hwf]

@[simp] theorem ftRnrDelayExpiryOp_mem (c : Nat) (s : Blk) : (ftRnrDelayExpiryOp c s).mem = s.mem := by
  unfold ftRnrDelayExpiryOp
  dsimp only
  split <;> simp

@[simp] theorem Blk.txServe_mem_wf (s : Blk) (c : Nat) (lose : Bool) (hwf : s.mem.wf = true) : (s.txServe c lose).mem.wf = true := by
  unfold Blk.txServe
  split
  · simp [hwf]
  · split <;> simp [hwf]

@[simp] theorem Blk.fetchCtx_mem (s : Blk) (c : Nat) : (s.fetchCtx c).mem = s.mem := by simp [Blk.fetchCtx]

@[simp] theorem ftTxSliceOp_mem_wf (lose : Bool) (s : Blk) (hwf : s.mem.wf = true) : (ftTxSliceOp lose s).mem.wf = true := by
  unfold ftTxSliceOp
  dsimp only
  split
  · simp [hwf]
  · split <;> simp [hwf]

@[simp] theorem Blk.sendAck_mem_wf (s : Blk) (c syn ndsn : Nat) (hwf : s.mem.wf = true) : (s.sendAck c syn ndsn).mem.wf = true := by
  simp [Blk.sendAck, hwf]

@[simp] theorem ftAckDelayExpiryOp_mem_wf (c : Nat) (s : Blk) (hwf : s.mem.wf = true) : (ftAckDelayExpiryOp c s).mem.wf = true := by
  simp [ftAckDelayExpiryOp, hwf]

@[simp] theorem ftCtxFetchDoneOp_mem (c evict : Nat) (s : Blk) : (ftCtxFetchDoneOp c evict s).mem = s.mem := by simp [ftCtxFetchDoneOp]

@[simp] theorem ftArmedFireOp_mem (q idx : Nat) (s : Blk) : (ftArmedFireOp q idx s).mem = s.mem := by
  unfold ftArmedFireOp
  split <;> simp

@[simp] theorem Blk.connPeriod_mem (s : Blk) (c : Nat) : (s.connPeriod c).mem = s.mem := by simp [Blk.connPeriod]

@[simp] theorem rlPeriodOp_mem (conn : Option Nat) (s : Blk) : (rlPeriodOp conn s).mem = s.mem := by
  unfold rlPeriodOp
  split <;> simp

/-! ## The receiver of Fyrrarel Transport -/

@[simp] theorem Blk.rxTake_mem (s : Blk) (l i : Nat) (tc : Nat) : (s.rxTake l i tc).mem = s.mem := by simp [Blk.rxTake]
@[simp] theorem Blk.dropTx_mem (s : Blk) (c : Nat) (h : HeldPkt) : (s.dropTx c h).mem = s.mem := by simp [Blk.dropTx]

theorem Blk.ftServe_mem_wf (s : Blk) (l : Nat) (hw : FtHw) (want : FtRx → Bool) (k : Nat → FtRx → Blk → Blk) (hwf : s.mem.wf = true)
    (h : ∀ c f t, t.mem.wf = true → (k c f t).mem.wf = true) : (s.ftServe l hw want k).mem.wf = true := by
  unfold Blk.ftServe
  dsimp only
  split
  · exact hwf
  · split
    · exact hwf
    · split
      · simpa using hwf
      · split
        · simpa using hwf
        · split
          · simpa using hwf
          · split
            · simpa using hwf
            · split
              · simpa using hwf
              · rw [Blk.settleWins_mem]
                exact h _ _ _ (by simpa using hwf)

@[simp] theorem Blk.dropSeq_mem (s : Blk) : s.dropSeq.mem = s.mem := by simp [Blk.dropSeq]
@[simp] theorem Blk.authFail_mem (s : Blk) (c : Nat) : (s.authFail c).mem = s.mem := by simp [Blk.authFail]

@[simp] theorem Blk.fatalNak_mem_wf (s : Blk) (c syn dsn : Nat) (hwf : s.mem.wf = true) : (s.fatalNak c syn dsn).mem.wf = true := by
  simp [Blk.fatalNak, hwf]

@[simp] theorem Blk.softNak_mem_wf (s : Blk) (c syn : Nat) (h : HeldPkt) (hwf : s.mem.wf = true) : (s.softNak c syn h).mem.wf = true := by
  simp [Blk.softNak, hwf]

@[simp] theorem Blk.advance_mem_wf (s : Blk) (c : Nat) (h : HeldPkt) (hwf : s.mem.wf = true) : (s.advance c h).mem.wf = true := by
  simp [Blk.advance, hwf]

theorem Blk.putPayload_mem_wf {s t : Blk} {pieces : List (Nat × Nat)} {l : List Byte} {blk : Bool} {check : Nat} {p : Bool}
    (ht : s.putPayload pieces l blk check = some (t, p)) (hwf : s.mem.wf = true) : t.mem.wf = true := by
  have hp : (forL pieces (fun p t => t.poisonDpa p.1) s).mem.wf = true := forL_mem_wf _ _ _ hwf (fun p t h => by simp [h])
  unfold Blk.putPayload at ht
  dsimp only at ht
  split at ht
  · split at ht <;> cases ht <;> simp [hp, hwf]
  · split at ht
    · obtain ⟨u, hu, he⟩ := Option.map_eq_some_iff.mp ht
      cases he
      exact Blk.memWriteChecked_mem_wf hu hwf
    · split at ht
      · cases ht
        exact hp
      · split at ht <;> cases ht
        simp [hwf]

@[simp] theorem Blk.endMsg_mem (s : Blk) (c : Nat) (m : RxMsg) (h : HeldPkt) : (s.endMsg c m h).mem = s.mem := by
  unfold Blk.endMsg
  dsimp only
  split <;> simp

@[simp] theorem Blk.takeEntry_mem (s : Blk) (m : RxMsg) : (s.takeEntry m).mem = s.mem := by
  unfold Blk.takeEntry
  split <;> simp

@[simp] theorem Blk.placeMsg_mem_wf (s : Blk) (c : Nat) (h : HeldPkt) (m : RxMsg) (hwf : s.mem.wf = true) : (s.placeMsg c h m).mem.wf = true := by
  unfold Blk.placeMsg
  dsimp only
  split
  · simp [hwf]
  · split
    · simp [hwf]
    · split
      · simp [hwf]
      · split
        · simp [hwf]
        · rename_i t _ hp
          have ht := Blk.putPayload_mem_wf hp (by simpa using hwf)
          apply Blk.advance_mem_wf
          split <;> simp [ht]

@[simp] theorem Blk.placeData_mem_wf (s : Blk) (c : Nat) (h : HeldPkt) (hwf : s.mem.wf = true) : (s.placeData c h).mem.wf = true := by
  unfold Blk.placeData
  dsimp only
  repeat' split
  all_goals simp [hwf]

@[simp] theorem Blk.doRead_mem_wf (s : Blk) (c : Nat) (h : HeldPkt) (hwf : s.mem.wf = true) : (s.doRead c h).mem.wf = true := by
  unfold Blk.doRead
  dsimp only
  split
  · simp [hwf]
  · split
    · simp [hwf]
    · split
      · simp [hwf]
      · split
        · simp [hwf]
        · split
          · simp [hwf]
          · rw [Blk.sendResp_mem]
            apply Blk.advance_mem_wf
            rw [Blk.modConn_mem]
            refine foldl_fst_mem_wf _ _ _ (by simpa using hwf) (fun b p hb => ?_)
            split
            · exact hb
            · exact Blk.readPieces_mem_wf _ _ hb

@[simp] theorem Blk.doAtomic_mem_wf (s : Blk) (c : Nat) (h : HeldPkt) (hwf : s.mem.wf = true) : (s.doAtomic c h).mem.wf = true := by
  unfold Blk.doAtomic
  extract_lets x cas
  split
  · simp [hwf]
  · split
    · simp [hwf]
    · split
      · simp [hwf]
      · split
        · rename_i a _ _
          extract_lets g
          have hg : g.1.mem.wf = true := by simp [g, hwf]
          split
          · simp [hwf]
          · split
            · exact hg
            · split <;> rename_i heq
              · rw [Blk.modConn_mem]
                exact Blk.mem_wf_of_snd_eq heq (Blk.amo_mem_wf _ _ _ _ _ hg)
              · have h1 := Blk.mem_wf_of_snd_eq heq (Blk.amo_mem_wf _ _ _ _ _ hg)
                extract_lets e
                simp [h1]
        · simp [hwf]

@[simp] theorem Blk.placeOne_mem_wf (s : Blk) (c : Nat) (h : HeldPkt) (hwf : s.mem.wf = true) : (s.placeOne c h).mem.wf = true := by
  simp [Blk.placeOne, hwf]

@[simp] theorem Blk.placeLoop_mem_wf (k : Nat) (s : Blk) (c : Nat) (hwf : s.mem.wf = true) : (Blk.placeLoop k s c).mem.wf = true := by
  induction k generalizing s with
  | zero => exact hwf
  | succ k ih =>
    unfold Blk.placeLoop
    dsimp only
    split
    · exact hwf
    · split
      · split
        · split
          · simp [hwf]
          · exact ih _ (by simp [hwf])
        · exact hwf
      · exact hwf

@[simp] theorem Blk.dupPkt_mem_wf (s : Blk) (c : Nat) (h : HeldPkt) (hwf : s.mem.wf = true) : (s.dupPkt c h).mem.wf = true := by
  unfold Blk.dupPkt
  dsimp only
  split
  · split <;> simp [hwf]
  · simp [hwf]

@[simp] theorem Blk.reorderFull_mem (s : Blk) : s.reorderFull.mem = s.mem := by simp [Blk.reorderFull]

@[simp] theorem Blk.reportGap_mem_wf (s : Blk) (c exp dsn : Nat) (hwf : s.mem.wf = true) : (s.reportGap c exp dsn).mem.wf = true := by
  simp [Blk.reportGap, hwf]

@[simp] theorem Blk.seqClear_mem_wf (s : Blk) (c : Nat) (h : HeldPkt) (hwf : s.mem.wf = true) : (s.seqClear c h).mem.wf = true := by
  unfold Blk.seqClear
  extract_lets x
  split
  · simp [hwf]
  · split
    · simp [hwf]
    · split <;> simp [hwf]

@[simp] theorem Blk.seqEnc_mem_wf (s : Blk) (c : Nat) (h : HeldPkt) (late : Bool) (hwf : s.mem.wf = true) : (s.seqEnc c h late).mem.wf = true := by
  unfold Blk.seqEnc
  dsimp only
  split
  · simp [hwf]
  · split
    · split <;> simp [hwf]
    · split
      · simp [hwf]
      · split
        · simp [hwf]
        · split
          · exact forL_mem_wf _ _ _ (by simpa using hwf) (fun p t ht => by simp [ht])
          · exact Blk.placeLoop_mem_wf _ _ _ (Blk.reportGap_mem_wf _ _ _ _ (by simpa using hwf))

@[simp] theorem Blk.countSeq_mem (s : Blk) (c : Nat) (marked : Bool) : (s.countSeq c marked).mem = s.mem := by simp [Blk.countSeq]

@[simp] theorem Blk.rxSeq_mem_wf (s : Blk) (l opc : Nat) (cm : Bool) (hw : FtHw) (hwf : s.mem.wf = true) : (s.rxSeq l opc cm hw).mem.wf = true := by
  refine Blk.ftServe_mem_wf _ _ _ _ _ hwf (fun c f t ht => ?_)
  dsimp only
  split
  · exact Blk.seqEnc_mem_wf _ _ _ _ (by simpa using ht)
  · split
    · simpa using ht
    · split <;> simp [ht]

@[simp] theorem Blk.placeResp_mem_wf (s : Blk) (c : Nat) (h : HeldPkt) (hwf : s.mem.wf = true) : (s.placeResp c h).mem.wf = true := by
  unfold Blk.placeResp
  dsimp only
  split
  · exact hwf
  · split
    · exact hwf
    · split
      · exact hwf
      · split
        · exact hwf
        · split
          · simpa using hwf
          · split
            · simpa using hwf
            · split
              · simpa using hwf
              · rename_i hp
                have ht := Blk.putPayload_mem_wf hp (by simpa using hwf)
                split <;> simp [ht]

@[simp] theorem readRespOp_mem_wf (l : Nat) (hw : FtHw) (s : Blk) (hwf : s.mem.wf = true) : (readRespOp l hw s).mem.wf = true := by
  unfold readRespOp
  refine Blk.ftServe_mem_wf _ _ _ _ _ hwf (fun c f t ht => ?_)
  extract_lets x h mine others mine1 moff h1 g t1
  have ht1 : t1.mem.wf = true := ht
  split
  · split
    · simpa using ht
    · split <;> simp [ht]
  · split
    · simpa using ht
    · split
      · split
        · simpa using ht
        · split
          · simpa using ht
          · exact ht1
      · split
        · simpa using ht
        · split
          · simpa using ht
          · exact forL_mem_wf _ _ _ (by simpa using ht) (fun p u hu => by simp [hu])

theorem Blk.rxSingle_mem_wf (t : Blk) (c : Nat) (f : FtRx) (k : HeldPkt → Blk → Blk) (hwf : t.mem.wf = true)
    (h : ∀ p u, u.mem.wf = true → (k p u).mem.wf = true) : (t.rxSingle c f k).mem.wf = true := by
  unfold Blk.rxSingle
  dsimp only
  split
  · split
    · simpa using hwf
    · split
      · simpa using hwf
      · exact h _ _ (by simpa using hwf)
  · split
    · simpa using hwf
    · split
      · simpa using hwf
      · split
        · exact h _ _ (by simpa using hwf)
        · simpa using hwf

@[simp] theorem Blk.placeOld_mem_wf (s : Blk) (c : Nat) (h : HeldPkt) (hwf : s.mem.wf = true) : (s.placeOld c h).mem.wf = true := by
  unfold Blk.placeOld
  dsimp only
  split
  · exact hwf
  · split
    · exact hwf
    · split
      · split
        · simpa using hwf
        · split <;> simp [hwf]
      · simp [hwf]

@[simp] theorem atomicRespOp_mem_wf (l : Nat) (hw : FtHw) (s : Blk) (hwf : s.mem.wf = true) : (atomicRespOp l hw s).mem.wf = true :=
  Blk.ftServe_mem_wf _ _ _ _ _ hwf (fun c f t ht => Blk.rxSingle_mem_wf _ _ _ _ ht (fun h u hu => by simp [hu]))

@[simp] theorem Blk.placeHeld_mem_wf (s : Blk) (hwf : s.mem.wf = true) : s.placeHeld.mem.wf = true := by
  have hr : ∀ (ready : List HeldPkt) (c : Nat) (t : Blk), t.mem.wf = true →
      (forL ready (fun h u => if h.opc = 7 then u.placeOld c h else u.placeResp c h) t).mem.wf = true :=
    fun ready c t ht => forL_mem_wf ready _ t ht (fun h u hu => by split <;> simp [hu])
  refine forL_mem_wf _ _ s hwf (fun e t ht => ?_)
  dsimp only
  split
  · rw [Blk.settleWins_mem]
    apply Blk.placeLoop_mem_wf
    split
    · exact ht
    · exact hr _ _ _ (by simpa using ht)
  · split
    · exact ht
    · exact hr _ _ _ (by simpa using ht)

@[simp] theorem Blk.takeAck_mem_wf (s : Blk) (c : Nat) (h : HeldPkt) (hwf : s.mem.wf = true) : (s.takeAck c h).mem.wf = true := by
  unfold Blk.takeAck
  extract_lets x cd adv ok sm flow x1 s1 done
  split
  · simpa using hwf
  · rw [Blk.connSettle_mem]
    exact forL_mem_wf _ _ _ hwf (fun r t ht => by simp [ht])

theorem Blk.rxAck_mem_wf (s : Blk) (l : Nat) (hw : FtHw) (want : Nat → Bool) (k : Nat → HeldPkt → Blk → Blk) (hwf : s.mem.wf = true)
    (h : ∀ c p u, u.mem.wf = true → (k c p u).mem.wf = true) : (s.rxAck l hw want k).mem.wf = true := by
  unfold Blk.rxAck
  refine Blk.ftServe_mem_wf _ _ _ _ _ hwf (fun c f t ht => ?_)
  refine Blk.rxSingle_mem_wf _ _ _ _ ht (fun p u hu => ?_)
  have hv := Blk.takeAck_mem_wf u c p hu
  suffices hok : Blk.memOk _ from hok
  exact Blk.memOk_ite _ (fun _ => h _ _ _ hv) (fun _ => hv)

@[simp] theorem ftAckOp_mem_wf (l : Nat) (hw : FtHw) (s : Blk) (hwf : s.mem.wf = true) : (ftAckOp l hw s).mem.wf = true := by
  unfold ftAckOp
  exact Blk.rxAck_mem_wf _ _ _ _ _ hwf (fun c p t ht => by simp [ht])

@[simp] theorem nakSeqOp_mem_wf (l : Nat) (hw : FtHw) (s : Blk) (hwf : s.mem.wf = true) : (nakSeqOp l hw s).mem.wf = true := by
  unfold nakSeqOp
  exact Blk.rxAck_mem_wf _ _ _ _ _ hwf (fun c p t ht => by simp [ht])

@[simp] theorem nakBusyOp_mem_wf (l : Nat) (hw : FtHw) (s : Blk) (hwf : s.mem.wf = true) : (nakBusyOp l hw s).mem.wf = true := by
  unfold nakBusyOp
  refine Blk.rxAck_mem_wf _ _ _ _ _ hwf (fun c h t ht => ?_)
  extract_lets x n lim
  split <;> simp [ht]

@[simp] theorem Blk.rxFatal_mem_wf (s : Blk) (l : Nat) (hw : FtHw) (want : Nat → Bool) (st : Status) (hwf : s.mem.wf = true) :
    (s.rxFatal l hw want st).mem.wf = true := by
  unfold Blk.rxFatal
  exact Blk.rxAck_mem_wf _ _ _ _ _ hwf (fun c p t ht => by simp [ht])

@[simp] theorem nakAccessOp_mem_wf (l : Nat) (hw : FtHw) (s : Blk) (hwf : s.mem.wf = true) : (nakAccessOp l hw s).mem.wf = true := by
  simp [nakAccessOp, hwf]

@[simp] theorem nakExpiredOp_mem_wf (l : Nat) (hw : FtHw) (s : Blk) (hwf : s.mem.wf = true) : (nakExpiredOp l hw s).mem.wf = true := by
  simp [nakExpiredOp, hwf]

@[simp] theorem nakInvalidOp_mem_wf (l : Nat) (hw : FtHw) (s : Blk) (hwf : s.mem.wf = true) : (nakInvalidOp l hw s).mem.wf = true := by
  simp [nakInvalidOp, hwf]

@[simp] theorem nakCheckOp_mem_wf (l : Nat) (hw : FtHw) (s : Blk) (hwf : s.mem.wf = true) : (nakCheckOp l hw s).mem.wf = true := by
  unfold nakCheckOp
  refine Blk.rxAck_mem_wf _ _ _ _ _ hwf (fun c h t ht => ?_)
  split <;> simp [ht]

@[simp] theorem ftSendPacketOp_mem_wf (l : Nat) (cm : Bool) (hw : FtHw) (s : Blk) (hwf : s.mem.wf = true) :
    (ftSendPacketOp l cm hw s).mem.wf = true := by
  simp [ftSendPacketOp, hwf]

@[simp] theorem ftWriteOp_mem_wf (l : Nat) (cm : Bool) (hw : FtHw) (s : Blk) (hwf : s.mem.wf = true) : (ftWriteOp l cm hw s).mem.wf = true := by
  simp [ftWriteOp, hwf]

@[simp] theorem ftWriteImmOp_mem_wf (l : Nat) (cm : Bool) (hw : FtHw) (s : Blk) (hwf : s.mem.wf = true) : (ftWriteImmOp l cm hw s).mem.wf = true := by
  simp [ftWriteImmOp, hwf]

@[simp] theorem readReqOp_mem_wf (l : Nat) (cm : Bool) (hw : FtHw) (s : Blk) (hwf : s.mem.wf = true) : (readReqOp l cm hw s).mem.wf = true := by
  simp [readReqOp, hwf]

@[simp] theorem ftAtomicOp_mem_wf (l : Nat) (cm : Bool) (hw : FtHw) (s : Blk) (hwf : s.mem.wf = true) : (ftAtomicOp l cm hw s).mem.wf = true := by
  simp [ftAtomicOp, hwf]

/-! ## The commands of Fyrrarel Transport -/

@[simp] theorem ftConnAllocOp_mem (n : Nat) (s : Blk) : (ftConnAllocOp n s).mem = s.mem :=
  Blk.withCmd_mem _ _ _ (fun c p t ht => by simp [ht])

@[simp] theorem ftConnConnectOp_mem (s : Blk) : (ftConnConnectOp s).mem = s.mem := by
  unfold ftConnConnectOp
  exact Blk.withCmd_mem _ _ _ (fun c p t ht => by simpa using ht)

@[simp] theorem ftConnCloseOp_mem (s : Blk) : (ftConnCloseOp s).mem = s.mem := by
  refine Blk.withCmd_mem _ _ _ (fun c p t ht => ?_)
  dsimp only
  repeat' split
  all_goals simp [ht]

@[simp] theorem ftConnResetOp_mem (s : Blk) : (ftConnResetOp s).mem = s.mem := by
  unfold ftConnResetOp
  exact Blk.withCmd_mem _ _ _ (fun c p t ht => by simpa using ht)

@[simp] theorem ftDrainTimeoutOp_mem_wf (n : Nat) (s : Blk) (hwf : s.mem.wf = true) : (ftDrainTimeoutOp n s).mem.wf = true := by
  simp [ftDrainTimeoutOp, hwf]

@[simp] theorem ftWinOpenOp_mem (n : Nat) (s : Blk) : (ftWinOpenOp n s).mem = s.mem :=
  Blk.withCmd_mem _ _ _ (fun c p t ht => by simp [ht])

@[simp] theorem ftWinRevokeOp_mem (s : Blk) : (ftWinRevokeOp s).mem = s.mem := by
  unfold ftWinRevokeOp
  exact Blk.withCmd_mem _ _ _ (fun c p t ht => by simpa using ht)

@[simp] theorem ftWinRevokeDoneOp_mem (n : Nat) (s : Blk) : (ftWinRevokeDoneOp n s).mem = s.mem := by
  unfold ftWinRevokeDoneOp
  dsimp only
  split <;> simp

@[simp] theorem Blk.sendEnds_mem (s : Blk) (q : Nat) (e : QEntry) (st : Status) : (s.sendEnds q e st).mem = s.mem := by
  unfold Blk.sendEnds
  split <;> simp

@[simp] theorem Blk.settleSq_mem (s : Blk) (q : Nat) : (s.settleSq q).mem = s.mem := by
  unfold Blk.settleSq
  split <;> simp

@[simp] theorem ftSendOp_mem (q : Nat) (s : Blk) : (ftSendOp q s).mem = s.mem := by
  unfold ftSendOp
  repeat' split
  all_goals simp

@[simp] theorem ftRecvOp_mem (q : Nat) (s : Blk) : (ftRecvOp q s).mem = s.mem := by
  unfold ftRecvOp
  split
  · simp
  · split <;> simp

@[simp] theorem ftCancelOp_mem_wf (ring : Option (List Byte)) (s : Blk) (hwf : s.mem.wf = true) : (ftCancelOp ring s).mem.wf = true := by
  refine Blk.withCmd_mem_wf _ _ _ hwf (fun c p t ht => ?_)
  dsimp only
  repeat' split
  all_goals simp [ht]

@[simp] theorem ftCntSetOp_mem (s : Blk) : (ftCntSetOp s).mem = s.mem := by
  unfold ftCntSetOp
  exact Blk.withCmd_mem _ _ _ (fun c p t ht => by simpa using ht)

@[simp] theorem Blk.resetFt_mem (s : Blk) (i : Nat) : (s.resetFt i).mem = s.mem := by simp [Blk.resetFt]

/-! ## The commands of collectives -/

@[simp] theorem Blk.clearBlocks_mem_wf (s : Blk) (l : List Nat) (hwf : s.mem.wf = true) : (s.clearBlocks l).mem.wf = true :=
  forL_mem_wf _ _ s hwf (fun _ _ ht => Mem.zeroise_wf _ _ _ ht)

@[simp] theorem collOpenOp_mem_wf (desc ptab : Option (List Byte)) (s : Blk) (hwf : s.mem.wf = true) : (collOpenOp desc ptab s).mem.wf = true := by
  refine Blk.withCmd_mem_wf _ _ _ hwf (fun c p t ht => ?_)
  dsimp only
  repeat' split
  all_goals simp [ht]

@[simp] theorem collRunOp_mem (s : Blk) : (collRunOp s).mem = s.mem := by
  unfold collRunOp
  exact Blk.withCmd_mem _ _ _ (fun c p t ht => by simpa using ht)

@[simp] theorem collCloseOp_mem (s : Blk) : (collCloseOp s).mem = s.mem := by
  unfold collCloseOp
  exact Blk.withCmd_mem _ _ _ (fun c p t ht => by simpa using ht)

@[simp] theorem collModeWriteOp_mem (i : Nat) (v : BitVec 32) (s : Blk) : (collModeWriteOp i v s).mem = s.mem := by simp [collModeWriteOp]

@[simp] theorem Blk.sourceTile_mem_wf (s : Blk) (x : Ctx) (t : Nat) (hwf : s.mem.wf = true) : (s.sourceTile x t).1.mem.wf = true := by
  unfold Blk.sourceTile
  dsimp only
  repeat' split
  all_goals simp [hwf]

@[simp] theorem Blk.stageSource_mem_wf (s : Blk) (x : Ctx) (r t : Nat) (hwf : s.mem.wf = true) : (s.stageSource x r t).1.mem.wf = true := by
  simp [Blk.stageSource, hwf]

@[simp] theorem Blk.markHw_mem (s : Blk) (n r : Nat) (w : CollHw) : (s.markHw n r w).mem = s.mem := by simp [Blk.markHw]

@[simp] theorem collRoundStartOp_mem_wf (n : Nat) (hw : CollHw) (s : Blk) (hwf : s.mem.wf = true) : (collRoundStartOp n hw s).mem.wf = true := by
  unfold collRoundStartOp
  extract_lets x tiles ps g
  have hg : g.1.mem.wf = true := by simp [g, hwf]
  split
  · exact hwf
  · extract_lets r res
    have hres : res.1.mem.wf = true :=
      foldl_fst_mem_wf _ _ _ (by simpa using hg) (fun b t hb => Blk.stageSource_mem_wf _ _ _ _ hb)
    split
    · exact hwf
    · split
      · simpa using hwf
      · split
        · simpa using hg
        · simp [hres]

@[simp] theorem Blk.stageContrib_mem_wf (s : Blk) (n r : Nat) (k : Contrib) (data : List Byte) (hwf : s.mem.wf = true) :
    (s.stageContrib n r k data).mem.wf = true := by
  unfold Blk.stageContrib
  dsimp only
  split <;> simp [hwf]

@[simp] theorem mxmrStagedOp_mem_wf (pos : Pos) (hw : CollHw) (s : Blk) (hwf : s.mem.wf = true) : (mxmrStagedOp pos hw s).mem.wf = true := by
  unfold mxmrStagedOp
  dsimp only
  split
  · simp [hwf]
  · split <;> simp [hwf]

@[simp] theorem collLocalCloseTimeoutOp_mem_wf (n r : Nat) (hw : CollHw) (s : Blk) (hwf : s.mem.wf = true) :
    (collLocalCloseTimeoutOp n r hw s).mem.wf = true := by
  simp [collLocalCloseTimeoutOp, hwf]

@[simp] theorem collRoundTimeoutOp_mem_wf (n r : Nat) (s : Blk) (hwf : s.mem.wf = true) : (collRoundTimeoutOp n r s).mem.wf = true := by
  simp [collRoundTimeoutOp, hwf]

@[simp] theorem Blk.segment_mem_wf (s : Blk) (h : List Byte) (kind : Nat) (hw : CollHw) (f : Ctx → CRound → CRound) (hwf : s.mem.wf = true) :
    (s.segment h kind hw f).mem.wf = true := by
  unfold Blk.segment
  split <;> simp [hwf]

@[simp] theorem collSegmentDataOp_mem_wf (h : List Byte) (items : List (List Byte × Bool)) (hw : CollHw) (s : Blk) (hwf : s.mem.wf = true) :
    (collSegmentDataOp h items hw s).mem.wf = true := by
  simp [collSegmentDataOp, hwf]

@[simp] theorem collSegmentEndOp_mem_wf (h : List Byte) (hw : CollHw) (s : Blk) (hwf : s.mem.wf = true) :
    (collSegmentEndOp h hw s).mem.wf = true := by
  simp [collSegmentEndOp, hwf]

@[simp] theorem collSegmentArriveOp_mem_wf (h : List Byte) (s : Blk) (hwf : s.mem.wf = true) : (collSegmentArriveOp h s).mem.wf = true := by
  simp [collSegmentArriveOp, hwf]

@[simp] theorem Blk.resetColl_mem_wf (s : Blk) (i : Nat) (hwf : s.mem.wf = true) : (s.resetColl i).mem.wf = true := by
  unfold Blk.resetColl
  dsimp only
  split
  · rw [Blk.event_mem]
    exact forL_mem_wf _ _ s hwf (fun n t ht => forL_mem_wf _ _ t ht (fun q u hu => by simp [hu]))
  · exact forL_mem_wf _ _ s hwf (fun n t ht => forL_mem_wf _ _ t ht (fun q u hu => by simp [hu]))

/-! ## Discovery -/

@[simp] theorem Blk.sendHello_mem_wf (s : Blk) (hwf : s.mem.wf = true) : s.sendHello.mem.wf = true := by simp +contextual [Blk.sendHello, hwf]

@[simp] theorem Blk.floodLsa_mem_wf (s : Blk) (ports : List Nat) (a : Lsa) (hops : Nat) (hwf : s.mem.wf = true) :
    (s.floodLsa ports a hops).mem.wf = true := by
  simp +contextual [Blk.floodLsa, hwf]

@[simp] theorem Blk.startDisc_mem (s : Blk) : s.startDisc.mem = s.mem := by
  unfold Blk.startDisc
  rw [Blk.mem_withDisc]
  exact forN_mem 64 _ s (fun l t => by simp)

@[simp] theorem discStartOp_mem (v : BitVec 32) (s : Blk) : (discStartOp v s).mem = s.mem := by simp [discStartOp]

@[simp] theorem helloTimerOp_mem_wf (flood : Bool) (s : Blk) (hwf : s.mem.wf = true) : (helloTimerOp flood s).mem.wf = true := by
  simp +contextual [helloTimerOp, hwf]

theorem Blk.takeBasic_mem {s t : Blk} {l kind : Nat} {p : BasicPkt} (ht : s.takeBasic l kind = some (p, t)) : t.mem = s.mem := by
  obtain ⟨x, -, hx⟩ := Option.bind_eq_some_iff.mp ht
  split at hx <;> cases hx
  rfl

@[simp] theorem Blk.helloIn_mem (s : Blk) (l : Nat) (p : List Byte) : (s.helloIn l p).mem = s.mem := by simp [Blk.helloIn]

@[simp] theorem helloOp_mem (l : Nat) (s : Blk) : (helloOp l s).mem = s.mem := by
  unfold helloOp
  split
  · rename_i ht
    rw [Blk.helloIn_mem, Blk.takeBasic_mem ht]
  · rfl

@[simp] theorem Blk.lsaIn_mem_wf (s : Blk) (l hops : Nat) (p : List Byte) (hwf : s.mem.wf = true) : (s.lsaIn l hops p).mem.wf = true := by
  unfold Blk.lsaIn
  split <;> simp [hwf]

@[simp] theorem lsaOp_mem_wf (l : Nat) (s : Blk) (hwf : s.mem.wf = true) : (lsaOp l s).mem.wf = true := by
  unfold lsaOp
  split
  · rename_i ht
    exact Blk.lsaIn_mem_wf _ _ _ _ (by rw [Blk.takeBasic_mem ht, hwf])
  · exact hwf

@[simp] theorem discQuietExpiryOp_mem (s : Blk) : (discQuietExpiryOp s).mem = s.mem := by
  unfold discQuietExpiryOp
  extract_lets set me asg lost s1 disc1 none2 s2 s3 s4 disc4
  have h1 : s1.mem = s.mem := by simp [s1]
  have h2 : s2.mem = s.mem := by
    unfold s2
    split <;> simp [none2, h1]
  have h3 : s3.mem = s.mem := (forL_mem _ _ _ (fun a t => by split <;> simp)).trans h2
  have h4 : s4.mem = s.mem := by simp [s4, h3]
  split
  · rfl
  · rw [Blk.event_mem, Blk.setF_mem, Blk.mem_withDisc, h4]

@[simp] theorem portLinkUpOp_mem (l : Nat) (s : Blk) : (portLinkUpOp l s).mem = s.mem := by simp [portLinkUpOp]

/-! ## The end of waits -/

@[simp] theorem Blk.deliverPkt_mem_wf (s : Blk) (p : StreamPkt) (hwf : s.mem.wf = true) : (s.deliverPkt p).mem.wf = true := by
  unfold Blk.deliverPkt
  split <;> simp [hwf]

@[simp] theorem Blk.retryPkts_mem_wf (s : Blk) (hwf : s.mem.wf = true) : s.retryPkts.mem.wf = true := by simp +contextual [Blk.retryPkts, hwf]
@[simp] theorem Blk.retrySteps_mem_wf (s : Blk) (hwf : s.mem.wf = true) : s.retrySteps.mem.wf = true := by simp +contextual [Blk.retrySteps, hwf]

@[simp] theorem regionWakeDoneOp_mem_wf (r : BitVec 6) (s : Blk) (hwf : s.mem.wf = true) : (regionWakeDoneOp r s).mem.wf = true := by
  simp [regionWakeDoneOp, hwf]

@[simp] theorem pl3ExitOp_mem_wf (s : Blk) (hwf : s.mem.wf = true) : (pl3ExitOp s).mem.wf = true := by simp [pl3ExitOp, hwf]
@[simp] theorem Blk.endFlush_mem_wf (s : Blk) (g : Nat) (hwf : s.mem.wf = true) : (s.endFlush g).mem.wf = true := by simp [Blk.endFlush, hwf]

/-! ## The host link -/

@[simp] theorem Blk.flushL0_mem (s : Blk) : s.flushL0.mem = s.mem := by simp [Blk.flushL0]
@[simp] theorem hlTrainedOp_mem (speed width : Nat) (cxl : Bool) (s : Blk) : (hlTrainedOp speed width cxl s).mem = s.mem := by simp [hlTrainedOp]
@[simp] theorem hostLinkDownOp_mem (s : Blk) : (hostLinkDownOp s).mem = s.mem := by simp [hostLinkDownOp]
@[simp] theorem linkPowerStateEntryOp_mem (ps : LinkPs) (s : Blk) : (linkPowerStateEntryOp ps s).mem = s.mem := by simp [linkPowerStateEntryOp]
@[simp] theorem linkL0ReachedOp_mem (s : Blk) : (linkL0ReachedOp s).mem = s.mem := by simp [linkL0ReachedOp]

@[simp] theorem ltrWriteOp_mem (en : Bool) (snoop noSnoop : Option (BitVec 32)) (s : Blk) : (ltrWriteOp en snoop noSnoop s).mem = s.mem := by
  simp [ltrWriteOp]

@[simp] theorem Blk.biasViol_mem (s : Blk) (off : Nat) : (s.biasViol off).mem = s.mem := by simp [Blk.biasViol]
@[simp] theorem Blk.peerRefused_mem (s : Blk) : s.peerRefused.mem = s.mem := by simp [Blk.peerRefused]

@[simp] theorem hdmHostReadOp_mem_wf (off : BitVec 35) (len : Nat) (cxl : Bool) (rid : Option (BitVec 16)) (s : Blk) (hwf : s.mem.wf = true) :
    (hdmHostReadOp off len cxl rid s).mem.wf = true := by
  unfold hdmHostReadOp
  split <;> simp [hwf]

@[simp] theorem hdmHostWriteOp_mem_wf (off : BitVec 35) (data : List Byte) (cxl : Bool) (rid : Option (BitVec 16)) (s : Blk) (hwf : s.mem.wf = true) :
    (hdmHostWriteOp off data cxl rid s).mem.wf = true := by
  simp [hdmHostWriteOp, hwf]

@[simp] theorem Blk.startFlush_mem (s : Blk) (gs : List Nat) : (s.startFlush gs).mem = s.mem := by simp [Blk.startFlush]

@[simp] theorem hdmBiasSetOp_mem (s : Blk) : (hdmBiasSetOp s).mem = s.mem := by
  unfold hdmBiasSetOp
  exact Blk.withCmd_mem _ _ _ (fun c p t ht => by simpa using ht)

@[simp] theorem Blk.biasDone_mem (s : Blk) (g : Nat) : (s.biasDone g).mem = s.mem := by simp [Blk.biasDone]

@[simp] theorem Blk.endHostRead_mem (s : Blk) (tag : Nat) (data : Option (List Byte)) : (s.endHostRead tag data).mem = s.mem := by
  unfold Blk.endHostRead
  dsimp only
  split
  · simp
  · split <;> simp

@[simp] theorem apertureReadCompletionOp_mem (tag : Nat) (data : Option (List Byte)) (s : Blk) :
    (apertureReadCompletionOp tag data s).mem = s.mem := by
  simp [apertureReadCompletionOp]

@[simp] theorem completionTimeoutOp_mem (tag : Nat) (s : Blk) : (completionTimeoutOp tag s).mem = s.mem := by simp [completionTimeoutOp]
@[simp] theorem msixModTimerOp_mem (f : BitVec 6) (v : BitVec 11) (s : Blk) : (msixModTimerOp f v s).mem = s.mem := by simp [msixModTimerOp]
@[simp] theorem Blk.flushPba_mem (s : Blk) (f : Nat) : (s.flushPba f).mem = s.mem := by simp [Blk.flushPba]

@[simp] theorem msixUnmaskOp_mem (f : BitVec 6) (en fnMask : Bool) (v : Option (BitVec 11)) (s : Blk) :
    (msixUnmaskOp f en fnMask v s).mem = s.mem := by
  unfold msixUnmaskOp
  split <;> simp

@[simp] theorem pmeStatusClearOp_mem (f : BitVec 6) (s : Blk) : (pmeStatusClearOp f s).mem = s.mem := by simp [pmeStatusClearOp]

@[simp] theorem emuWriteOp_mem (off : BitVec 24) (size : Nat) (v : BitVec 32) (s : Blk) : (emuWriteOp off size v s).mem = s.mem := by
  simp [emuWriteOp]

@[simp] theorem Blk.emuApply_mem (s : Blk) (off v : Nat) : (s.emuApply off v).mem = s.mem := by simp [Blk.emuApply]

@[simp] theorem emuActOp_mem (s : Blk) : (emuActOp s).mem = s.mem := by
  unfold emuActOp
  split <;> simp

@[simp] theorem emuHeartbeatOp_mem (s : Blk) : (emuHeartbeatOp s).mem = s.mem := by simp [emuHeartbeatOp]
@[simp] theorem fwWatchdogOp_mem (s : Blk) : (fwWatchdogOp s).mem = s.mem := by simp [fwWatchdogOp]

/-! ## Instances -/

@[simp] theorem Blk.beginZero_mem_wf (s : Blk) (i : Nat) (rs : List Nat) (hwf : s.mem.wf = true) : (s.beginZero i rs).mem.wf = true :=
  forL_mem_wf _ _ _ (by simpa using hwf) (fun r t ht => Mem.zeroise_wf _ _ _ ht)

@[simp] theorem createInstanceOp_mem_wf (s : Blk) (hwf : s.mem.wf = true) : (createInstanceOp s).mem.wf = true := by
  refine Blk.withCmd_mem_wf _ _ _ hwf (fun c l t ht => ?_)
  split
  · simpa using ht
  · split
    · simpa using ht
    · refine Blk.beginZero_mem_wf _ _ _ ?_
      rw [forN_mem _ _ _ (fun k u => by simp)]
      simpa using ht

@[simp] theorem Blk.stopMoves_mem_wf (s : Blk) (i : Nat) (hwf : s.mem.wf = true) : (s.stopMoves i).mem.wf = true := by
  refine forL_mem_wf _ _ s hwf (fun p t ht => ?_)
  dsimp only
  split
  · exact Blk.settleMove_mem_wf _ _ ht
  · split <;> simpa using ht

@[simp] theorem Blk.stopWaits_mem (s : Blk) (i : Nat) : (s.stopWaits i).mem = s.mem := by simp [Blk.stopWaits]

@[simp] theorem Blk.stopWork_mem_wf (s : Blk) (i : Nat) (hwf : s.mem.wf = true) : (s.stopWork i).mem.wf = true := by
  have hend : ∀ (l : List Nat) (t : Blk), t.mem.wf = true → (forL l (fun sid u => u.endStep sid .aborted none) t).mem.wf = true :=
    fun l t ht => forL_mem_wf l _ t ht (fun sid u hu => by simp [hu])
  unfold Blk.stopWork
  refine Blk.stopMoves_mem_wf _ _ ?_
  rw [Blk.resetFt_mem]
  split
  · refine hend _ _ (Blk.resetColl_mem_wf _ _ (forL_mem_wf _ _ _ (by simpa using hwf) (fun _ _ ht => Mem.zeroise_wf _ _ _ ht)))
  · rw [Blk.modTt_mem]
    refine hend _ _ (Blk.resetColl_mem_wf _ _ (forL_mem_wf _ _ _ (by simpa using hwf) (fun _ _ ht => Mem.zeroise_wf _ _ _ ht)))

@[simp] theorem Blk.startReset_mem_wf (s : Blk) (i : Nat) (destroying : Bool) (hwf : s.mem.wf = true) :
    (s.startReset i destroying).mem.wf = true := by
  simp [Blk.startReset, hwf]

@[simp] theorem Blk.requestReset_mem_wf (s : Blk) (i : Nat) (hwf : s.mem.wf = true) : (s.requestReset i).mem.wf = true := by
  unfold Blk.requestReset
  split <;> simp [hwf]

@[simp] theorem Blk.requestDestroy_mem_wf (s : Blk) (i : Nat) (hwf : s.mem.wf = true) : (s.requestDestroy i).mem.wf = true := by
  unfold Blk.requestDestroy
  split <;> simp [hwf]

@[simp] theorem resetInstanceOp_mem_wf (s : Blk) (hwf : s.mem.wf = true) : (resetInstanceOp s).mem.wf = true :=
  Blk.withCmd_mem_wf _ _ _ hwf (fun c p t ht => by simp [ht])

@[simp] theorem destroyInstanceOp_mem_wf (s : Blk) (hwf : s.mem.wf = true) : (destroyInstanceOp s).mem.wf = true :=
  Blk.withCmd_mem_wf _ _ _ hwf (fun c p t ht => by simp [ht])

@[simp] theorem Blk.replyWaiters_mem (s : Blk) (i : Nat) : (s.replyWaiters i).mem = s.mem := by simp [Blk.replyWaiters]

@[simp] theorem Blk.beginClear_mem_wf (s : Blk) (i : Nat) (hwf : s.mem.wf = true) : (s.beginClear i).mem.wf = true := by
  simp +contextual [Blk.beginClear, hwf]

@[simp] theorem Blk.biasPhase_mem_wf (s : Blk) (i : Nat) (hwf : s.mem.wf = true) : (s.biasPhase i).mem.wf = true := by simp [Blk.biasPhase, hwf]

@[simp] theorem resetDrainDoneOp_mem_wf (i : BitVec 6) (s : Blk) (hwf : s.mem.wf = true) : (resetDrainDoneOp i s).mem.wf = true := by
  simp [resetDrainDoneOp, hwf]

@[simp] theorem biasFlushDoneOp_mem_wf (g : BitVec 19) (s : Blk) (hwf : s.mem.wf = true) : (biasFlushDoneOp g s).mem.wf = true := by
  have hf : ((s.endFlush g.toNat).biasDone g.toNat).placeHeld.mem.wf = true := by simp [hwf]
  unfold biasFlushDoneOp
  dsimp only
  split
  · exact hwf
  · exact forL_mem_wf _ _ _ (by simp [hf]) (fun i t ht => by simp [ht])

@[simp] theorem Blk.dirtyAll_mem (s : Blk) (i : Nat) : (s.dirtyAll i).mem = s.mem := by simp [Blk.dirtyAll]

@[simp] theorem Blk.bumpSser_mem (s : Blk) (ps : List Nat) : (s.bumpSser ps).mem = s.mem := forL_mem _ _ s (fun p t => by simp)

@[simp] theorem Blk.finishReset_mem_wf (s0 : Blk) (i : Nat) (hwf : s0.mem.wf = true) : (s0.finishReset i).mem.wf = true := by
  unfold Blk.finishReset
  dsimp only
  split
  · split <;> simp [hwf]
  · simp [hwf]

@[simp] theorem zeroiseDoneOp_mem_wf (r : BitVec 6) (s : Blk) (hwf : s.mem.wf = true) : (zeroiseDoneOp r s).mem.wf = true := by
  have hz := Mem.zeroise_wf s.mem (r.toNat * 2 ^ 29) (2 ^ 29) hwf
  unfold zeroiseDoneOp
  dsimp only
  split
  · exact hwf
  · split
    · simpa using hz
    · split
      · exact forL_mem_wf _ _ _ (by simpa using hz) (fun c t ht => by simpa using ht)
      · exact Blk.finishReset_mem_wf _ _ (by simpa using hz)

@[simp] theorem freezeInstanceOp_mem (s : Blk) : (freezeInstanceOp s).mem = s.mem := by
  unfold freezeInstanceOp
  exact Blk.withCmd_mem _ _ _ (fun c p t ht => by simpa using ht)

@[simp] theorem Blk.freezeNow_mem (s : Blk) (i b : Nat) : (s.freezeNow i b).mem = s.mem := by simp [Blk.freezeNow]
@[simp] theorem Blk.freezeAtBeat_mem (s : Blk) (b : Nat) : (s.freezeAtBeat b).mem = s.mem := by simp [Blk.freezeAtBeat]

@[simp] theorem Blk.setFrozen_mem (s : Blk) (i : Nat) (cut : Bool) : (s.setFrozen i cut).mem = s.mem := by
  unfold Blk.setFrozen
  dsimp only
  split <;> simp

@[simp] theorem freezeDoneOp_mem (i : BitVec 6) (s : Blk) : (freezeDoneOp i s).mem = s.mem := by simp [freezeDoneOp]
@[simp] theorem freezeCutOp_mem_wf (i : BitVec 6) (s : Blk) (hwf : s.mem.wf = true) : (freezeCutOp i s).mem.wf = true := by simp [freezeCutOp, hwf]

@[simp] theorem resumeInstanceOp_mem (s : Blk) : (resumeInstanceOp s).mem = s.mem := by
  unfold resumeInstanceOp
  exact Blk.withCmd_mem _ _ _ (fun c p t ht => by simpa using ht)

@[simp] theorem Blk.resetFn_mem (s : Blk) (f : Nat) : (s.resetFn f).mem = s.mem := by simp [Blk.resetFn]

@[simp] theorem flrVfOp_mem_wf (v : BitVec 6) (s : Blk) (hwf : s.mem.wf = true) : (flrVfOp v s).mem.wf = true := by
  unfold flrVfOp
  split <;> simp [hwf]

@[simp] theorem Blk.resetRegs_mem (s : Blk) (l : List Reg) : (s.resetRegs l).mem = s.mem := by simp [Blk.resetRegs]
@[simp] theorem flrPfOp_mem_wf (s : Blk) (hwf : s.mem.wf = true) : (flrPfOp s).mem.wf = true := by simp +contextual [flrPfOp, hwf]

/-! ## Migration -/

theorem Blk.withDirty_mem (s : Blk) (op : Nat) (f : CmdRef → List Byte → Blk → Blk) (h : ∀ c p t, t.mem = s.mem → (f c p t).mem = s.mem) :
    (s.withDirty op f).mem = s.mem := by
  unfold Blk.withDirty
  split
  · dsimp only
    split
    · refine Blk.withCmd_mem _ _ _ (fun c p t ht => ?_)
      split
      · simpa using ht
      · exact h c p t ht
    · rfl
  · rfl

@[simp] theorem dirtyLogStartOp_mem (s : Blk) : (dirtyLogStartOp s).mem = s.mem := by
  unfold dirtyLogStartOp
  exact Blk.withDirty_mem _ _ _ (fun c p t ht => by simpa using ht)

@[simp] theorem Blk.endEpoch_mem (s : Blk) (c : CmdRef) (go : Bool) : (s.endEpoch c go).mem = s.mem := by simp [Blk.endEpoch]

@[simp] theorem dirtyLogEpochOp_mem (s : Blk) : (dirtyLogEpochOp s).mem = s.mem := by
  unfold dirtyLogEpochOp
  exact Blk.withDirty_mem _ _ _ (fun c p t ht => by simpa using ht)

@[simp] theorem dirtyLogStopOp_mem (s : Blk) : (dirtyLogStopOp s).mem = s.mem := by
  unfold dirtyLogStopOp
  exact Blk.withDirty_mem _ _ _ (fun c p t ht => by simpa using ht)

@[simp] theorem saveInstanceOp_mem_wf (gmap : Option (List Byte)) (s : Blk) (hwf : s.mem.wf = true) : (saveInstanceOp gmap s).mem.wf = true :=
  Blk.withCmd_mem_wf _ _ _ hwf (fun c p t ht => by simp [ht])

theorem Blk.putGranule_mem_wf {s t : Blk} {i : Nat} {l : List Byte} (ht : s.putGranule i l = some t) (hwf : s.mem.wf = true) : t.mem.wf = true := by
  unfold Blk.putGranule at ht
  dsimp only at ht
  split at ht <;> cases ht
  refine forN_mem_wf _ _ _ (by simp [hwf]) (fun b u hu => ?_)
  split <;> simp [hu]

theorem Blk.putQueue_mem {s t : Blk} {i : Nat} {l : List Byte} (ht : s.putQueue i l = some t) : t.mem = s.mem := by
  unfold Blk.putQueue at ht
  dsimp only at ht
  split at ht <;> cases ht
  simp

theorem Blk.putQueues_mem {n : Nat} {s t : Blk} {i : Nat} {l : List Byte} (ht : Blk.putQueues n s i l = some t) : t.mem = s.mem := by
  induction n generalizing s l with
  | zero => cases ht; rfl
  | succ n ih =>
    unfold Blk.putQueues at ht
    split at ht
    · cases ht
    · rename_i u hu
      rw [ih ht, Blk.putQueue_mem hu]

theorem Blk.putRecord_mem_wf {s t : Blk} {i rtype : Nat} {l : List Byte} {cfg : Bool} (ht : s.putRecord i rtype l cfg = some t)
    (hwf : s.mem.wf = true) : t.mem.wf = true := by
  unfold Blk.putRecord at ht
  dsimp only at ht
  split at ht
  · split at ht <;> cases ht
    exact hwf
  · exact Blk.putGranule_mem_wf ht hwf
  · split at ht
    · cases ht
    · rw [Blk.putQueues_mem ht]
      exact hwf
  · split at ht <;> cases ht
    rw [forN_mem _ _ _ (fun k u => by simp)]
    exact hwf
  · split at ht <;> cases ht
    simpa using hwf
  · split at ht <;> cases ht
    simpa using hwf
  · split at ht <;> cases ht
    exact hwf
  · cases ht

@[simp] theorem Blk.restoreFrom_mem_wf (n : Nat) (s : Blk) (i : Nat) (l : List Byte) (o : Nat) (cfg : Bool) (hwf : s.mem.wf = true) :
    (Blk.restoreFrom n s i l o cfg).1.mem.wf = true := by
  induction n generalizing s o cfg with
  | zero => exact hwf
  | succ n ih =>
    unfold Blk.restoreFrom
    dsimp only
    split
    · exact hwf
    · split
      · exact hwf
      · rename_i t ht
        have htw := Blk.putRecord_mem_wf ht hwf
        split
        · exact htw
        · exact ih _ _ _ htw

@[simp] theorem restoreInstanceOp_mem_wf (image : Option (List Byte)) (s : Blk) (hwf : s.mem.wf = true) :
    (restoreInstanceOp image s).mem.wf = true := by
  refine Blk.withCmd_mem_wf _ _ _ hwf (fun c p t ht => ?_)
  dsimp only
  repeat' split
  all_goals simp [ht]

/-! ## The error handler, the scrubber and forced actions -/

@[simp] theorem Blk.handlerPick_mem (s : Blk) : s.handlerPick.mem = s.mem := by
  unfold Blk.handlerPick
  dsimp only
  split <;> simp

@[simp] theorem Blk.logEntry_mem (s : Blk) (e : ErrItem) : (s.logEntry e).mem = s.mem := by simp [Blk.logEntry]

@[simp] theorem errorHandleOp_mem (s : Blk) : (errorHandleOp s).mem = s.mem := by
  unfold errorHandleOp
  extract_lets s1
  have hs : s1.mem = s.mem := Blk.handlerPick_mem s
  split
  · rfl
  · split
    · rfl
    · extract_lets next
      have hnext (u : Blk) : (next u).mem = u.mem := rfl
      split
      · rw [hnext, Blk.logEntry_mem, hs]
      · rw [hnext, Blk.toSideboard_mem, hs]
      · exact hs

@[simp] theorem Blk.scrubSide_mem_wf (s : Blk) (p tb : Nat) (hw : HwErr) (hwf : s.mem.wf = true) : (s.scrubSide p tb hw).mem.wf = true := by
  unfold Blk.scrubSide
  repeat' split
  all_goals simp [hwf]

@[simp] theorem Blk.scrubDpa_mem_wf (s : Blk) (n : Nat) (block : Bool) (hw : HwErr) (hwf : s.mem.wf = true) : (s.scrubDpa n block hw).mem.wf = true := by
  have hr := Blk.hwRead_mem_wf s hw n hwf
  unfold Blk.scrubDpa
  dsimp only
  split
  · exact hwf
  · split
    · rw [Blk.readCheck_mem_wf, hr]
    · split
      · rw [Blk.readCheck_mem_wf, hr]
      · split
        · simpa using Mem.setPoison_wf _ _ hr
        · exact hr

@[simp] theorem scrubOp_mem_wf (x : ScrubAt) (hw : HwErr) (s : Blk) (hwf : s.mem.wf = true) : (scrubOp x hw s).mem.wf = true := by
  unfold scrubOp
  split <;> simp [hwf]

@[simp] theorem sideboardHeartbeatOp_mem (s : Blk) : (sideboardHeartbeatOp s).mem = s.mem := by simp [sideboardHeartbeatOp]

@[simp] theorem histFlashWriteOp_mem (ok : Bool) (s : Blk) : (histFlashWriteOp ok s).mem = s.mem := by
  unfold histFlashWriteOp
  split <;> simp

@[simp] theorem Blk.putForce_mem (s : Blk) (u act : Nat) : (s.putForce u act).mem = s.mem := by simp [Blk.putForce]
@[simp] theorem Blk.forceTest_mem (s : Blk) (n act : Nat) : (s.forceTest n act).mem = s.mem := by simp [Blk.forceTest]
@[simp] theorem relForceTestOp_mem (u : BitVec 20) (s : Blk) : (relForceTestOp u s).mem = s.mem := by simp [relForceTestOp]
@[simp] theorem relForceRetireOp_mem (u : BitVec 20) (s : Blk) : (relForceRetireOp u s).mem = s.mem := by simp [relForceRetireOp]
@[simp] theorem relForceReturnOp_mem (u : BitVec 20) (s : Blk) : (relForceReturnOp u s).mem = s.mem := by simp [relForceReturnOp]
@[simp] theorem hqUnitWriteOp_mem (v : BitVec 32) (s : Blk) : (hqUnitWriteOp v s).mem = s.mem := by simp [hqUnitWriteOp]
@[simp] theorem hqAnswerOp_mem (s : Blk) : (hqAnswerOp s).mem = s.mem := by simp [hqAnswerOp]
@[simp] theorem mctpMessageOp_mem (warn : Bool) (s : Blk) : (mctpMessageOp warn s).mem = s.mem := by simp [mctpMessageOp]

@[simp] theorem redfishRequestOp_mem (q : RedfishReq) (s : Blk) : (redfishRequestOp q s).mem = s.mem := by
  unfold redfishRequestOp
  split
  · simp
  · split <;> simp

@[simp] theorem aonParityOp_mem (x : AonFault) (s : Blk) : (aonParityOp x s).mem = s.mem := by simp [aonParityOp]

/-! ## Power, clocks and temperature -/

@[simp] theorem Blk.setLevel_mem (s : Blk) (r l : Nat) : (s.setLevel r l).mem = s.mem := by simp [Blk.setLevel]
@[simp] theorem Blk.linksOff_mem (s : Blk) : s.linksOff.mem = s.mem := by simp [Blk.linksOff]
@[simp] theorem Blk.switchOff_mem (s : Blk) : s.switchOff.mem = s.mem := by simp [Blk.switchOff]
@[simp] theorem Blk.evalRegion_mem (s : Blk) (r : Nat) : (s.evalRegion r).mem = s.mem := by simp [Blk.evalRegion]
@[simp] theorem Blk.enterPl4_mem (s : Blk) : s.enterPl4.mem = s.mem := by simp [Blk.enterPl4]
@[simp] theorem Blk.evalLevels_mem (s : Blk) : s.evalLevels.mem = s.mem := by simp [Blk.evalLevels]

@[simp] theorem Blk.powerRegions_mem_wf (s : Blk) (hwf : s.mem.wf = true) : s.powerRegions.mem.wf = true := by
  refine forN_mem_wf 64 _ s hwf (fun r t ht => ?_)
  split
  · exact ht
  · exact Mem.zeroise_wf _ _ _ ht

@[simp] theorem Blk.applyPorts_mem (s : Blk) : s.applyPorts.mem = s.mem := by simp [Blk.applyPorts]
@[simp] theorem d3hotEnterOp_mem (f : BitVec 6) (pmeEn : Bool) (s : Blk) : (d3hotEnterOp f pmeEn s).mem = s.mem := by simp [d3hotEnterOp]

@[simp] theorem d0ReturnOp_mem_wf (f : BitVec 6) (s : Blk) (hwf : s.mem.wf = true) : (d0ReturnOp f s).mem.wf = true := by
  unfold d0ReturnOp
  dsimp only
  split
  · simp [hwf]
  · split <;> simp [hwf]

@[simp] theorem freqStepOp_mem (r : BitVec 6) (s : Blk) : (freqStepOp r s).mem = s.mem := by simp [freqStepOp]
@[simp] theorem freqTgtWriteOp_mem (r : BitVec 6) (v : BitVec 32) (s : Blk) : (freqTgtWriteOp r v s).mem = s.mem := by simp [freqTgtWriteOp]
@[simp] theorem powerSampleOp_mem (vin iin : BitVec 16) (s : Blk) : (powerSampleOp vin iin s).mem = s.mem := by simp [powerSampleOp]
@[simp] theorem Blk.regionTemp_mem (s : Blk) (r t : Nat) : (s.regionTemp r t).mem = s.mem := by simp [Blk.regionTemp]

@[simp] theorem Blk.hotSensor_mem (s : Blk) (k t : Nat) : (s.hotSensor k t).mem = s.mem := by
  unfold Blk.hotSensor
  dsimp only
  split
  · rfl
  · have hs : (if k < 64 then s.setF F.FREQ_NOW_CAP k 800 else forN 64 (fun r u => u.setF F.FREQ_NOW_CAP r 800) s).mem = s.mem := by
      split
      · simp
      · exact forN_mem 64 _ s (fun r u => by simp)
    split <;> simpa using hs

@[simp] theorem Blk.thermTrip_mem (s : Blk) : s.thermTrip.mem = s.mem := by simp [Blk.thermTrip]
@[simp] theorem thermalSampleOp_mem (temps : List (BitVec 8)) (s : Blk) : (thermalSampleOp temps s).mem = s.mem := by simp [thermalSampleOp]
@[simp] theorem Blk.recalibrate_mem (s : Blk) (l : Nat) : (s.recalibrate l).mem = s.mem := by simp [Blk.recalibrate]

@[simp] theorem refLostOp_mem (s : Blk) : (refLostOp s).mem = s.mem := by
  unfold refLostOp
  split
  · rfl
  · refine (forN_mem 8 _ _ (fun n t => by simp)).trans ((foldl_mem _ _ _ (fun t k => by simp)).trans ((forN_mem 64 _ _ (fun l t => by simp)).trans (by simp)))

@[simp] theorem refRestoredOp_mem (s : Blk) : (refRestoredOp s).mem = s.mem := by simp [refRestoredOp]
@[simp] theorem pcieRefclkLostOp_mem (s : Blk) : (pcieRefclkLostOp s).mem = s.mem := by simp [pcieRefclkLostOp]
@[simp] theorem pcieRefclkRestoredOp_mem (s : Blk) : (pcieRefclkRestoredOp s).mem = s.mem := by simp [pcieRefclkRestoredOp]
@[simp] theorem pllUnlockOp_mem (d : Nat) (s : Blk) : (pllUnlockOp d s).mem = s.mem := by simp [pllUnlockOp]
@[simp] theorem vinSampleOp_mem (v : BitVec 16) (s : Blk) : (vinSampleOp v s).mem = s.mem := by simp [vinSampleOp]
@[simp] theorem Blk.enableRails_mem (s : Blk) : s.enableRails.mem = s.mem := by simp [Blk.enableRails]
@[simp] theorem pwrEnAssertOp_mem (s : Blk) : (pwrEnAssertOp s).mem = s.mem := by simp [pwrEnAssertOp]
@[simp] theorem pwrEnDeassertOp_mem (s : Blk) : (pwrEnDeassertOp s).mem = s.mem := by simp [pwrEnDeassertOp]
@[simp] theorem pwrEnHoldEndOp_mem (s : Blk) : (pwrEnHoldEndOp s).mem = s.mem := by simp [pwrEnHoldEndOp]

@[simp] theorem pwrGoodAssertOp_mem (s : Blk) : (pwrGoodAssertOp s).mem = s.mem := by
  unfold pwrGoodAssertOp
  split
  · exact foldl_mem pllDomains _ _ (fun t d => by simp)
  · rfl

@[simp] theorem railFaultOp_mem (s : Blk) : (railFaultOp s).mem = s.mem := by simp [railFaultOp]

@[simp] theorem positionResetOp_mem_wf (pos : BitVec 14) (s : Blk) (hwf : s.mem.wf = true) : (positionResetOp pos s).mem.wf = true := by
  simp +contextual [positionResetOp, hwf]

@[simp] theorem posResetDoneOp_mem (s : Blk) : (posResetDoneOp s).mem = s.mem := by simp [posResetDoneOp]

/-! ## Reset and boot -/

@[simp] theorem Blk.clusterRoles_mem (s : Blk) (g : Nat) (retired : List Nat) : (s.clusterRoles g retired).mem = s.mem := by simp [Blk.clusterRoles]
@[simp] theorem Blk.applyRoles_mem (s : Blk) (retired : List Nat) : (s.applyRoles retired).mem = s.mem := by simp [Blk.applyRoles]
@[simp] theorem Blk.resetBase_mem (s : Blk) : s.resetBase.mem = {} := rfl
@[simp] theorem powerOnResetOp_mem (s : Blk) : (powerOnResetOp s).mem = {} := by simp [powerOnResetOp]
@[simp] theorem perstNAssertOp_mem (s : Blk) : (perstNAssertOp s).mem = {} := by simp [perstNAssertOp]
@[simp] theorem perstNDeassertOp_mem (s : Blk) : (perstNDeassertOp s).mem = s.mem := by simp [perstNDeassertOp]
@[simp] theorem bootGoOp_mem (s : Blk) : (bootGoOp s).mem = s.mem := by simp [bootGoOp]
@[simp] theorem Blk.bbrSettings_mem (s : Blk) : s.bbrSettings.mem = s.mem := by simp [Blk.bbrSettings]
@[simp] theorem Blk.startPorts_mem_wf (s : Blk) (hwf : s.mem.wf = true) : s.startPorts.mem.wf = true := by simp +contextual [Blk.startPorts, hwf]

@[simp] theorem Blk.startTutoby_mem_wf (s : Blk) (m : List Byte) (katOk : Bool) (hwf : s.mem.wf = true) : (s.startTutoby m katOk).mem.wf = true := by
  simp [Blk.startTutoby, hwf]

@[simp] theorem bootVerifyOp_mem_wf (image : Option (List Byte)) (katOk : Bool) (s : Blk) (hwf : s.mem.wf = true) :
    (bootVerifyOp image katOk s).mem.wf = true := by
  simp [bootVerifyOp, hwf]

@[simp] theorem startupPortsDoneOp_mem (s : Blk) : (startupPortsDoneOp s).mem = s.mem := by simp [startupPortsDoneOp]
@[simp] theorem startupFabricReadyOp_mem (s : Blk) : (startupFabricReadyOp s).mem = s.mem := by simp [startupFabricReadyOp]
@[simp] theorem vbatLowOp_mem (s : Blk) : (vbatLowOp s).mem = s.mem := by simp [vbatLowOp]
@[simp] theorem Blk.setRtc_mem (s : Blk) (n : Nat) : (s.setRtc n).mem = s.mem := by simp [Blk.setRtc]
@[simp] theorem rtcTickOp_mem (s : Blk) : (rtcTickOp s).mem = s.mem := by simp [rtcTickOp]
@[simp] theorem rtcWriteOp_mem (v : BitVec 32) (s : Blk) : (rtcWriteOp v s).mem = s.mem := by simp [rtcWriteOp]

/-! ## Software accesses to registers -/

@[simp] theorem Blk.enableCauses_mem (s : Blk) (fn : Nat) (latched old new : Word) : (s.enableCauses fn latched old new).mem = s.mem := by
  simp [Blk.enableCauses]

@[simp] theorem Blk.writeQctl_mem (s : Blk) (q : Nat) (v m : Word) : (s.writeQctl q v m).mem = s.mem := by simp [Blk.writeQctl]
@[simp] theorem Blk.writeBbr_mem (s : Blk) (w : Nat) (v : Word) : (s.writeBbr w v).mem = s.mem := by simp [Blk.writeBbr]
@[simp] theorem Blk.writeForce_mem (s : Blk) (new : Word) : (s.writeForce new).mem = s.mem := by simp [Blk.writeForce]

theorem Blk.writeAction_mem_wf {s t : Blk} {r : Reg} {ix : Nat} {v m : Word} (ht : s.writeAction r ix v m = some t)
    (hwf : s.mem.wf = true) : t.mem.wf = true := by
  unfold Blk.writeAction at ht
  dsimp only at ht
  split at ht <;> cases ht <;> simp [hwf]

@[simp] theorem Blk.writeReg_mem_wf (s : Blk) (fn : Nat) (r : Reg) (ix : Nat) (v m : Word) (hwf : s.mem.wf = true) : (s.writeReg fn r ix v m).mem.wf = true := by
  unfold Blk.writeReg
  split
  · rename_i ht
    exact Blk.writeAction_mem_wf ht hwf
  · dsimp only
    split
    · exact hwf
    · split <;> simp [hwf]

@[simp] theorem Blk.endHold_mem_wf (s : Blk) (fn : Nat) (hwf : s.mem.wf = true) : (s.endHold fn).mem.wf = true := by
  unfold Blk.endHold
  split
  · simp [hwf]
  · split <;> simp [hwf]

@[simp] theorem Blk.badAccess_mem (s : Blk) (off : Nat) : (s.badAccess off).mem = s.mem := by simp [Blk.badAccess]
@[simp] theorem Blk.ring_mem (s : Blk) (q : Nat) : (s.ring q).mem = s.mem := by simp [Blk.ring]

@[simp] theorem regWriteOp_mem_wf (fn : BitVec 6) (bar2 : Bool) (off : BitVec 26) (size : Nat) (v : Word) (s : Blk) (hwf : s.mem.wf = true) :
    (regWriteOp fn bar2 off size v s).mem.wf = true := by
  unfold regWriteOp
  dsimp only
  repeat' split
  all_goals simp [hwf]

@[simp] theorem Blk.readReg_mem (s : Blk) (r : Reg) (ix : Nat) : (s.readReg r ix).1.mem = s.mem := by
  unfold Blk.readReg
  split <;> simp

@[simp] theorem Blk.read4_mem (s : Blk) (f : Nat) (bar2 : Bool) (o : Nat) : (s.read4 f bar2 o).mem = s.mem := by
  unfold Blk.read4
  repeat' split
  all_goals simp

@[simp] theorem Blk.read8_mem (s : Blk) (f : Nat) (o : Nat) : (s.read8 f o).mem = s.mem := by
  unfold Blk.read8
  split <;> simp

@[simp] theorem regLowHalfReadOp_mem_wf (fn : BitVec 6) (bar2 : Bool) (off : BitVec 26) (size : Nat) (s : Blk) (hwf : s.mem.wf = true) :
    (regLowHalfReadOp fn bar2 off size s).mem.wf = true := by
  simp [regLowHalfReadOp, hwf]

@[simp] theorem qpeakReadOp_mem (hub : Bool) (port : Nat) (s : Blk) : (qpeakReadOp hub port s).mem = s.mem := by
  unfold qpeakReadOp
  split <;> simp

@[simp] theorem pwrPeakReadOp_mem (s : Blk) : (pwrPeakReadOp s).mem = s.mem := by simp [pwrPeakReadOp]

/-! ## System instructions -/

@[simp] theorem srrOp_mem_wf (i : Issue) (f : FmtI) (s : Blk) (hwf : s.mem.wf = true) : (srrOp i f s).mem.wf = true :=
  Blk.issue_mem_wf _ _ _ _ _ _ _ _ hwf (fun t ht => by simp [ht])

@[simp] theorem srwOp_mem_wf (i : Issue) (f : FmtI) (s : Blk) (hwf : s.mem.wf = true) : (srwOp i f s).mem.wf = true :=
  Blk.issue_mem_wf _ _ _ _ _ _ _ _ hwf (fun t ht => by simp [ht])

@[simp] theorem tstartOp_mem_wf (i : Issue) (f : FmtI) (s : Blk) (hwf : s.mem.wf = true) : (tstartOp i f s).mem.wf = true :=
  Blk.issue_mem_wf _ _ _ _ _ _ _ _ hwf (fun t ht => by simp [ht])

@[simp] theorem nopOp_mem_wf (i : Issue) (f : FmtI) (s : Blk) (hwf : s.mem.wf = true) : (nopOp i f s).mem.wf = true :=
  Blk.issue_mem_wf _ _ _ _ _ _ _ _ hwf (fun t ht => by simp [ht])

@[simp] theorem replayRestartOp_mem_wf (sid : Nat) (s : Blk) (hwf : s.mem.wf = true) : (replayRestartOp sid s).mem.wf = true := by
  unfold replayRestartOp
  split <;> simp [hwf]

/-! ## Scalar instructions -/

@[simp] theorem Blk.writeG_mem (s : Blk) (p t d : Nat) (v : Word) : (s.writeG p t d v).mem = s.mem := by simp [Blk.writeG]

@[simp] theorem scalarR_mem_wf (op : AluOp) (i : Issue) (f : FmtR) (s : Blk) (hwf : s.mem.wf = true) : (scalarR op i f s).mem.wf = true :=
  Blk.issue_mem_wf _ _ _ _ _ _ _ _ hwf (fun t ht => by simp [ht])

@[simp] theorem scalarI_mem_wf (op : AluOp) (i : Issue) (f : FmtI) (s : Blk) (hwf : s.mem.wf = true) : (scalarI op i f s).mem.wf = true :=
  Blk.issue_mem_wf _ _ _ _ _ _ _ _ hwf (fun t ht => by simp [ht])

@[simp] theorem selOp_mem_wf (i : Issue) (f : FmtR) (s : Blk) (hwf : s.mem.wf = true) : (selOp i f s).mem.wf = true :=
  Blk.issue_mem_wf _ _ _ _ _ _ _ _ hwf (fun t ht => by simp [ht])

@[simp] theorem lihOp_mem_wf (i : Issue) (f : FmtI) (s : Blk) (hwf : s.mem.wf = true) : (lihOp i f s).mem.wf = true :=
  Blk.issue_mem_wf _ _ _ _ _ _ _ _ hwf (fun t ht => by simp [ht])

@[simp] theorem brOp_mem_wf (i : Issue) (f : FmtI) (s : Blk) (hwf : s.mem.wf = true) : (brOp i f s).mem.wf = true :=
  Blk.issue_mem_wf _ _ _ _ _ _ _ _ hwf (fun t ht => by simp [ht])

@[simp] theorem jalOp_mem_wf (i : Issue) (f : FmtI) (s : Blk) (hwf : s.mem.wf = true) : (jalOp i f s).mem.wf = true :=
  Blk.issue_mem_wf _ _ _ _ _ _ _ _ hwf (fun t ht => by simp [ht])

/-! ## A beat boundary -/

@[simp] theorem beatBoundaryOp_mem_wf (s : Blk) (hwf : s.mem.wf = true) : (beatBoundaryOp s).mem.wf = true := by simp [beatBoundaryOp, hwf]

/-! ## Vector instructions -/

@[simp] theorem vfOp_mem_wf (op : VfOp) (i : Issue) (f : FmtR) (s : Blk) (hwf : s.mem.wf = true) : (vfOp op i f s).mem.wf = true := by
  refine Blk.issue_mem_wf _ _ _ _ _ _ _ _ hwf (fun t ht => ?_)
  dsimp only
  split <;> simp [ht]

@[simp] theorem vcmpOp_mem_wf (i : Issue) (f : FmtR) (s : Blk) (hwf : s.mem.wf = true) : (vcmpOp i f s).mem.wf = true := by
  refine Blk.issue_mem_wf _ _ _ _ _ _ _ _ hwf (fun t ht => ?_)
  dsimp only
  split <;> simp [ht]

@[simp] theorem viOp_mem_wf (op : ViOp) (i : Issue) (f : FmtR) (s : Blk) (hwf : s.mem.wf = true) : (viOp op i f s).mem.wf = true :=
  Blk.issue_mem_wf _ _ _ _ _ _ _ _ hwf (fun t ht => by simp [ht])

@[simp] theorem vselOp_mem_wf (i : Issue) (f : FmtR) (s : Blk) (hwf : s.mem.wf = true) : (vselOp i f s).mem.wf = true :=
  Blk.issue_mem_wf _ _ _ _ _ _ _ _ hwf (fun t ht => by simp [ht])

@[simp] theorem vbcOp_mem_wf (i : Issue) (f : FmtR) (s : Blk) (hwf : s.mem.wf = true) : (vbcOp i f s).mem.wf = true :=
  Blk.issue_mem_wf _ _ _ _ _ _ _ _ hwf (fun t ht => by simp [ht])

@[simp] theorem vgetOp_mem_wf (i : Issue) (f : FmtR) (s : Blk) (hwf : s.mem.wf = true) : (vgetOp i f s).mem.wf = true :=
  Blk.issue_mem_wf _ _ _ _ _ _ _ _ hwf (fun t ht => by simp [ht])

@[simp] theorem vicmpOp_mem_wf (i : Issue) (f : FmtR) (s : Blk) (hwf : s.mem.wf = true) : (vicmpOp i f s).mem.wf = true :=
  Blk.issue_mem_wf _ _ _ _ _ _ _ _ hwf (fun t ht => by simp [ht])

@[simp] theorem vcvtOp_mem_wf (i : Issue) (f : FmtR) (s : Blk) (hwf : s.mem.wf = true) : (vcvtOp i f s).mem.wf = true := by
  refine Blk.issue_mem_wf _ _ _ _ _ _ _ _ hwf (fun t ht => ?_)
  dsimp only
  split <;> simp [ht]

@[simp] theorem vwaddOp_mem_wf (i : Issue) (f : FmtR) (s : Blk) (hwf : s.mem.wf = true) : (vwaddOp i f s).mem.wf = true :=
  Blk.issue_mem_wf _ _ _ _ _ _ _ _ hwf (fun t ht => by simp [ht])

@[simp] theorem vcvtwOp_mem_wf (i : Issue) (f : FmtR) (s : Blk) (hwf : s.mem.wf = true) : (vcvtwOp i f s).mem.wf = true :=
  Blk.issue_mem_wf _ _ _ _ _ _ _ _ hwf (fun t ht => by simp [ht])

@[simp] theorem vcvtfOp_mem_wf (i : Issue) (f : FmtR) (s : Blk) (hwf : s.mem.wf = true) : (vcvtfOp i f s).mem.wf = true :=
  Blk.issue_mem_wf _ _ _ _ _ _ _ _ hwf (fun t ht => by simp [ht])

/-! ## The commands and one step -/

theorem answered_mem_wf (f : Blk → Blk) (s : Blk) (h : (f s).mem.wf = true) : (answered f s).mem.wf = true := by
  have hr : (f s).retryPkts.mem.wf = true := by simp [h]
  exact Blk.memOk_ite _ (fun _ => hr) (fun _ => h)

/-- What `exec` answers for a command: a state of which only the device changed, its memory still well formed. -/
theorem exec_mem_wf (c : Instr) (s : State) (hwf : s.blk.mem.wf = true) :
    ∃ b : Blk, exec c s = .next { s with blk := b } ∧ b.mem.wf = true := by
  cases c with
  | rd p hw => exact ⟨_, rfl, fabricIn_mem_wf _ _ _ hwf fun q t => rdArrive_mem_wf q hw t⟩
  | wr p => exact ⟨_, rfl, fabricIn_mem_wf _ _ _ hwf wrArrive_mem_wf⟩
  | amo p hw => exact ⟨_, rfl, fabricIn_mem_wf _ _ _ hwf fun q t => amoArrive_mem_wf q hw t⟩
  | rdblk p hw => exact ⟨_, rfl, fabricIn_mem_wf _ _ _ hwf fun q t => rdblkArrive_mem_wf q hw t⟩
  | rsp p | ack p => exact ⟨_, rfl, answered_mem_wf _ _ (fabricIn_mem_wf _ _ _ hwf answerArrive_mem_wf)⟩
  | data p => exact ⟨_, rfl, fabricIn_mem_wf _ _ _ hwf dataArrive_mem_wf⟩
  | wblk p => exact ⟨_, rfl, fabricIn_mem_wf _ _ _ hwf wblkArrive_mem_wf⟩
  | rblk p => exact ⟨_, rfl, answered_mem_wf _ _ (by simp [fabricIn_mem, hwf])⟩
  | mbx p | note p | ctrl p | lkprobe p => exact ⟨_, rfl, by simp [fabricIn_mem, hwf]⟩
  | lkreply p => exact ⟨_, rfl, answered_mem_wf _ _ (fabricIn_mem_wf _ _ _ hwf lkreplyArrive_mem_wf)⟩
  | regionWakeDone r => exact ⟨_, rfl, Blk.placeWaiting_mem_wf _ (by simp [hwf])⟩
  | pl3Exit => exact ⟨_, rfl, Blk.placeWaiting_mem_wf _ (by simp [hwf])⟩
  | powerOnReset | perstNAssert => exact ⟨_, rfl, by simp [Mem.wf, cellsWf]⟩
  | _ => exact ⟨_, rfl, by simp [hwf]⟩

/-- Settles O4: a step idles or executes one command, and each command leaves the memory well formed. -/
theorem stepKeepsMemory : Obligations.StepKeepsMemory := by
  unfold Obligations.StepKeepsMemory
  intro s t hs h
  rcases hp : s.pending with _ | ⟨c, rest⟩ <;> rw [step, hp] at h
  · cases h
    exact hs
  · obtain ⟨b, hb, hwf⟩ := exec_mem_wf c { s with pending := rest } hs
    cases h.symm.trans hb
    exact hwf

end Sys2Proof.Machine
end

section
/-! PROOFS. What the statements on messages and on fragments say of a memory that is not in its canonical form (R126): there a write of 0 may leave
a byte as it is. Every state that the device reaches is in that form (`stepKeepsMemory`), but those statements speak of all states. -/

namespace Sys2Proof.Machine

/-- Cells whose addresses fall. A write of 0 at `a` stops at the address above it, and the byte at `a` stays 1. -/
def fallingCells (a : Nat) : List Host.Cell := [(a + 8, 1), (a, 1)]

/-- A device whose region 0 is in PL0 and owned, with every right on its first 512 MiB; its memory holds `cells`. -/
def fallingBlk (cells : List Host.Cell) : Blk :=
  { mem := { cells := cells }, owner := [(0, 0)], ins := [(0, { st := .active, gen := 1, map := [(0, 0xF00)] })],
    regs := [((.REG_PWR, 0), 0), ((.REGION_OK, 0), 1)] }

/-! ## A fragment -/

/-- A move of 16 bytes that are 0, in two fragments. -/
def zeroMove : Move := { inst := 0, gen := 1, host := false, src := 0x40, dst := 0x4FF8, len := 16, maskAddr := 0, nfrag := 2, todo := [0, 1] }

/-- The move, where the cells fall at its destination. -/
def fallingMove : State := { blk := { fallingBlk (fallingCells 0x4FF8) with moves := [(5, zeroMove)] } }

theorem fallingMove_fragment : fallingMove.fragment 5 0 zeroMove (0, 8) (some 0x40) (some 0x4FF8) := by
  refine ⟨rfl, .head _, rfl, rfl, rfl, by decide, by decide +kernel, fun a ha => ?_, fun d hd => ?_, rfl, nofun⟩
  · cases ha
    decide +kernel
  · cases hd
    decide +kernel

theorem fallingMove_source : fallingMove.blk.mem.bytes 0x40 8 = List.replicate 8 0 := by decide +kernel

theorem fallingMove_keeps_byte : (moveFragmentDoneOp 5 0 false none fallingMove.blk).mem.byte 0x4FF8 = 1 := by decide +kernel

/-- Refutes O47: in `fallingMove` the first fragment carries eight bytes that are 0, and the first byte of its destination is 1 before and after.
The statement does not ask that memory be in its canonical form. -/
theorem not_fragmentsMove : ¬ Obligations.FragmentsMove := by
  unfold Obligations.FragmentsMove
  intro h
  obtain ⟨t, ht, -, ⟨hstored, -⟩, -⟩ := (h 5 0 1 zeroMove (0, 8) fallingMove (by decide)).1 0x40 0x4FF8 fallingMove_fragment rfl rfl
  cases ht
  rw [fallingMove_source] at hstored
  exact absurd (fallingMove_keeps_byte.symm.trans (hstored 0 (by decide))) (by decide)

/-! ## The answer to a lock's probe -/

/-- The answer to a probe: the holder of the lock is not live. -/
def deadReply : StreamPkt := { vc := 3, kind := kLkreply, dst := 0, src := 1 }

/-- The operation of a thread that waits for the lock at 1000h. -/
def lockOp : OutOp := { id := 3, kind := .lock 9 0x1000 true false, addr := 0x1000 }

/-- The thread has probed the holder that the lock's word names, and the cells fall within the word. -/
def fallingProbe : State :=
  { blk := { fallingBlk ((0x1000, 1) :: fallingCells 0x1002) with
    cores := [(0, { threads := [(0, { st := .running, ops := [lockOp] })] })]
    reqs := [((0, 0), { kind := .probe 0x1000 0x10001 0 0 3 true none })] } }

theorem fallingProbe_admits : fallingProbe.admits deadReply := by
  unfold State.admits State.fromOutside; decide +kernel

theorem fallingProbe_newWord : (toLe 8 (fallingProbe.blk.holderOf 0 0 + 3)).getD 2 0 = 0 := by decide +kernel

theorem fallingProbe_keeps_byte : (answered (fabricIn deadReply lkreplyArrive) fallingProbe.blk).mem.byte 0x1002 = 1 := by decide +kernel

/-- Refutes O27: in `fallingProbe` the thread takes the lock from a holder that is gone. The third byte of the lock's word is 1 before and after,
where the word of the new holder has 0. The statement does not ask that memory be in its canonical form. -/
theorem not_messagesArrive : ¬ Obligations.MessagesArrive := by
  unfold Obligations.MessagesArrive
  intro h
  obtain ⟨-, -, -, -, -, hlkreply⟩ := (h deadReply fallingProbe).1 fallingProbe_admits
  obtain ⟨t, ht, -, ⟨hstored, -⟩, -⟩ :=
    (hlkreply _ 0x1000 0x10001 0 0 3 true lockOp 9 rfl rfl rfl (by decide +kernel) rfl rfl rfl (by decide) (by decide) (by decide +kernel) rfl).1 rfl
  cases ht
  exact absurd (fallingProbe_keeps_byte.symm.trans ((hstored 2 (by simp)).trans fallingProbe_newWord)) (by decide)

end Sys2Proof.Machine
end

section
/-! PROOFS. Fabric time (R202 to R211, R230): what a measured offset makes of the local copy and of its time state, and what a write of a
time register makes of the beats. -/

namespace Sys2Proof.Machine

/-! ## Rows of one shared operation -/

theorem State.gives_of_exec {s : State} {c : Instr} {b b' : Blk} (hexec : exec c s = .next { s with blk := b' }) (hb : b' = b) :
    s.gives c b :=
  hb ▸ hexec

theorem State.reaches_of_exec {s : State} {c : Instr} {b : Blk} {P : Blk → Prop}
    (hexec : exec c s = .next { s with blk := b }) (hP : P b) :
    s.reaches c P :=
  ⟨_, hexec, rfl, hP⟩

/-- R28: an access ends no hold where its function holds no half of a register. -/
theorem State.noHold.endHold {s : State} {fn : Nat} (h : s.noHold fn) : s.blk.endHold fn = s.blk := by
  unfold State.noHold at h
  simp [Blk.endHold, h]

theorem State.noHold.exec_access {s : State} {fn : Nat} {c : Instr} {f : Blk → Blk} (h : s.noHold fn)
    (hexec : exec c s = .next { s with blk := f (s.blk.endHold fn) }) : exec c s = .next { s with blk := f s.blk } :=
  h.endHold ▸ hexec

/-! ## Fabric time under the operations that touch it -/

theorem quiet.time {s t : Blk} (h : quiet s t) : t.time = s.time := by rw [h]

@[simp] theorem Blk.event_time (s : Blk) (src : Src) (idx bit : Nat) (i : Info) : (s.event src idx bit i).time = s.time :=
  (quiet_event s src idx bit i).time

@[simp] theorem Blk.timeSt_time (s : Blk) (st : TimeState) :
    (s.timeSt st).time = { s.time with st := st, inRow := 0, outRow := 0 } := rfl

@[simp] theorem Blk.timeSt_reg (s : Blk) (st : TimeState) (r : Reg) (i : Nat) : (s.timeSt st).reg r i = s.reg r i := rfl

@[simp] theorem Blk.recountBeats_ns (s : Blk) : s.recountBeats.time.ns = s.time.ns := rfl
@[simp] theorem Blk.recountBeats_beat (s : Blk) : s.recountBeats.time.beat = s.beatAt s.time.ns := rfl
@[simp] theorem Blk.recountBeats_beatQ (s : Blk) : s.recountBeats.beatQ = s.beatQ := rfl
@[simp] theorem Blk.recountBeats_beatEpoch (s : Blk) : s.recountBeats.beatEpoch = s.beatEpoch := rfl
@[simp] theorem Blk.recountBeats_beatAt (s : Blk) (ns : Nat) : s.recountBeats.beatAt ns = s.beatAt ns := rfl

@[simp] theorem Blk.setNs_regs (s : Blk) (ns frac : Nat) : (s.setNs ns frac).regs = s.regs := rfl
@[simp] theorem Blk.setNs_ns (s : Blk) (ns frac : Nat) : (s.setNs ns frac).time.ns = ns % 2 ^ 64 := rfl
@[simp] theorem Blk.setNs_frac (s : Blk) (ns frac : Nat) : (s.setNs ns frac).time.frac = frac := rfl
@[simp] theorem Blk.setNs_srcPresent (s : Blk) (ns frac : Nat) : (s.setNs ns frac).time.srcPresent = s.time.srcPresent := rfl
@[simp] theorem Blk.setNs_beat (s : Blk) (ns frac : Nat) : (s.setNs ns frac).time.beat = s.beatAt (ns % 2 ^ 64) := rfl

/-! ## The correction: a slew or a jump -/

theorem clampI_natAbs_le (n : Nat) (v : Int) : (clampI (-n) n v).1.natAbs ≤ n := by
  unfold clampI
  split
  · simp
  · split
    · simp
    · dsimp only; omega

/-- R204: the rate after a slew is within SLEW_PPM, and nothing else of the copy moves. The rate is bound here: unfolding it is costly. -/
theorem Blk.slew_time (s : Blk) : ∃ r : Int, s.slew.time = { s.time with rate := r } ∧ r.natAbs ≤ s.slewPpm * 65536 :=
  ⟨_, rfl, by simpa using clampI_natAbs_le (s.slewPpm * 65536) (Config.freeValue s.fresh).toInt⟩

@[simp] theorem Blk.slew_st (s : Blk) : s.slew.time.st = s.time.st := by
  obtain ⟨r, htime, -⟩ := s.slew_time
  rw [htime]

theorem Blk.activeTts_nil {s : Blk} (h : s.tts = []) : s.activeTts = [] := by
  simp [Blk.activeTts, Blk.tt, h]

/-- R207: a jump with no timetable to halt only sets NS, counts and raises TIME_JUMP. -/
theorem Blk.jump_idle {s : Blk} (off : Int) (h : s.activeTts = []) :
    s.jump off = ((s.setNs ((s.time.ns : Int) - off).toNat s.time.frac).count F.TIME_JUMP_CNT_COUNT).event .tt 0 4
      { info1 := ((s.time.ns : Int) - off).toNat } := by
  simp [Blk.jump, h]

/-- The state of an update that has shown its offset and found its source present. -/
def Blk.measured (s : Blk) (off : Int) : Blk :=
  { s.setF F.TT_OFFSET_OFFSET 0 (offsetReg off) with time := { s.time with srcPresent := true } }

@[simp] theorem Blk.measured_mem (s : Blk) (off : Int) : (s.measured off).mem = s.mem := rfl
@[simp] theorem Blk.measured_tts (s : Blk) (off : Int) : (s.measured off).tts = s.tts := rfl
@[simp] theorem Blk.measured_time (s : Blk) (off : Int) : (s.measured off).time = { s.time with srcPresent := true } := rfl

theorem Blk.measured_slewPpm (s : Blk) (off : Int) : (s.measured off).slewPpm = s.slewPpm :=
  congrArg (max 1) (getF_setF_other s F.TT_OFFSET_OFFSET F.TT_SLEW_SLEW_PPM 0 0 _ (.inl nofun))

/-- An update's correction of the local copy (R204), before the update's time state is judged. -/
def Blk.corrected (s : Blk) (off : Int) : Blk :=
  if off.natAbs > s.getF F.TT_SERVO_STEP_THR then (s.measured off).jump off else (s.measured off).slew

theorem Blk.corrected_of_le {s : Blk} {off : Int} (h : off.natAbs ≤ s.getF F.TT_SERVO_STEP_THR) :
    s.corrected off = (s.measured off).slew :=
  if_neg (by omega)

theorem Blk.corrected_of_gt {s : Blk} {off : Int} (h : s.getF F.TT_SERVO_STEP_THR < off.natAbs) :
    s.corrected off = (s.measured off).jump off :=
  if_pos h

/-! ## An update, by the time state that it finds (R205) -/

section
variable {s : Blk} {off : Int}

theorem Blk.timeUpdate_acquiring (hst : s.time.st = .acquiring) : s.timeUpdate off =
    if off.natAbs ≤ s.getF F.TT_SERVO_LOCK_THR then
      if 8 ≤ s.time.inRow + 1 then ((s.corrected off).timeSt .locked).event .tt 0 0
      else { s.corrected off with time := { (s.corrected off).time with inRow := s.time.inRow + 1 } }
    else { s.corrected off with time := { (s.corrected off).time with inRow := 0 } } := by
  simp only [Blk.timeUpdate, Blk.corrected, Blk.measured, hst, decide_eq_true_eq, ge_iff_le, gt_iff_lt]

theorem Blk.timeUpdate_locked (hst : s.time.st = .locked) : s.timeUpdate off =
    if off.natAbs ≤ s.getF F.TT_SERVO_LOCK_THR then { s.corrected off with time := { (s.corrected off).time with outRow := 0 } }
    else if 8 ≤ s.time.outRow + 1 then ((s.corrected off).timeSt .acquiring).event .tt 0 1
    else { s.corrected off with time := { (s.corrected off).time with outRow := s.time.outRow + 1 } } := by
  simp only [Blk.timeUpdate, Blk.corrected, Blk.measured, hst, Bool.not_eq_true', decide_eq_false_iff_not, ite_not, ge_iff_le, gt_iff_lt]

theorem Blk.timeUpdate_sourceless (hst : s.time.st = .holdover ∨ s.time.st = .lost) : s.timeUpdate off =
    { s.corrected off with time := { (s.corrected off).time with
      st := .acquiring, inRow := b2n (decide (off.natAbs ≤ s.getF F.TT_SERVO_LOCK_THR)), outRow := 0, holdMs := 0 } } := by
  rcases hst with hst | hst <;> simp only [Blk.timeUpdate, Blk.corrected, Blk.measured, Blk.timeSt, hst]

/-- Whatever the time state, the local copy, its rate and memory are those of the correction. -/
theorem Blk.timeUpdate_copy (hst : s.time.st ≠ .free) :
    (s.timeUpdate off).time.srcPresent = (s.corrected off).time.srcPresent ∧ (s.timeUpdate off).time.ns = (s.corrected off).time.ns ∧
      (s.timeUpdate off).mem = (s.corrected off).mem ∧ (s.timeUpdate off).time.rate = (s.corrected off).time.rate := by
  cases h : s.time.st with
  | free => exact absurd h hst
  | acquiring =>
    rw [Blk.timeUpdate_acquiring h]
    split
    · split <;> simp
    · simp
  | locked =>
    rw [Blk.timeUpdate_locked h]
    split
    · simp
    · split <;> simp
  | holdover => simp [Blk.timeUpdate_sourceless (.inl h)]
  | lost => simp [Blk.timeUpdate_sourceless (.inr h)]

theorem Blk.timeUpdate_locks (hst : s.time.st = .acquiring) (hin : off.natAbs ≤ s.getF F.TT_SERVO_LOCK_THR) (hrow : 7 ≤ s.time.inRow) :
    (s.timeUpdate off).time.st = .locked := by
  simp [Blk.timeUpdate_acquiring hst, hin, hrow]

theorem Blk.timeUpdate_unlocks (hst : s.time.st = .locked) (hout : s.getF F.TT_SERVO_LOCK_THR < off.natAbs) (hrow : 7 ≤ s.time.outRow) :
    (s.timeUpdate off).time.st = .acquiring := by
  simp [Blk.timeUpdate_locked hst, Nat.not_le.mpr hout, hrow]

section
variable (hstep : off.natAbs ≤ s.getF F.TT_SERVO_STEP_THR)
include hstep

theorem Blk.timeUpdate_counts_inRow (hst : s.time.st = .acquiring) (hin : off.natAbs ≤ s.getF F.TT_SERVO_LOCK_THR)
    (hrow : s.time.inRow < 7) : (s.timeUpdate off).time.st = .acquiring ∧ (s.timeUpdate off).time.inRow = s.time.inRow + 1 := by
  simp [Blk.timeUpdate_acquiring hst, hin, Nat.not_le.mpr hrow, Blk.corrected_of_le hstep, hst]

theorem Blk.timeUpdate_ends_inRow (hst : s.time.st = .acquiring) (hout : s.getF F.TT_SERVO_LOCK_THR < off.natAbs) :
    (s.timeUpdate off).time.st = .acquiring ∧ (s.timeUpdate off).time.inRow = 0 := by
  simp [Blk.timeUpdate_acquiring hst, Nat.not_le.mpr hout, Blk.corrected_of_le hstep, hst]

theorem Blk.timeUpdate_counts_outRow (hst : s.time.st = .locked) (hout : s.getF F.TT_SERVO_LOCK_THR < off.natAbs)
    (hrow : s.time.outRow < 7) : (s.timeUpdate off).time.st = .locked ∧ (s.timeUpdate off).time.outRow = s.time.outRow + 1 := by
  simp [Blk.timeUpdate_locked hst, Nat.not_le.mpr hout, Nat.not_le.mpr hrow, Blk.corrected_of_le hstep, hst]

theorem Blk.timeUpdate_ends_outRow (hst : s.time.st = .locked) (hin : off.natAbs ≤ s.getF F.TT_SERVO_LOCK_THR) :
    (s.timeUpdate off).time.st = .locked ∧ (s.timeUpdate off).time.outRow = 0 := by
  simp [Blk.timeUpdate_locked hst, hin, Blk.corrected_of_le hstep, hst]

end

/-- R204: an offset within STEP_THR is slewed away. NS stays, and the rate is within SLEW_PPM. -/
theorem Blk.timeUpdate_slews (hst : s.time.st ≠ .free) (hoff : off.natAbs ≤ s.getF F.TT_SERVO_STEP_THR) :
    (s.timeUpdate off).time.srcPresent = true ∧ (s.timeUpdate off).time.ns = s.time.ns ∧ (s.timeUpdate off).mem = s.mem ∧
      (s.timeUpdate off).time.rate.natAbs ≤ s.slewPpm * 65536 := by
  obtain ⟨hsrc, hns, hmem, hrate⟩ := Blk.timeUpdate_copy (off := off) hst
  obtain ⟨r, htime, hle⟩ := (s.measured off).slew_time
  rw [Blk.measured_slewPpm] at hle
  rw [hsrc, hns, hmem, hrate, Blk.corrected_of_le hoff, htime]
  simpa using hle

/-- R204, R207: an offset above STEP_THR is taken off NS at once. -/
theorem Blk.timeUpdate_jumps (hst : s.time.st ≠ .free) (htts : s.tts = []) (hoff : s.getF F.TT_SERVO_STEP_THR < off.natAbs) :
    (s.timeUpdate off).time.ns = ((s.time.ns : Int) - off).toNat % 2 ^ 64 ∧ (s.timeUpdate off).time.srcPresent = true ∧
      (s.timeUpdate off).mem = s.mem := by
  obtain ⟨hsrc, hns, hmem, -⟩ := Blk.timeUpdate_copy (off := off) hst
  rw [hsrc, hns, hmem, Blk.corrected_of_gt hoff, Blk.jump_idle off (Blk.activeTts_nil (by simpa using htts))]
  simp

end

/-! ## The rows of the source (R202, R203, R205) -/

/-- `off` is the offset that a row measures from the selected source: of a PTP measurement of its port and domain, or of a PPS edge. -/
def State.measures (s : State) (c : Instr) (off : Int) : Prop :=
  (∃ (l : BitVec 6) (dom : BitVec 8) (o : BitVec 64), c = .timeUpdate l dom o ∧ s.blk.timeSrc = 1 ∧
      l.toNat = s.blk.getF F.TT_SRC_CFG_PTP_LPORT ∧ dom.toNat = s.blk.getF F.TT_SRC_CFG_DOMAIN ∧ off = o.toInt) ∨
    (∃ l : BitVec 64, c = .ppsEdge l ∧ s.blk.timeSrc = 2 ∧
      let t : Int := (l.toNat : Int) - (s.blk.getF F.TT_PPS_CFG_IN_DELAY : Int)
      off = t - (t + 500000000) / 1000000000 * 1000000000)

theorem State.measures.exec_eq {s : State} {c : Instr} {off : Int} (h : s.measures c off) :
    exec c s = .next { s with blk := s.blk.timeUpdate off } := by
  obtain ⟨l, dom, o, rfl, hsrc, hl, hdom, rfl⟩ | ⟨l, rfl, hsrc, rfl⟩ := h
  · have hop : timeUpdateOp l dom o s.blk = s.blk.timeUpdate o.toInt := if_pos ⟨hsrc, hl, hdom⟩
    rw [← hop]; rfl
  · have hop : ppsEdgeOp l s.blk = s.blk.timeUpdate _ := if_pos hsrc
    rw [← hop]; rfl

theorem timeUpdateOp_ignored {b : Blk} {l : BitVec 6} {dom : BitVec 8} (o : BitVec 64)
    (h : b.timeSrc ≠ 1 ∨ l.toNat ≠ b.getF F.TT_SRC_CFG_PTP_LPORT ∨ dom.toNat ≠ b.getF F.TT_SRC_CFG_DOMAIN) :
    timeUpdateOp l dom o b = b :=
  if_neg fun ⟨hsrc, hl, hdom⟩ => h.elim (· hsrc) (Or.elim · (· hl) (· hdom))

/-- R205: a source that falls silent. The rate stays, and HOLD_MS counts from 0. -/
theorem timeSourceTimeoutOp_holds {b : Blk} (h : b.time.st = .locked ∨ b.time.st = .acquiring) :
    (timeSourceTimeoutOp b).time.st = .holdover ∧ (timeSourceTimeoutOp b).time.srcPresent = false ∧
      (timeSourceTimeoutOp b).time.ns = b.time.ns ∧ (timeSourceTimeoutOp b).time.rate = b.time.rate ∧
      (timeSourceTimeoutOp b).holdMs = 0 := by
  simp [timeSourceTimeoutOp, h.symm, Blk.holdMs]

theorem holdoverExpiryOp_loses {b : Blk} (h : b.time.st = .holdover) :
    (holdoverExpiryOp b).time.st = .lost ∧ (holdoverExpiryOp b).time.ns = b.time.ns ∧ 1000 ≤ (holdoverExpiryOp b).holdMs := by
  have hms : (holdoverExpiryOp b).holdMs = min 65535 (max 1000 b.holdMs) := by simp [holdoverExpiryOp, h, Blk.holdMs]
  rw [hms]
  refine ⟨by simp [holdoverExpiryOp, h], by simp [holdoverExpiryOp, h], by omega⟩

theorem holdoverExpiryOp_idle {b : Blk} (h : b.time.st ≠ .holdover) : holdoverExpiryOp b = b := if_neg h

/-- R205: SRC 0 leads to FREE; the register keeps the eighteen bits of its fields. -/
theorem srcWriteOp_free {v : BitVec 32} (b : Blk) (h : v.toNat % 4 = 0) :
    srcWriteOp v b = (b.setReg .TT_SRC_CFG 0 (BitVec.ofNat 64 (v.toNat % 2 ^ 18))).timeSt .free := by
  have hsrc : (b.setReg .TT_SRC_CFG 0 (BitVec.ofNat 64 (v.toNat % 2 ^ 18))).getF F.TT_SRC_CFG_SRC = 0 := by
    simp only [Blk.getF, F.TT_SRC_CFG_SRC, reg_setReg_same, BitVec.toNat_ofNat, bits, Nat.shiftRight_zero]
    omega
  exact if_pos (by rw [Blk.timeSrc, hsrc]; rfl)

theorem srcWriteOp_reg {v : BitVec 32} (b : Blk) (h : v.toNat % 4 = 0) : ((srcWriteOp v b).reg .TT_SRC_CFG).toNat = v.toNat % 2 ^ 18 := by
  rw [srcWriteOp_free b h, Blk.timeSt_reg, reg_setReg_same, BitVec.toNat_ofNat]
  omega

/-! ## The time registers (R202, R208, R210, R211, R230) -/

theorem ttSetWriteOp_loads {b : Blk} (v : Word) (hst : b.time.st = .free) (htts : b.activeTts = []) :
    ttSetWriteOp v true b = b.setNs v.toNat 0 :=
  if_pos ⟨rfl, hst, htts⟩

theorem ttSetWriteOp_refused {b : Blk} (v : Word) {full : Bool} (h : b.time.st ≠ .free ∨ b.activeTts ≠ [] ∨ full = false) :
    ttSetWriteOp v full b = b.event .tt 0 5 :=
  if_neg (by rintro ⟨rfl, hst, htts⟩; simp [hst, htts] at h)

theorem ttBeatCfgWriteOp_counts {b : Blk} {v : BitVec 32} (htts : b.activeTts = []) (hlo : 1 ≤ v.toNat) (hhi : v.toNat ≤ 262140) :
    ttBeatCfgWriteOp v b = (b.setF F.TT_BEAT_CFG_BEAT_Q 0 v.toNat).recountBeats := by
  have hmod : v.toNat % 2 ^ 18 = v.toNat := Nat.mod_eq_of_lt (by omega)
  unfold ttBeatCfgWriteOp
  rw [hmod]
  exact if_pos ⟨htts, hlo, hhi⟩

theorem ttBeatCfgWriteOp_refused {b : Blk} (v : BitVec 32) (h : b.activeTts ≠ []) : ttBeatCfgWriteOp v b = b.event .tt 0 6 :=
  if_neg fun hok => h hok.1

theorem ttBeatEpochWriteOp_counts {b : Blk} (v : Word) (htts : b.activeTts = []) (hlo : 1 ≤ b.beatQ) (hhi : b.beatQ ≤ 262140) :
    ttBeatEpochWriteOp v b = (b.setReg .TT_BEAT_EPOCH 0 v).recountBeats :=
  if_pos ⟨htts, hlo, hhi⟩

theorem ttBeatEpochWriteOp_refused {b : Blk} (v : Word) (h : b.activeTts ≠ []) : ttBeatEpochWriteOp v b = b.event .tt 0 6 :=
  if_neg fun hok => h hok.1

/-- BEAT_Q reads as it was stored, where it fits its field. -/
theorem Blk.beatQ_setF {b : Blk} {q : Nat} (h : q < 2 ^ 18) : (b.setF F.TT_BEAT_CFG_BEAT_Q 0 q).beatQ = q :=
  (getF_setF_same b F.TT_BEAT_CFG_BEAT_Q 0 q (by decide) (by decide)).trans (Nat.mod_eq_of_lt h)

@[simp] theorem Blk.beatEpoch_setReg (b : Blk) (v : Word) : (b.setReg .TT_BEAT_EPOCH 0 v).beatEpoch = v.toNat := by
  simp [Blk.beatEpoch]

/-- Reading TT_TIME captures FRAC, in its sixteen bits. -/
theorem ttTimeReadOp_frac (b : Blk) : (ttTimeReadOp b).getF F.TT_TIME_FRAC_FRAC = b.time.frac % 2 ^ 16 :=
  getF_setF_same b F.TT_TIME_FRAC_FRAC 0 b.time.frac (by decide) (by decide)

/-! ## The writes and reads of a function that holds no half of a register -/

section
variable {s : State} (h : s.noHold 0)
include h

theorem State.noHold.exec_srcWrite (v : BitVec 32) : exec (.srcWrite v) s = .next { s with blk := srcWriteOp v s.blk } :=
  h.exec_access (f := srcWriteOp v) rfl

theorem State.noHold.exec_ttSetWrite (v : Word) (full : Bool) :
    exec (.ttSetWrite v full) s = .next { s with blk := ttSetWriteOp v full s.blk } :=
  h.exec_access (f := ttSetWriteOp v full) rfl

theorem State.noHold.exec_ttBeatCfgWrite (v : BitVec 32) : exec (.ttBeatCfgWrite v) s = .next { s with blk := ttBeatCfgWriteOp v s.blk } :=
  h.exec_access (f := ttBeatCfgWriteOp v) rfl

theorem State.noHold.exec_ttBeatEpochWrite (v : Word) : exec (.ttBeatEpochWrite v) s = .next { s with blk := ttBeatEpochWriteOp v s.blk } :=
  h.exec_access (f := ttBeatEpochWriteOp v) rfl

theorem State.noHold.exec_ttTimeRead : exec .ttTimeRead s = .next { s with blk := ttTimeReadOp s.blk } :=
  h.exec_access (f := ttTimeReadOp) rfl

end

/-! ## The obligation -/

/-- Settles O29: a row that measures an offset is `Blk.timeUpdate` of it, whose equation for each time state gives the clauses on the
servo; every other row is one operation, in the case that the clause names. -/
theorem timeKept : Obligations.TimeKept := by
  unfold Obligations.TimeKept
  refine ⟨fun c off s hmeasured => ?_, fun s hs => ?_⟩
  · have h : s.measures c off := hmeasured
    refine ⟨fun hoff => ?_, fun hoff hst htts => State.reaches_of_exec h.exec_eq (Blk.timeUpdate_jumps hst htts hoff),
      fun hst => State.reaches_of_exec rfl (timeSourceTimeoutOp_holds hst),
      fun hst => State.reaches_of_exec rfl (holdoverExpiryOp_loses hst),
      fun l dom o hother => State.gives_of_exec rfl (timeUpdateOp_ignored o hother),
      fun hst => State.gives_of_exec rfl (holdoverExpiryOp_idle hst), fun hs v hv => ?_⟩
    · have slews (hst : s.blk.time.st ≠ .free) := Blk.timeUpdate_slews hst hoff
      exact ⟨fun hst hin hrow => State.reaches_of_exec h.exec_eq ⟨Blk.timeUpdate_locks hst hin hrow, slews (by simp [hst])⟩,
        fun hst hin hrow => State.reaches_of_exec h.exec_eq ⟨Blk.timeUpdate_counts_inRow hoff hst hin hrow, slews (by simp [hst])⟩,
        fun hst hout => State.reaches_of_exec h.exec_eq ⟨Blk.timeUpdate_ends_inRow hoff hst hout, slews (by simp [hst])⟩,
        fun hst hin => State.reaches_of_exec h.exec_eq ⟨Blk.timeUpdate_ends_outRow hoff hst hin, slews (by simp [hst])⟩,
        fun hst hout hrow => State.reaches_of_exec h.exec_eq ⟨Blk.timeUpdate_counts_outRow hoff hst hout hrow, slews (by simp [hst])⟩,
        fun hst hout hrow => State.reaches_of_exec h.exec_eq ⟨Blk.timeUpdate_unlocks hst hout hrow, slews (by simp [hst])⟩,
        fun hst => State.reaches_of_exec h.exec_eq
          ⟨by rw [Blk.timeUpdate_sourceless hst], slews (by rcases hst with hst | hst <;> simp [hst])⟩⟩
    · refine State.reaches_of_exec (hs.exec_srcWrite v) ⟨?_, ?_, srcWriteOp_reg s.blk hv⟩ <;> simp [srcWriteOp_free s.blk hv]
  · refine ⟨fun v hst htts => State.reaches_of_exec (hs.exec_ttSetWrite v true) ?_,
      fun v full hst => State.gives_of_exec (hs.exec_ttSetWrite v full) (ttSetWriteOp_refused v hst),
      fun v htts hlo hhi => State.reaches_of_exec (hs.exec_ttBeatCfgWrite v) ?_,
      fun v htts => State.gives_of_exec (hs.exec_ttBeatCfgWrite v) (ttBeatCfgWriteOp_refused v htts),
      fun v htts hlo hhi => State.reaches_of_exec (hs.exec_ttBeatEpochWrite v) ?_,
      fun v htts => State.gives_of_exec (hs.exec_ttBeatEpochWrite v) (ttBeatEpochWriteOp_refused v htts),
      State.reaches_of_exec hs.exec_ttTimeRead ⟨rfl, ttTimeReadOp_frac s.blk, rfl⟩,
      fun hon => State.gives_of_exec rfl (if_pos hon), fun hoff => State.gives_of_exec rfl (if_neg (by simp [hoff]))⟩
    · simp [ttSetWriteOp_loads v hst htts, Nat.mod_eq_of_lt v.isLt]
    · have hfits : v.toNat < 2 ^ 18 := by omega
      simp [ttBeatCfgWriteOp_counts htts hlo hhi, Blk.beatQ_setF hfits]
    · simp [ttBeatEpochWriteOp_counts v htts hlo hhi]

end Sys2Proof.Machine
end
